-- ==== Sys2Proof/Word.lean ====
section
/-! DEFINITION. The bit vectors the manual treats as bits: bytes and 16-bit words of frames, records and transactions, and the 32-bit counters. -/

namespace Sys2Proof

/-- A byte of a frame, a record, a transaction or a page; also a node id, an origin or a zone as it is carried. -/
abbrev Byte := BitVec 8

/-- A 16-bit field: a sequence number, an epoch, a zone address, a frame check. -/
abbrev Word := BitVec 16

/-- A 32-bit counter of the part: the demand sequence count (R173) and the completion counter (R198). -/
abbrev Count32 := BitVec 32

end Sys2Proof
end

