-- ==== Sys2Proof/Syntax.lean ====
section
/-! DEFINITION. The commands of the EN616: one constructor of `Instr` per row of spec/opcode_table.json, in its order, with what each event brings as operands. -/

namespace Sys2Proof

abbrev LegIx := Fin 6
abbrev DestIx := Fin 64
abbrev FaceIx := Fin 32
abbrev BlockIx := Fin 4

/-- The two deck link ports. -/
inductive Port where
  | da | db
  deriving DecidableEq, Repr

/-- Kinds of leg (R6). -/
inductive LegKind where
  | corridor | doorway | outerDeck | lift | stairDown | stairUp
  deriving DecidableEq, Repr

/-- Link states of a leg (R32). -/
inductive LinkState where
  | unheard | up | silent
  deriving DecidableEq, Repr

/-- Muster phases (R101). -/
inductive Phase where
  | quiet | alert | proceed | hold | standDown
  deriving DecidableEq, Repr

/-- A cost: paces, or one of the two sentinels (00, Conventions). -/
inductive Cost where
  | finite (paces : Nat)
  | unknown
  | unreachable
  deriving DecidableEq, Repr

/-- A best leg: a leg index, HERE or NONE (R1). -/
inductive WayOut where
  | leg (l : LegIx)
  | here
  | none
  deriving DecidableEq, Repr

/-- The class of a demand or of a generated chain (R171, R173). -/
inductive DemandClass where
  | muster | content
  deriving DecidableEq, Repr

/-- One entry of an ADVERT frame as carried (R61). -/
structure AdvertEntry where
  cost : Word
  via  : Byte
  deriving DecidableEq, Repr

/-- An ADVERT frame after the DLC's checks (R61). -/
structure AdvertFrame where
  sender  : Byte
  block   : Byte
  entries : List AdvertEntry
  deriving DecidableEq, Repr

/-- The body of a CONDITION frame (R61). -/
structure ConditionBody where
  origin     : Byte
  seq        : Word
  end1       : Byte
  end2       : Byte
  doorClosed : Bool
  smoke      : Bool
  crowdValid : Bool
  crowd      : Byte
  deriving DecidableEq, Repr

/-- The body of an ALARM frame (R61); the phase is the code carried. -/
structure AlarmBody where
  epoch     : Word
  phaseCode : Byte
  origin    : Byte
  zones     : List Byte
  deriving DecidableEq, Repr

/-- The body of a CLOCK frame (R61). -/
structure ClockBody where
  origin : Byte
  seq    : Word
  day    : Byte
  minute : Word
  second : Byte
  deriving DecidableEq, Repr

/-- The fields of a programme item as a frame or a command carries them (R61, 10.2). -/
structure Offer where
  id        : Word
  revision  : Byte
  day       : Byte
  start     : Word
  stop      : Word
  venue     : Byte
  titlePage : Word
  cancelled : Bool
  moved     : Bool
  deriving DecidableEq, Repr

/-- The body of a PROGRAMME frame (R61). -/
structure ProgrammeBody where
  origin : Byte
  offer  : Offer
  target : Word
  mask   : Word
  deriving DecidableEq, Repr

/-- What the LGM reports of one leg to the RTU (R46): the new link state if it changed, whether barred or passable changed,
whether crowd level or smoke changed. -/
structure LegReport where
  leg         : LegIx
  link        : Option LinkState
  passability : Bool
  conditions  : Bool
  deriving DecidableEq, Repr

/-- Kinds of the PLU's reports to the FCU (R142). -/
inductive ItemReport where
  | stored | replaced | started | ended | skipped | dropped
  deriving DecidableEq, Repr

/-- A part of a face (R153). -/
inductive Part where
  | header
  | line (n : Fin 4)
  | privacy
  deriving DecidableEq, Repr

/-- The field of a line (R25, R153). -/
inductive Field where
  | minutes (n : Nat)
  | present | pending | closed
  deriving DecidableEq, Repr

/-- The status of a programme line (R157); SOON and AT carry the moved mark, AT the start minute. -/
inductive Status where
  | now
  | soon (moved : Bool)
  | startsAt (minute : Nat) (moved : Bool)
  | cancelled
  deriving DecidableEq, Repr

/-- The identity of a line (R153). -/
inductive LineId where
  | dest (d : DestIx)
  | item (id : Nat)
  deriving DecidableEq, Repr

/-- A line that is not blank (R153). -/
structure LineValue where
  ident    : LineId
  page     : Nat
  arrow    : Option Byte
  field    : Option Field
  status   : Option Status
  language : Nat
  deriving DecidableEq, Repr

/-- A privacy indicator (R153). -/
inductive Indicator where
  | none | on | off
  deriving DecidableEq, Repr

/-- The value of a part (R153). A blank line carries no language: blank lines are equal in any language (R161). -/
inductive PartValue where
  | header (page language : Nat) (phase : Phase)
  | blank
  | line (v : LineValue)
  | privacy (p : Indicator)
  deriving DecidableEq, Repr

/-- What a completed record drew (R160): a part of a generated chain with its value, or a supplied record. -/
inductive Drawn where
  | part (p : Part) (v : PartValue)
  | picture
  deriving DecidableEq, Repr

/-- What a record that did not complete was drawing (R169, R184). -/
inductive DrawTarget where
  | part (p : Part)
  | picture
  deriving DecidableEq, Repr

/-- The two candidates of a face that come to rank as CONTENT with age (R180). -/
inductive Aging where
  | record | poll
  deriving DecidableEq, Repr

/-- The commands of the block: one constructor per row of spec/opcode_table.json. A host command carries its parameter bytes
(their number is the parameter length of R209). -/
inductive Instr where
  /-- START, R222. -/
  | start
  /-- PROFILE_READ_END, R223: the 2048 bytes read, or none when no page memory is there (R225). -/
  | profileReadEnd (memory : Option (List Byte))
  /-- PROFILE_FRAME_NOT_READY, R223: the bytes of the frames read before it, or none when no page memory is there (R225). -/
  | profileFrameNotReady (memory : Option (List Byte))
  /-- FALLBACK_PAGE_READ_END, R225: the bytes of page frame 5, or none when the memory did not answer or is not there. -/
  | fallbackPageReadEnd (frame : Option (List Byte))
  /-- RTU_PROFILE_LOAD, R4. -/
  | rtuProfileLoad
  /-- LGM_PROFILE_LOAD, R34. -/
  | lgmProfileLoad
  /-- ADU_PROFILE_LOAD, R86. -/
  | aduProfileLoad
  /-- MUC_PROFILE_LOAD, R104. -/
  | mucProfileLoad
  /-- FCU_PROFILE_LOAD, R162. -/
  | fcuProfileLoad
  /-- FSC_PROFILE_LOAD, R171. -/
  | fscProfileLoad
  /-- PCA_PROFILE_LOAD, R198. -/
  | pcaProfileLoad
  /-- FRAME_ARRIVAL, R63: the port, whether the receiver heard the frame while this port's transmitter sent it (R64), the bytes. -/
  | frameArrival (p : Port) (whileSending : Bool) (bytes : List Byte)
  /-- TRANSMISSION_START, R76: the port's line is idle. -/
  | transmissionStart (p : Port)
  /-- COLLISION, R77. -/
  | collision (p : Port)
  /-- BACKOFF_EXPIRY, R77. -/
  | backoffExpiry (p : Port)
  /-- TRANSMISSION_COMPLETE, R78. -/
  | transmissionComplete (p : Port)
  /-- ADVERT_RECEIPT, R92. -/
  | advertReceipt (p : Port) (f : AdvertFrame)
  /-- ADVERTISED_COST_WRITE, R10. -/
  | advertisedCostWrite (l : LegIx) (d : DestIx) (v : Cost)
  /-- LEG_REPORT, R9. -/
  | legReport (r : LegReport)
  /-- CHANGED_FLAG_REPORT, R88. -/
  | changedFlagReport (p : Port) (d : DestIx)
  /-- ADVERT_TICK, R87. -/
  | advertTick
  /-- GAP_TIMER_EXPIRY, R89. -/
  | gapTimerExpiry (p : Port)
  /-- ADVERT_ARRIVAL, R35: the matched leg. -/
  | advertArrival (l : LegIx)
  /-- SILENCE_TIMER_EXPIRY, R36. -/
  | silenceTimerExpiry (l : LegIx)
  /-- DOOR_INPUT_CHANGE, R38: the line and its new level (true: a made contact, closed). -/
  | doorInputChange (l : LegIx) (closed : Bool)
  /-- DOOR_LEVEL_TAKEN, R38: the line has held its level for 40 ms. -/
  | doorLevelTaken (l : LegIx)
  /-- CONDITION_APPLY, R41. -/
  | conditionApply (c : ConditionBody)
  /-- CROWD_LIFETIME_EXPIRY, R43. -/
  | crowdLifetimeExpiry (l : LegIx)
  /-- MUSTER_REPORT_LGM, R45. -/
  | musterReportLgm
  /-- RETURN_TO_QUIET_LGM, R116. -/
  | returnToQuietLgm
  /-- ALARM_RECEIPT, R107: port of arrival, hop as received, body. -/
  | alarmReceipt (p : Port) (hop : Nat) (a : AlarmBody)
  /-- REPEAT_TIMER_EXPIRY, R114. -/
  | repeatTimerExpiry
  /-- STAND_DOWN_TIMER_EXPIRY, R116. -/
  | standDownTimerExpiry
  /-- SECONDS_TIMER_EXPIRY, R129. -/
  | secondsTimerExpiry
  /-- CLOCK_FRAME_RECEIPT, R131. -/
  | clockFrameReceipt (c : ClockBody)
  /-- MINUTE_EVENT_PLU, R141: the old absolute minute, absent when the clock was UNSET, and the new one (R130). -/
  | minuteEventPlu (old : Option Nat) (new : Nat)
  /-- PROGRAMME_OFFER, R135. -/
  | programmeOffer (o : Offer)
  /-- CHANGED_DESTINATION_REPORT, R162. -/
  | changedDestinationReport (d : DestIx)
  /-- PROGRAMME_REPORT, R142: venue, item id, kind of change. -/
  | programmeReport (venue id : Nat) (kind : ItemReport)
  /-- MINUTE_EVENT_FCU, R162. -/
  | minuteEventFcu (old : Option Nat) (new : Nat)
  /-- MUSTER_REPORT_FCU, R159. -/
  | musterReportFcu
  /-- RETURN_TO_QUIET_FCU, R166. -/
  | returnToQuietFcu
  /-- PRIVACY_CHANGE, R167. -/
  | privacyChange (f : FaceIx)
  /-- LANGUAGE_ROTATION_EXPIRY, R165. -/
  | languageRotationExpiry
  /-- RECORD_COMPLETED, R160. -/
  | recordCompleted (f : FaceIx) (d : Drawn)
  /-- RECORD_NOT_COMPLETED, R169. -/
  | recordNotCompleted (f : FaceIx) (d : DrawTarget)
  /-- SUPPLIED_CHAIN_ENDED, R179. -/
  | suppliedChainEnded (f : FaceIx)
  /-- FACE_BACK_ONLINE, R164. -/
  | faceBackOnline (f : FaceIx)
  /-- HELD_PAGE_FAULT_REPORT, R206. -/
  | heldPageFaultReport
  /-- DEMAND, R173. -/
  | demand (f : FaceIx) (k : DemandClass)
  /-- CANDIDATE_AGING, R180. -/
  | candidateAging (f : FaceIx) (a : Aging)
  /-- POLL_DUE, R181: the faces whose polls fall due together. -/
  | pollDue (fs : List FaceIx)
  /-- FACE_REPLY, R184: the bytes of the reply. -/
  | faceReply (bytes : List Byte)
  /-- REPLY_WAIT_EXPIRY, R184. -/
  | replyWaitExpiry
  /-- MUSTER_ADOPTION_FSC, R189. -/
  | musterAdoptionFsc
  /-- FETCH_HEADER_READ, R197: marker, kind, and the two length bytes. -/
  | fetchHeaderRead (marker kind lenHi lenLo : Byte)
  /-- FETCH_NO_ANSWER, R197. -/
  | fetchNoAnswer
  /-- FETCH_END_GOOD, R203: the page bytes after the header. -/
  | fetchEndGood (body : List Byte)
  /-- HOLD_REQUEST, R205. -/
  | holdRequest (ph : Phase)
  /-- RELEASE_REQUEST, R206. -/
  | releaseRequest (ph : Phase)
  /-- UNKNOWN_COMMAND, R210. -/
  | unknownCommand (code : Byte) (params : List Byte)
  /-- STATUS, R212. -/
  | status (params : List Byte)
  /-- READ NOTICE, R217. -/
  | readNotice (params : List Byte)
  /-- READ MUSTER, R213. -/
  | readMuster (params : List Byte)
  /-- READ ROUTE, R214. -/
  | readRoute (params : List Byte)
  /-- READ LEG, R214. -/
  | readLeg (params : List Byte)
  /-- READ FACE, R191. -/
  | readFace (params : List Byte)
  /-- START FACE CHAIN, R177. -/
  | startFaceChain (params : List Byte)
  /-- HALT FACE, R178. -/
  | haltFace (params : List Byte)
  /-- RELEASE FACE, R166. -/
  | releaseFace (params : List Byte)
  /-- SET FACE LANGUAGE, R152. -/
  | setFaceLanguage (params : List Byte)
  /-- LOAD ITEM, R139. -/
  | loadItem (params : List Byte)
  /-- WITHDRAW ITEM, R140. -/
  | withdrawItem (params : List Byte)
  /-- SET CLOCK, R132. -/
  | setClock (params : List Byte)
  /-- RAISE PHASE, R113. -/
  | raisePhase (params : List Byte)
  /-- SET CONDITION, R44. -/
  | setCondition (params : List Byte)
  /-- RESTART, R211. -/
  | restart (params : List Byte)
  /-- SELECT_RELEASE, R209: how many bytes of the response the host has clocked out, marker included. -/
  | selectRelease (clocked : Nat)
  deriving DecidableEq, Repr

end Sys2Proof
end

