-- ==== Sys2Proof/Decode.lean ====
section
/-! DEFINITION. The command a word spells by the bits of spec/opcode_table.json: the table gives no row any bits, so no word spells one. -/

namespace Sys2Proof

/-- No row of spec/opcode_table.json has bits ("fields": []), so no word names a command. -/
def decodeTableWord (_nbits _w : Nat) : Option Instr := none

end Sys2Proof
end

