-- ==== Sys2Proof/Machine/Bytes.lean ====
section
/-! DEFINITION. Byte order and the frame check: multi-byte fields are most significant byte first (00, "Byte layouts"; R62). -/

namespace Sys2Proof.Machine

/-- The byte at a position; a position beyond the list reads as all ones, as a memory that gives nothing does (R197; log 11). -/
def byteAt (bytes : List Byte) (i : Nat) : Byte := bytes.getD i 0xFF#8

/-- A 16-bit field, most significant byte first. -/
def wordAt (bytes : List Byte) (i : Nat) : Word := byteAt bytes i ++ byteAt bytes (i + 1)

/-- The two bytes of a 16-bit field, most significant first. -/
def wordBytes (w : Word) : List Byte := [(w >>> 8).setWidth 8, w.setWidth 8]

/-- A quantity as one byte. -/
def natByte (n : Nat) : Byte := BitVec.ofNat 8 n

/-- A quantity as two bytes, most significant first. -/
def natBytes2 (n : Nat) : List Byte := wordBytes (BitVec.ofNat 16 n)

/-- A quantity as three bytes, most significant first. -/
def natBytes3 (n : Nat) : List Byte := natByte (n / 65536) :: natBytes2 n

/-- A flag as a number at a bit position. -/
def flagBit (b : Bool) (i : Nat) : Nat := if b then 2 ^ i else 0

/-- One bit through the register of the cyclic code with generator x^16 + x^12 + x^5 + 1 (R62). -/
def crcBit (reg : Word) (bit : Bool) : Word :=
  if reg.msb != bit then (reg <<< 1) ^^^ 0x1021#16 else reg <<< 1

/-- One byte, most significant bit first (R62). -/
def crcByte (reg : Word) (b : Byte) : Word :=
  [7, 6, 5, 4, 3, 2, 1, 0].foldl (fun r i => crcBit r (b.getLsbD i)) reg

/-- The 16-bit check over a list of bytes: the register starts at all ones, the result is not inverted (R62). -/
def crc16 (bytes : List Byte) : Word := bytes.foldl crcByte 0xFFFF#16

/-- The bytes with their check behind them (R62, R190). -/
def withCheck (bytes : List Byte) : List Byte := bytes ++ wordBytes (crc16 bytes)

/-- The check of a received frame is good: the code over the bytes before it equals the last two bytes (R62). -/
def checkGood (bytes : List Byte) : Bool :=
  let n := bytes.length - 2
  2 ≤ bytes.length && crc16 (bytes.take n) == wordAt bytes n

end Sys2Proof.Machine
end

