-- ==== Sys2Proof/Config.lean ====
section
/-! DEFINITION. What the part fixes (capacities, limits, defaults) and the free values: constants with no body, where the manual states no value. -/

namespace Sys2Proof.Config

/-- Capacity of relay memory (R66). -/
def ringCapacity : Nat := 16
/-- Capacity of a port's PROGRAMME queue (R72). -/
def programmeQueueCapacity : Nat := 8
/-- The attempt count at which a frame is dropped (R77, R79). -/
def maxAttempts : Nat := 16
/-- Capacity of the notice queue (R215). -/
def noticeCapacity : Nat := 32
/-- Notices held at which a stacked attention is allowed again (R187). -/
def attentionResume : Nat := 16
/-- Capacity of the programme list (R134). -/
def programmeCapacity : Nat := 96
/-- Record slots of the chain pool (R176). -/
def poolCapacity : Nat := 64
/-- Longest supplied chain (R177). -/
def maxChain : Nat := 8
/-- Relay limit of a node in FALLBACK (R80). -/
def fallbackRelayLimit : Nat := 8
/-- The largest finite cost any node holds (R93). -/
def maxFiniteCost : Nat := 60000
/-- Seconds of the stand-down timer at its start (R115). -/
def standDownSeconds : Nat := 60
/-- Minutes in a day; the absolute minute is day × 1440 + minute (00, Conventions). -/
def minutesPerDay : Nat := 1440

/-- FREE VALUE (log 8): the attempt count that forms the backoff of a collided copy abandoned for a newer frame (R75, R77 state none). -/
opaque abandonedAttempts : Nat → Nat
/-- FREE VALUE (log 9): the node id that forms the n-th backoff, in FALLBACK (R77, R80 state none). -/
opaque fallbackContentionId : Nat → Nat
/-- FREE VALUE (log 10): picks the response code of the n-th STATUS, in FALLBACK (10.2 note 2 states none). -/
opaque fallbackStatusPick : Nat → Nat

end Sys2Proof.Config
end

