-- ==== Sys2Proof/Machine/State.lean ====
section
/-! DEFINITION. The state of the EN616, block by block, as plain data, and the state right after START (`State.reset`). -/

namespace Sys2Proof.Machine

/-! ### Values per port -/

/-- One value for each deck link port. -/
structure PerPort (α : Type) where
  da : α
  db : α
  deriving DecidableEq, Repr

/-! ### Route Table Unit (01) -/

/-- A route table entry (R1). -/
structure Entry where
  adv       : Vector Cost 6
  best      : WayOut
  cost      : Cost
  anchor    : Option Nat
  changedDA : Bool
  changedDB : Bool
  deriving DecidableEq, Repr

/-- The pace factor and leg cost of a configured leg (R2). -/
structure LegPace where
  pace : Nat
  cost : Nat
  deriving DecidableEq, Repr

structure Rtu where
  table : Vector Entry 64
  legs  : Vector (Option LegPace) 6
  deriving DecidableEq, Repr

/-! ### Leg Monitor (02) -/

/-- The static fields of a configured leg (R32). -/
structure LegStatic where
  port      : Port
  neighbour : Byte
  farZone   : Byte
  kind      : LegKind
  length    : Nat
  doorUsed  : Bool
  deriving DecidableEq, Repr

/-- A leg record (R32); `fixed` is none for an unconfigured leg. Doors: true is closed. -/
structure LegRecord where
  fixed          : Option LegStatic
  link           : LinkState
  silenceRunning : Bool
  localDoor      : Bool
  remoteDoor     : Bool
  smoke          : Bool
  crowd          : Nat
  crowdRunning   : Bool
  barred         : Bool
  passable       : Bool
  deriving DecidableEq, Repr

/-- A door input line (R38): its level (true: made, closed) and whether the 40 ms wait runs. -/
structure DoorInput where
  closed : Bool
  wait   : Bool
  deriving DecidableEq, Repr

structure Lgm where
  legs    : Vector LegRecord 6
  condSeq : Word
  doors   : Vector DoorInput 6
  deriving DecidableEq, Repr

/-! ### Deck Link Controller (03) -/

/-- A flooded frame's body (R61). -/
inductive FloodBody where
  | condition (c : ConditionBody)
  | alarm (a : AlarmBody)
  | clock (c : ClockBody)
  | programme (p : ProgrammeBody)
  deriving DecidableEq, Repr

/-- A flooded frame: hop and sender of the common header, and its body. -/
structure Frame where
  hop    : Nat
  sender : Byte
  body   : FloodBody
  deriving DecidableEq, Repr

/-- A key of relay memory (R66). -/
inductive Key where
  | condition (origin : Byte) (seq : Word)
  | clock (origin : Byte) (seq : Word)
  | programme (origin : Byte) (id : Word) (revision : Byte)
  | alarm (origin : Byte) (epoch : Word) (phaseCode : Byte)
  deriving DecidableEq, Repr

/-- What a slot holds: a frame (or an ADVERT request's urgent mark), its attempt count and waiting position (R72, R74). -/
structure Held (α : Type) where
  item     : α
  attempts : Nat
  pos      : Nat
  deriving DecidableEq, Repr

/-- A transmit slot (R72, R75): what is in flight, and what waits unsent. -/
structure Slot (α : Type) where
  inFlight : Option (Held α)
  unsent   : Option (Held α)
  deriving DecidableEq, Repr

/-- The slots of a port by name (R72). -/
inductive SlotName where
  | alarm
  | condLeg (l : LegIx)
  | condRelay (i : Fin 4)
  | clock
  | advert (b : BlockIx)
  | programme
  deriving DecidableEq, Repr

/-- A port's transmitter (3.6); SENDING holds the slot in flight and the bytes on the line, BACKOFF its length in slots. -/
inductive Tx where
  | ready
  | sending (slot : SlotName) (bytes : List Byte)
  | backoff (slots : Nat)
  deriving DecidableEq, Repr

/-- One port of the DLC (R60, R72). An ADVERT slot's item is its urgent mark. -/
structure LinkPort where
  tx           : Tx
  alarm        : Slot Frame
  condLeg      : Vector (Slot Frame) 6
  condRelay    : Vector (Slot Frame) 4
  clock        : Slot Frame
  advert       : Vector (Slot Bool) 4
  programme    : List (Held Frame)
  progInFlight : Bool
  deriving DecidableEq, Repr

/-- The DLC: its ports, relay memory (oldest first), and the placing counter that orders waiting positions. -/
structure Dlc where
  ports : PerPort LinkPort
  ring  : List Key
  stamp : Nat
  deriving DecidableEq, Repr

/-! ### Advert Unit (04) -/

/-- The ADU's fields of one port (R86). -/
structure AduPort where
  rotation   : BlockIx
  urgent     : Vector Bool 4
  gapRunning : Bool
  deriving DecidableEq, Repr

structure Adu where
  tickRunning : Bool
  ports       : PerPort AduPort
  deriving DecidableEq, Repr

/-! ### Muster Controller (05) -/

/-- The muster record (R101). `standDown` is the stand-down timer: 0 while it is stopped, and while it runs the whole seconds it has
left, rounded up (R118; log 7). -/
structure Muc where
  epoch         : Option Word
  phase         : Phase
  origin        : Byte
  zones         : List Byte
  standDown     : Nat
  repeatRunning : Bool
  held          : Option Phase
  deriving DecidableEq, Repr

/-! ### Ship Clock and Programme List Unit (06) -/

/-- The clock record and the clock sequence counter (R127). -/
structure Sck where
  isSet        : Bool
  day          : Nat
  minute       : Nat
  second       : Nat
  lastOrigin   : Byte
  lastSeq      : Word
  timerRunning : Bool
  counter      : Word
  deriving DecidableEq, Repr

/-- A programme item (R133); `running` is its state. -/
structure Item where
  id        : Nat
  revision  : Nat
  day       : Nat
  start     : Nat
  stop      : Nat
  venue     : Nat
  titlePage : Nat
  cancelled : Bool
  moved     : Bool
  running   : Bool
  deriving DecidableEq, Repr

structure Plu where
  items : List Item
  deriving DecidableEq, Repr

/-! ### Face Content Unit (07) -/

/-- The venue list of a SIGN PROGRAMME face (R151). -/
inductive Venues where
  | all
  | only (ds : List DestIx)
  deriving DecidableEq, Repr

/-- The mode of a SIGN face and its list (R151). -/
inductive SignMode where
  | wayfind (ds : List DestIx)
  | programme (vs : Venues)
  deriving DecidableEq, Repr

/-- The fields of a face record that depend on its kind (R151). -/
inductive FaceKind where
  | sign (languages : List Nat) (mode : SignMode) (muster : List (Fin 8))
  | door (language : Nat) (cabinPage : Nat) (station : Fin 8)
  deriving DecidableEq, Repr

/-- The record of an enabled face (R151). -/
structure FaceConfig where
  address : Byte
  glyphs  : Vector Byte 6
  kind    : FaceKind
  deriving DecidableEq, Repr

/-- What the FCU holds of one face: its record (none: disabled), language index (R152), and snapshot, indexed header 0,
lines 1 to 4, privacy indicator 5 (R160). -/
structure FaceState where
  config   : Option FaceConfig
  langIx   : Nat
  snapshot : Vector (Option PartValue) 6
  deriving DecidableEq, Repr

structure Fcu where
  faces           : Vector FaceState 32
  rotationRunning : Bool
  deriving DecidableEq, Repr

/-! ### Face String Controller (08) -/

/-- A record of a supplied chain (R176). -/
structure SuppliedRecord where
  page   : Nat
  chain  : Bool
  notify : Bool
  hold   : Bool
  deriving DecidableEq, Repr

/-- What a chain runs (R171, R174, R177). -/
inductive ChainBody where
  | generated (cls : DemandClass) (parts : List Part)
  | supplied (records : List SuppliedRecord) (done : Nat) (halt : Bool)
  deriving DecidableEq, Repr

/-- An active chain (R171). -/
structure ActiveChain where
  body  : ChainBody
  index : Nat
  seq   : Count32
  deriving DecidableEq, Repr

/-- What a record shows: a part with its value, or a supplied picture (R182). -/
inductive RecordContent where
  | part (p : Part) (v : PartValue)
  | picture (page : Nat)
  deriving DecidableEq, Repr

/-- A record as built (R182 step 2). -/
structure DrawRecord where
  content  : RecordContent
  chain    : Bool
  phase    : Phase
  language : Nat
  deriving DecidableEq, Repr

/-- How a chain ends (10.2 note 3). -/
inductive Condition where
  | complete | halted | faceFault | pageFault | faceSilent
  deriving DecidableEq, Repr

/-- The content of a supplied chain's ending (R179). -/
structure ChainEnding where
  condition : Condition
  done      : Nat
  total     : Nat
  deriving DecidableEq, Repr

/-- The state of a face word (R172). -/
inductive WordState where
  | idle | active | waitPage | transfer | offline
  deriving DecidableEq, Repr

/-- When a face's next poll falls due (R181), and a due poll's number and age (R180). -/
inductive PollTimer where
  | stopped
  | wait2s
  | wait10s
  | due (n : Count32) (aged : Bool)
  | underway
  deriving DecidableEq, Repr

/-- A face word (R171). `address` is the string address handed at profile load, none for a disabled face. -/
structure FaceWord where
  address      : Option Byte
  state        : WordState
  active       : Option ActiveChain
  waiting      : Option DrawRecord
  started      : Option DrawRecord
  recordAged   : Bool
  pending      : Option (List SuppliedRecord)
  demand       : Bool
  cls          : Option DemandClass
  demandSeq    : Count32
  redirty      : Bool
  prefetch     : Option Nat
  stacked      : Option ChainEnding
  attnStacked  : Bool
  privacy      : Bool
  hostHeld     : Bool
  restateDue   : Bool
  retry        : Nat
  poll         : PollTimer
  deriving DecidableEq, Repr

/-- What is on the face string: a DRAW record of a face's chain, or a poll with its two flags (R180, R186). -/
inductive Exchange where
  | draw (f : FaceIx) (r : DrawRecord)
  | poll (f : FaceIx) (allowed restate : Bool)
  deriving DecidableEq, Repr

/-- The answer of an ACK record (R187). -/
inductive AckAnswer where
  | taken | keep
  deriving DecidableEq, Repr

structure Fsc where
  words      : Vector FaceWord 32
  seqCount   : Count32
  lastPolled : FaceIx
  string     : Option Exchange
  lastAck    : Option (FaceIx × AckAnswer)
  deriving DecidableEq, Repr

/-! ### Page Cache (09) -/

/-- A waiter of a page (R198). -/
inductive Waiter where
  | face (f : FaceIx)
  | hold
  | prefetch (f : FaceIx)
  deriving DecidableEq, Repr

inductive SlotState where
  | empty | filling | valid
  deriving DecidableEq, Repr

/-- A cache slot (R198), with the page's bytes while VALID. -/
structure CacheSlot where
  state   : SlotState
  page    : Nat
  pins    : Nat
  held    : Bool
  order   : Count32
  waiters : List Waiter
  bytes   : List Byte
  deriving DecidableEq, Repr

/-- An entry of the fetch queue (R201); its class is the highest interest among its waiters. -/
structure QueueEntry where
  page    : Nat
  waiters : List Waiter
  deriving DecidableEq, Repr

/-- The fetch on the port (R197): its slot, and its header once read. -/
structure Fetch where
  slot   : Fin 16
  header : Option (List Byte)
  deriving DecidableEq, Repr

structure Pca where
  slots      : Vector CacheSlot 16
  queue      : List QueueEntry
  fetch      : Option Fetch
  completion : Count32
  holdPhase  : Option Phase
  holdPages  : List Nat
  faulted    : Bool
  deriving DecidableEq, Repr

/-! ### Host Port (10) -/

/-- The state of a leg or face in a notice (R215). -/
inductive FaceReport where
  | offline | online | fault
  deriving DecidableEq, Repr

/-- Why a frame was lost to a port (R79). -/
inductive DropCause where
  | attempts | displaced
  deriving DecidableEq, Repr

/-- A notice (R215). LINK_DROP carries the frame's kind code. -/
inductive Notice where
  | chainEnd (f : FaceIx) (e : ChainEnding)
  | progress (f : FaceIx) (index total : Nat)
  | attention (f : FaceIx) (code : Byte)
  | faceState (f : FaceIx) (r : FaceReport) (code : Byte)
  | drawFault (f : FaceIx) (cls : DemandClass) (c : Condition) (p : Part)
  | legState (l : LegIx) (neighbour : Byte) (link : LinkState)
  | linkDrop (p : Port) (kind : Byte) (cause : DropCause) (origin : Byte) (identity : Word)
  | programmeFull (id start : Nat)
  deriving DecidableEq, Repr

/-- What the release of select does when the response was cut short (R212, R213, R217). -/
inductive CutAction where
  | nothing
  | setNoticesLost
  | setMusterChange
  deriving DecidableEq, Repr

/-- A transaction whose command has been taken (R209): the response from its marker on. -/
structure Transaction where
  response : List Byte
  cut      : CutAction
  deriving DecidableEq, Repr

structure Hpt where
  notices      : List Notice
  musterChange : Bool
  noticesLost  : Bool
  transaction  : Option Transaction
  restart      : Bool
  deriving DecidableEq, Repr

/-! ### Profile Loader (11) -/

inductive NodeState where
  | starting | running | fallback
  deriving DecidableEq, Repr

/-- The installed profile (R223, R224). -/
structure Profile where
  nodeId        : Byte
  zone          : Word
  hostPresent   : Bool
  advertTick    : Nat
  silenceLimit  : Nat
  horizon       : Nat
  switchMargin  : Nat
  relayLimit    : Nat
  destBase      : Nat
  musterBase    : Nat
  musterLangs   : Nat
  anchors       : List (Nat × Nat)
  legs          : Vector (Option LegStatic) 6
  faces         : Vector (Option FaceConfig) 32
  deriving DecidableEq, Repr

structure Pfl where
  node         : NodeState
  reading      : Bool
  page5Reading : Bool
  readId       : Byte
  broadcast    : Option (List Byte)
  profile      : Profile
  deriving DecidableEq, Repr

/-! ### The whole part -/

/-- The state of the part: each block's, the events handed between blocks and not yet taken (oldest first), the commands
waiting (first in, first out), and the counter that makes each free value fresh. -/
structure State where
  rtu       : Rtu
  lgm       : Lgm
  adu       : Adu
  dlc       : Dlc
  muc       : Muc
  sck       : Sck
  plu       : Plu
  fcu       : Fcu
  fsc       : Fsc
  pca       : Pca
  hpt       : Hpt
  pfl       : Pfl
  handoffs  : List Instr
  freeCount : Nat
  pending   : List Instr
  deriving DecidableEq, Repr

/-! ### Start values -/

/-- Start value of a route table entry (R3). -/
def Entry.initial : Entry :=
  { adv := Vector.replicate 6 .unknown, best := .none, cost := .unknown, anchor := none, changedDA := false, changedDB := false }

def Rtu.initial : Rtu :=
  { table := Vector.replicate 64 Entry.initial, legs := Vector.replicate 6 none }

/-- Start value of a leg record: unconfigured (R33). -/
def LegRecord.initial : LegRecord :=
  { fixed := none, link := .unheard, silenceRunning := false, localDoor := false, remoteDoor := false, smoke := false,
    crowd := 0, crowdRunning := false, barred := false, passable := false }

/-- The LGM's start values (R33); the input lines are open at power-up (DESIGN CHOICE, log 24). -/
def Lgm.initial : Lgm :=
  { legs := Vector.replicate 6 LegRecord.initial, condSeq := 0, doors := Vector.replicate 6 { closed := false, wait := false } }

def Slot.vacant {α : Type} : Slot α := { inFlight := none, unsent := none }

/-- A port's start values (R60). -/
def LinkPort.initial : LinkPort :=
  { tx := .ready, alarm := Slot.vacant, condLeg := Vector.replicate 6 Slot.vacant, condRelay := Vector.replicate 4 Slot.vacant,
    clock := Slot.vacant, advert := Vector.replicate 4 Slot.vacant, programme := [], progInFlight := false }

def Dlc.initial : Dlc :=
  { ports := { da := LinkPort.initial, db := LinkPort.initial }, ring := [], stamp := 0 }

def AduPort.initial : AduPort :=
  { rotation := 0, urgent := Vector.replicate 4 false, gapRunning := false }

/-- The ADU's start values (R86). -/
def Adu.initial : Adu :=
  { tickRunning := false, ports := { da := AduPort.initial, db := AduPort.initial } }

/-- The muster record's start values (R101). -/
def Muc.initial : Muc :=
  { epoch := none, phase := .quiet, origin := 0, zones := [], standDown := 0, repeatRunning := false, held := none }

/-- The clock record's start values (R127). -/
def Sck.initial : Sck :=
  { isSet := false, day := 0, minute := 0, second := 0, lastOrigin := 0, lastSeq := 0, timerRunning := false, counter := 0 }

def Plu.initial : Plu := { items := [] }

/-- A snapshot in the state called nothing drawn (R160). -/
def nothingDrawn : Vector (Option PartValue) 6 := Vector.replicate 6 none

/-- A disabled face with nothing drawn (R151, R160). The language index is of no effect until the profile load sets it (R165); the
spec states no value before that, and the model puts 0 (DESIGN CHOICE, log 25). -/
def FaceState.initial : FaceState := { config := none, langIx := 0, snapshot := nothingDrawn }

def Fcu.initial : Fcu := { faces := Vector.replicate 32 FaceState.initial, rotationRunning := false }

/-- Start value of a face word (R171). -/
def FaceWord.initial : FaceWord :=
  { address := none, state := .idle, active := none, waiting := none, started := none, recordAged := false, pending := none,
    demand := false, cls := none, demandSeq := 0, redirty := false, prefetch := none, stacked := none, attnStacked := false,
    privacy := false, hostHeld := false, restateDue := false, retry := 0, poll := .stopped }

def Fsc.initial : Fsc :=
  { words := Vector.replicate 32 FaceWord.initial, seqCount := 0, lastPolled := 31, string := none, lastAck := none }

/-- An EMPTY slot: no pins, not held, no waiters (R198). Its page id and order number have no meaning and no stated value; the model
puts 0 (DESIGN CHOICE, log 25). -/
def CacheSlot.vacant : CacheSlot :=
  { state := .empty, page := 0, pins := 0, held := false, order := 0, waiters := [], bytes := [] }

/-- The PCA's start values (R198). -/
def Pca.initial : Pca :=
  { slots := Vector.replicate 16 CacheSlot.vacant, queue := [], fetch := none, completion := 0, holdPhase := none,
    holdPages := [], faulted := false }

/-- The HPT at start (R211). -/
def Hpt.initial : Hpt :=
  { notices := [], musterChange := false, noticesLost := false, transaction := none, restart := false }

/-- No profile installed (DESIGN CHOICE, log 25: the fields have no meaning until a load). -/
def Profile.blank : Profile :=
  { nodeId := 0, zone := 0, hostPresent := false, advertTick := 500, silenceLimit := 8, horizon := 30000, switchMargin := 20,
    relayLimit := 8, destBase := 0, musterBase := 0, musterLangs := 1, anchors := [], legs := Vector.replicate 6 none,
    faces := Vector.replicate 32 none }

/-- The PFL on entry to STARTING: the profile read has begun (R222). -/
def Pfl.initial : Pfl :=
  { node := .starting, reading := true, page5Reading := false, readId := 0, broadcast := none, profile := Profile.blank }

/-- The part right after START (R222). -/
def State.reset : State :=
  { rtu := Rtu.initial, lgm := Lgm.initial, adu := Adu.initial, dlc := Dlc.initial, muc := Muc.initial, sck := Sck.initial,
    plu := Plu.initial, fcu := Fcu.initial, fsc := Fsc.initial, pca := Pca.initial, hpt := Hpt.initial, pfl := Pfl.initial,
    handoffs := [], freeCount := 0, pending := [] }

/-! ### Outcomes -/

/-- Why a step can stop the part: never. The spec gives every command of the table an effect and names no stop, so this type
has no constructor: nobody raises a fault, which is safe (log 35). -/
inductive Fault where
  deriving DecidableEq, Repr

/-- Why a step can be refused. -/
inductive Refusal where
  /-- Raised by nobody: every arm of `exec` calls a meaning. Kept for an arm without one; a refusal is safe. -/
  | notModelled (mnemonic : String)
  deriving DecidableEq, Repr

/-- What a command's meaning answers. -/
abbrev Out := Host.Outcome State Fault Refusal

end Sys2Proof.Machine
end

