-- ==== Sys2Proof/Machine/Ops.lean ====
section
/-! DEFINITION. The operations every block shares: reading and writing one of a fixed number of like things, events handed between blocks, notices handed to the HPT, and the node state test. -/

namespace Sys2Proof.Machine

/-! ### Fixed tables -/

/-- Write one place of a table. -/
def setAt {α : Type} {n : Nat} (v : Vector α n) (i : Fin n) (x : α) : Vector α n := v.set i.val x i.isLt

/-- Change one place of a table. -/
def modifyAt {α : Type} {n : Nat} (v : Vector α n) (i : Fin n) (f : α → α) : Vector α n := setAt v i (f v[i])

/-- The table whose place i holds f i. -/
def tabulate {α : Type} {n : Nat} (f : Fin n → α) : Vector α n := ⟨(List.ofFn f).toArray, by simp⟩

/-- Every index of a table, ascending. -/
def indices (n : Nat) : List (Fin n) := List.ofFn (fun i => i)

def PerPort.get {α : Type} (x : PerPort α) : Port → α
  | .da => x.da
  | .db => x.db

def PerPort.set {α : Type} (x : PerPort α) (p : Port) (v : α) : PerPort α :=
  match p with
  | .da => { x with da := v }
  | .db => { x with db := v }

/-- The other deck link port (R68). -/
def otherPort : Port → Port
  | .da => .db
  | .db => .da

/-! ### Hand-offs -/

/-- A block hands an event to another: it joins the outstanding hand-offs at the tail (log 2). -/
def State.handOff (s : State) (e : Instr) : State := { s with handoffs := s.handoffs ++ [e] }

/-- Several events handed over in order. -/
def State.handOffs (s : State) (es : List Instr) : State := { s with handoffs := s.handoffs ++ es }

/-- The block takes an event handed to it: the oldest equal outstanding hand-off, if there is one, is no longer outstanding (log 2). -/
def State.take (s : State) (e : Instr) : State := { s with handoffs := s.handoffs.erase e }

/-- Put events in the place of the first of a list that equals one, or at its end when none does. -/
def replaceFirst (e : Instr) (es : List Instr) : List Instr → List Instr
  | [] => es
  | x :: xs => if x = e then es ++ xs else x :: replaceFirst e es xs

/-- Put events before the first of a list that equals one, or at its end when none does. -/
def insertAhead (e : Instr) (es : List Instr) : List Instr → List Instr
  | [] => es
  | x :: xs => if x = e then es ++ x :: xs else x :: insertAhead e es xs

/-- The block takes an event handed to it and hands over others in its place: ahead of what was handed over with it and after it
(R30, R35; log 3). -/
def State.takeGiving (s : State) (e : Instr) (es : List Instr) : State :=
  { s with handoffs := replaceFirst e es s.handoffs }

/-- A block hands events over ahead of an event that is still outstanding, or at the tail when it is not (R30; log 3). -/
def State.handAhead (s : State) (e : Instr) (es : List Instr) : State := { s with handoffs := insertAhead e es s.handoffs }

/-- The node is RUNNING (R222). -/
def State.running (s : State) : Bool := s.pfl.node == .running

/-- Set the muster-change flag (R117). -/
def State.setMusterChange (s : State) : State := { s with hpt := { s.hpt with musterChange := true } }

/-! ### Notices (R215, R216) -/

/-- The notice queue can take one more. -/
def Hpt.hasRoom (h : Hpt) : Bool := h.notices.length < Config.noticeCapacity

/-- The HPT takes a notice at the tail, or at a full queue drops it and sets notices-lost (R216, any kind but ATTENTION and CHAIN_END). -/
def Hpt.takeNotice (h : Hpt) (n : Notice) : Hpt :=
  if h.hasRoom then { h with notices := h.notices ++ [n] } else { h with noticesLost := true }

/-- A block hands over a notice that may be lost (R216). In FALLBACK the HPT takes no notice (R211). -/
def State.notice (s : State) (n : Notice) : State :=
  if s.pfl.node = .fallback then s else { s with hpt := s.hpt.takeNotice n }

/-- Several notices in order. -/
def State.noticeAll (s : State) (ns : List Notice) : State := ns.foldl State.notice s

/-- The HPT has room for an ATTENTION or a CHAIN_END, which it otherwise answers REFUSED (R216). -/
def State.noticeRoom (s : State) : Bool := s.pfl.node != .fallback && s.hpt.hasRoom

/-! ### Free values -/

/-- A fresh free value: the counter goes on, so that no two uses are the same (log 8 to 10). -/
def State.spendFree (s : State) : State := { s with freeCount := s.freeCount + 1 }

end Sys2Proof.Machine
end

