-- ==== Sys2Proof/Machine/Flags.lean ====
section
/-! DEFINITION. Codes and flag bytes of the byte layouts (R61, R190, 10.2), and the attention line (R218). -/

namespace Sys2Proof.Machine

/-- The phase code of ALARM frames, records and responses; QUIET 0 (R61, R190, 10.2). -/
def phaseCode : Phase → Nat
  | .quiet => 0
  | .alert => 1
  | .proceed => 2
  | .hold => 3
  | .standDown => 4

/-- The phase of an ALARM frame's code, 1 to 4 (R61, R107). -/
def phaseOfCode (c : Byte) : Option Phase :=
  match c.toNat with
  | 1 => some .alert
  | 2 => some .proceed
  | 3 => some .hold
  | 4 => some .standDown
  | _ => none

/-- Kind codes of deck link frames (R61). -/
def advertKind : Byte := 1
def bodyKind : FloodBody → Byte
  | .condition _ => 2
  | .alarm _ => 3
  | .clock _ => 4
  | .programme _ => 5

/-- The flags byte of a CONDITION frame (R61). -/
def conditionFlags (c : ConditionBody) : Byte :=
  natByte (flagBit c.doorClosed 0 + flagBit c.smoke 1 + flagBit c.crowdValid 2)

/-- The flags byte of a PROGRAMME frame (R61). -/
def offerFlags (o : Offer) : Byte := natByte (flagBit o.cancelled 0 + flagBit o.moved 1)

/-- Leg kind codes (R223, 10.2). -/
def legKindCode : LegKind → Nat
  | .corridor => 1
  | .doorway => 2
  | .outerDeck => 3
  | .lift => 4
  | .stairDown => 5
  | .stairUp => 6

def legKindOfCode (c : Byte) : Option LegKind :=
  match c.toNat with
  | 1 => some .corridor
  | 2 => some .doorway
  | 3 => some .outerDeck
  | 4 => some .lift
  | 5 => some .stairDown
  | 6 => some .stairUp
  | _ => none

/-- Link state codes (10.2). -/
def linkCode : LinkState → Nat
  | .unheard => 0
  | .up => 1
  | .silent => 2

def portCode : Port → Nat
  | .da => 0
  | .db => 1

/-- Best leg codes of READ ROUTE (10.2). -/
def wayOutCode : WayOut → Nat
  | .leg l => l.val
  | .here => 6
  | .none => 7

/-- Condition codes (10.2 note 3). -/
def conditionCode : Condition → Nat
  | .complete => 1
  | .halted => 2
  | .faceFault => 3
  | .pageFault => 4
  | .faceSilent => 5

def classCode : DemandClass → Nat
  | .muster => 1
  | .content => 2

/-- Part codes (R190, R215). -/
def partCode : Part → Nat
  | .header => 0
  | .line n => n.val + 1
  | .privacy => 5

/-- READ FACE state codes (10.2). -/
def wordStateCode : WordState → Nat
  | .idle => 1
  | .active => 2
  | .waitPage => 3
  | .transfer => 4
  | .offline => 5

def nodeStateCode : NodeState → Nat
  | .starting => 1
  | .running => 2
  | .fallback => 3

def faceReportCode : FaceReport → Nat
  | .offline => 1
  | .online => 2
  | .fault => 3

def dropCauseCode : DropCause → Nat
  | .attempts => 1
  | .displaced => 2

/-- The door of a leg is closed: local door or remote door (R32). -/
def LegRecord.doorClosed (r : LegRecord) : Bool := r.localDoor || r.remoteDoor

/-- The flags byte of READ LEG (10.2). -/
def legFlags (f : LegStatic) (r : LegRecord) : Byte :=
  natByte (flagBit f.doorUsed 0 + flagBit r.localDoor 1 + flagBit r.remoteDoor 2 + flagBit r.doorClosed 3
    + flagBit r.smoke 4 + flagBit r.barred 5 + flagBit r.passable 6)

/-- The changed flags byte of READ ROUTE (10.2). -/
def changedFlags (e : Entry) : Byte := natByte (flagBit e.changedDA 0 + flagBit e.changedDB 1)

/-- The attention line is asserted (R218). -/
def State.attentionLine (s : State) : Bool := !s.hpt.notices.isEmpty || s.hpt.musterChange

/-- The 8 data bytes of a notice: kind, then its fields, unused bytes 0 (R215, 10.2). -/
def Notice.fields : Notice → List Byte
  | .chainEnd f e => [1, natByte f.val, natByte (conditionCode e.condition), natByte e.done, natByte e.total]
  | .progress f i n => [2, natByte f.val, natByte i, natByte n]
  | .attention f c => [3, natByte f.val, c]
  | .faceState f r c => [4, natByte f.val, natByte (faceReportCode r), c]
  | .drawFault f k c p => [5, natByte f.val, natByte (classCode k), natByte (conditionCode c), natByte (partCode p)]
  | .legState l n st => [6, natByte l.val, n, natByte (linkCode st)]
  | .linkDrop p k c o w => [7, natByte (portCode p), k, natByte (dropCauseCode c), o] ++ wordBytes w
  | .programmeFull id start => 8 :: (natBytes2 id ++ natBytes3 start)

/-- Bytes filled up with zeros to a length. -/
def padTo (n : Nat) (bytes : List Byte) : List Byte := bytes ++ List.replicate (n - bytes.length) 0#8

def Notice.bytes (n : Notice) : List Byte := padTo 8 n.fields

end Sys2Proof.Machine
end

