-- ==== Sys2Proof/Machine/Operands.lean ====
section
/-! DEFINITION. Reading the operands of commands from their bytes, and writing the bytes the part sends: deck link frames (R61 to R63), face string records and replies (R190), programme item fields (10.2). -/

namespace Sys2Proof.Machine

/-! ### Deck link frames (R61) -/

/-- What an arrival carries once it has passed R63: an ADVERT, or a flooded frame. -/
inductive Arrived where
  | advert (f : AdvertFrame)
  | flooded (f : Frame)
  deriving DecidableEq, Repr

/-- The item fields of a PROGRAMME frame, laid out from byte k, the flags byte at position g. -/
def offerAt (b : List Byte) (id rev day start stop venue page flags : Nat) : Offer :=
  { id := wordAt b id, revision := byteAt b rev, day := byteAt b day, start := wordAt b start, stop := wordAt b stop,
    venue := byteAt b venue, titlePage := wordAt b page,
    cancelled := (byteAt b flags).getLsbD 0, moved := (byteAt b flags).getLsbD 1 }

def advertEntryAt (b : List Byte) (i : Nat) : AdvertEntry := { cost := wordAt b (4 + 3 * i), via := byteAt b (6 + 3 * i) }

def readAdvert (b : List Byte) : AdvertFrame :=
  { sender := byteAt b 2, block := byteAt b 3, entries := (List.range 16).map (advertEntryAt b) }

def readCondition (b : List Byte) : ConditionBody :=
  { origin := byteAt b 3, seq := wordAt b 4, end1 := byteAt b 6, end2 := byteAt b 7,
    doorClosed := (byteAt b 8).getLsbD 0, smoke := (byteAt b 8).getLsbD 1, crowdValid := (byteAt b 8).getLsbD 2,
    crowd := byteAt b 9 }

def readAlarm (b : List Byte) : AlarmBody :=
  { epoch := wordAt b 3, phaseCode := byteAt b 5, origin := byteAt b 6, zones := (b.drop 8).take (byteAt b 7).toNat }

def readClock (b : List Byte) : ClockBody :=
  { origin := byteAt b 3, seq := wordAt b 4, day := byteAt b 6, minute := wordAt b 7, second := byteAt b 9 }

def readProgramme (b : List Byte) : ProgrammeBody :=
  { origin := byteAt b 3, offer := offerAt b 4 6 11 12 14 16 17 19, target := wordAt b 7, mask := wordAt b 9 }

/-- The frame a good arrival carries, by its kind and length (R61, R63 cases 2 and 3). -/
def readFrameBody (b : List Byte) : Option Arrived :=
  let hop := (byteAt b 1).toNat
  let sender := byteAt b 2
  match (byteAt b 0).toNat with
  | 1 => if b.length = 54 then some (.advert (readAdvert b)) else none
  | 2 => if b.length = 12 then some (.flooded { hop := hop, sender := sender, body := .condition (readCondition b) }) else none
  | 3 =>
    if b.length = 10 + (byteAt b 7).toNat ∧ (byteAt b 7).toNat ≤ 8 then
      some (.flooded { hop := hop, sender := sender, body := .alarm (readAlarm b) })
    else none
  | 4 => if b.length = 12 then some (.flooded { hop := hop, sender := sender, body := .clock (readClock b) }) else none
  | 5 => if b.length = 22 then some (.flooded { hop := hop, sender := sender, body := .programme (readProgramme b) }) else none
  | _ => none

/-- Checks 1 to 4 of R63, in order; none is a discard. -/
def readFrame (b : List Byte) : Option Arrived :=
  if b.length < 6 ∨ checkGood b = false then none
  else if 15 < (byteAt b 1).toNat then none
  else readFrameBody b

/-- The body bytes of a flooded frame, from byte 3 to the check (R61). -/
def bodyBytes : FloodBody → List Byte
  | .condition c => [c.origin] ++ wordBytes c.seq ++ [c.end1, c.end2, conditionFlags c, c.crowd]
  | .alarm a => wordBytes a.epoch ++ [a.phaseCode, a.origin, natByte a.zones.length] ++ a.zones
  | .clock c => [c.origin] ++ wordBytes c.seq ++ [c.day] ++ wordBytes c.minute ++ [c.second]
  | .programme p =>
    [p.origin] ++ wordBytes p.offer.id ++ [p.offer.revision] ++ wordBytes p.target ++ wordBytes p.mask ++ [p.offer.day]
      ++ wordBytes p.offer.start ++ wordBytes p.offer.stop ++ [p.offer.venue] ++ wordBytes p.offer.titlePage
      ++ [offerFlags p.offer]

/-- The bytes of a flooded frame on the line, its check formed as its transmission begins (R61, R62). -/
def Frame.bytes (f : Frame) : List Byte :=
  withCheck ([bodyKind f.body, natByte f.hop, f.sender] ++ bodyBytes f.body)

def advertEntryBytes (e : AdvertEntry) : List Byte := wordBytes e.cost ++ [e.via]

/-- The bytes of an ADVERT frame on the line, hop 0 (R61, R90). -/
def advertFrameBytes (f : AdvertFrame) : List Byte :=
  withCheck ([advertKind, 0, f.sender, f.block] ++ f.entries.flatMap advertEntryBytes)

/-- The relay memory key of a flooded frame (R66); an ALARM has one in FALLBACK only. -/
def floodKey : FloodBody → Key
  | .condition c => .condition c.origin c.seq
  | .clock c => .clock c.origin c.seq
  | .programme p => .programme p.origin p.offer.id p.offer.revision
  | .alarm a => .alarm a.origin a.epoch a.phaseCode

/-- The origin of a flooded frame (R61). -/
def floodOrigin : FloodBody → Byte
  | .condition c => c.origin
  | .clock c => c.origin
  | .programme p => p.origin
  | .alarm a => a.origin

/-- The identity of a flooded frame in a LINK_DROP notice (R79). -/
def floodIdentity : FloodBody → Word
  | .condition c => c.seq
  | .clock c => c.seq
  | .programme p => p.offer.id
  | .alarm a => a.epoch

def FloodBody.isAlarm : FloodBody → Bool
  | .alarm _ => true
  | _ => false

/-! ### Face string (R190) -/

/-- What a valid reply says (R190). -/
inductive Reply where
  | done
  | fault (code : Byte)
  | nothing
  | attention (code : Byte)
  deriving DecidableEq, Repr

/-- The code and code byte of a reply, if the code is one of the table's (R190). -/
def readReplyCode (b : List Byte) : Option Reply :=
  match (byteAt b 1).toNat with
  | 1 => some .done
  | 2 => some (.fault (byteAt b 2))
  | 3 => some .nothing
  | 4 => if 1 ≤ (byteAt b 2).toNat ∧ (byteAt b 2).toNat ≤ 3 then some (.attention (byteAt b 2)) else none
  | _ => none

/-- A reply suits a DRAW: DONE or FAULT; a POLL: NOTHING, FAULT or ATTENTION (R190). -/
def Reply.suits (isDraw : Bool) : Reply → Bool
  | .done => isDraw
  | .fault _ => true
  | .nothing => !isDraw
  | .attention _ => !isDraw

/-- A reply counts as valid: five bytes with a good check, the record's address, and a code that suits the record (R190). -/
def readReply (address : Byte) (isDraw : Bool) (b : List Byte) : Option Reply :=
  if b.length = 5 ∧ checkGood b = true ∧ byteAt b 0 = address then
    (readReplyCode b).filter (Reply.suits isDraw)
  else none

/-- The part code of a record: PICTURE is 6 (R190). -/
def contentPartCode : RecordContent → Nat
  | .part p _ => partCode p
  | .picture _ => 6

/-- The page a record names; 0 is no page (R182). -/
def contentPage : RecordContent → Nat
  | .part _ (.header page _ _) => page
  | .part _ (.line v) => v.page
  | .part _ .blank => 0
  | .part _ (.privacy _) => 0
  | .picture page => page

def DrawRecord.page (r : DrawRecord) : Nat := contentPage r.content

def fieldCode : Option Field → Nat
  | none => 0
  | some (.minutes _) => 1
  | some .present => 2
  | some .pending => 3
  | some .closed => 4

def fieldMinutes : Option Field → Nat
  | some (.minutes n) => n
  | _ => 0

def statusCode : Option Status → Nat
  | none => 0
  | some .now => 1
  | some (.soon _) => 2
  | some (.startsAt _ _) => 3
  | some .cancelled => 4

def statusMoved : Option Status → Bool
  | some (.soon m) => m
  | some (.startsAt _ m) => m
  | _ => false

def statusMinute : Option Status → Nat
  | some (.startsAt m _) => m
  | _ => 0

def indicatorCode : Indicator → Nat
  | .none => 0
  | .on => 1
  | .off => 2

/-- The line a record carries, if it is one. -/
def contentLine : RecordContent → Option LineValue
  | .part _ (.line v) => some v
  | _ => none

def contentIndicator : RecordContent → Indicator
  | .part _ (.privacy p) => p
  | _ => .none

/-- The bytes of a DRAW record, the page bytes given (R190). Fields that do not apply are 0 (note 2). -/
def drawBytes (address : Byte) (r : DrawRecord) (page : List Byte) : List Byte :=
  let line := contentLine r.content
  let arrow := line.bind (·.arrow)
  let field := line.bind (·.field)
  let status := line.bind (·.status)
  withCheck
    ([address, 1, natByte (contentPartCode r.content),
      natByte (flagBit r.chain 0 + flagBit (statusMoved status) 1 + flagBit arrow.isSome 2),
      natByte (phaseCode r.phase), natByte r.language, arrow.getD 0, natByte (fieldCode field), natByte (fieldMinutes field),
      natByte (statusCode status)] ++ natBytes2 (statusMinute status) ++ [natByte (indicatorCode (contentIndicator r.content))]
      ++ natBytes2 r.page ++ natBytes2 page.length ++ page)

/-- The bytes of a POLL record (R190). -/
def pollBytes (address : Byte) (allowed restate : Bool) : List Byte :=
  withCheck [address, 2, natByte (flagBit allowed 0 + flagBit restate 1)]

/-- The bytes of an ACK record (R190). -/
def ackBytes (address : Byte) : AckAnswer → List Byte
  | .taken => withCheck [address, 3, 1]
  | .keep => withCheck [address, 3, 2]

/-! ### Pages (R196, R197) -/

/-- The header passes: marker 0x5C and a length of 4 to 512 (R197). -/
def headerGood (marker lenHi lenLo : Byte) : Bool :=
  marker == 0x5C#8 && 4 ≤ (lenHi ++ lenLo).toNat && (lenHi ++ lenLo).toNat ≤ 512

/-- The page a whole read of a frame gives, or none for a page fault (R197, R225). -/
def readPage : Option (List Byte) → Option (List Byte)
  | none => none
  | some b =>
    if headerGood (byteAt b 0) (byteAt b 2) (byteAt b 3) then some (b.take (wordAt b 2).toNat) else none

/-! ### Host commands (R209, 10.2) -/

/-- The command a code and its parameter bytes stand for; a code not in the table of 10.2 is an unknown one (R209, R210). -/
def commandOf (code : Byte) (params : List Byte) : Instr :=
  match code.toNat with
  | 0x01 => .status params
  | 0x02 => .readNotice params
  | 0x03 => .readMuster params
  | 0x04 => .readRoute params
  | 0x05 => .readLeg params
  | 0x06 => .readFace params
  | 0x10 => .startFaceChain params
  | 0x11 => .haltFace params
  | 0x12 => .releaseFace params
  | 0x13 => .setFaceLanguage params
  | 0x20 => .loadItem params
  | 0x21 => .withdrawItem params
  | 0x22 => .setClock params
  | 0x30 => .raisePhase params
  | 0x31 => .setCondition params
  | 0x3F => .restart params
  | _ => .unknownCommand code params

/-- The command that the bytes of a transaction stand for: a code, a parameter length m and m parameter bytes; none until the last of
them has been received. Bytes clocked after that are the response's (R209). -/
def readCommand : List Byte → Option Instr
  | code :: m :: rest => if m.toNat ≤ rest.length then some (commandOf code (rest.take m.toNat)) else none
  | _ => none

/-- The commands a whole transaction brings: the host clocks out some bytes, then some bytes of the response, and releases select. One
released before its command is complete brings the release alone (R209). -/
def transactionCommands (bytes : List Byte) (clocked : Nat) : List Instr :=
  (readCommand bytes).toList ++ [.selectRelease clocked]

end Sys2Proof.Machine
end

