-- ==== Sys2Proof/Machine/LinkOps.lean ====
section
/-! DEFINITION. The operations of the Deck Link Controller (03) that other blocks use: placing frames in slots (R72 to R75), relay memory (R66), relays (R68). -/

namespace Sys2Proof.Machine

/-! ### One slot (R72, R74, R75) -/

/-- The waiting position a frame placed now takes: that of the frame it replaces or stands behind, else its own (R74, R75). -/
def Slot.position {α : Type} (sl : Slot α) (fresh : Nat) : Nat :=
  match sl.unsent, sl.inFlight with
  | some w, _ => w.pos
  | none, some w => w.pos
  | none, none => fresh

/-- Place a frame in a slot: it replaces an unsent one, or stands behind one in flight; attempt count 0 (R72, R75). -/
def Slot.place {α : Type} (sl : Slot α) (x : α) (fresh : Nat) : Slot α :=
  { sl with unsent := some { item := x, attempts := 0, pos := sl.position fresh } }

/-- Place an ADVERT request: a waiting one keeps its position and count, and stays or becomes urgent (R72 note 2). -/
def Slot.request (sl : Slot Bool) (urgent : Bool) (fresh : Nat) : Slot Bool :=
  match sl.unsent with
  | some w => { sl with unsent := some { w with item := w.item || urgent } }
  | none => sl.place urgent fresh

/-- A slot holds nothing. -/
def Slot.isVacant {α : Type} (sl : Slot α) : Bool := sl.unsent.isNone && sl.inFlight.isNone

/-! ### CONDITION relay and originate slots (R72 note 1, R73) -/

/-- Two CONDITION frames have the same origin and the same pair of endpoints, in either order (R72). -/
def sameCondition (a b : ConditionBody) : Bool :=
  a.origin == b.origin && ((a.end1 == b.end1 && a.end2 == b.end2) || (a.end1 == b.end2 && a.end2 == b.end1))

/-- A held frame is a CONDITION with the identity of another. -/
def heldSame (c : ConditionBody) : Option (Held Frame) → Bool
  | some { item := { body := .condition d, .. }, .. } => sameCondition c d
  | _ => false

/-- Of two slots, the one whose unsent frame has waited longer (R73, R74). -/
def olderUnsent (v : Vector (Slot Frame) 4) (i j : Fin 4) : Fin 4 :=
  match v[i].unsent, v[j].unsent with
  | some a, some b => if b.pos < a.pos then j else i
  | _, _ => i

/-- The slot whose unsent frame has waited longest. -/
def longestUnsent (v : Vector (Slot Frame) 4) : Fin 4 := (indices 4).foldl (olderUnsent v) 0

/-- Where a CONDITION frame for the relay slots goes without a removal: an unsent frame it replaces; a frame in flight it stands
behind; an empty slot; a slot that holds no unsent frame (R72 note 1; the last: log 12). -/
def relaySlotFor (v : Vector (Slot Frame) 4) (c : ConditionBody) : Option (Fin 4) :=
  ((indices 4).find? (fun i => heldSame c v[i].unsent))
    <|> ((indices 4).find? (fun i => v[i].unsent.isNone && heldSame c v[i].inFlight))
    <|> ((indices 4).find? (fun i => v[i].isVacant))
    <|> ((indices 4).find? (fun i => v[i].unsent.isNone))

/-- Place a CONDITION frame in the relay slots; with all four unsent, the longest waiting is removed (R73). -/
def placeRelay (v : Vector (Slot Frame) 4) (c : ConditionBody) (fr : Frame) (fresh : Nat) :
    Vector (Slot Frame) 4 × Option Frame :=
  match relaySlotFor v c with
  | some i => (modifyAt v i (fun sl => sl.place fr fresh), none)
  | none =>
    let i := longestUnsent v
    (modifyAt v i (fun sl => ({ sl with unsent := none } : Slot Frame).place fr fresh), v[i].unsent.map (·.item))

/-! ### PROGRAMME queue (R72, R73) -/

/-- Place a frame at the tail; with 8 held, the oldest unsent is removed (R73). -/
def placeQueue (q : List (Held Frame)) (inFlight : Bool) (fr : Frame) (fresh : Nat) : List (Held Frame) × Option Frame :=
  let new : Held Frame := { item := fr, attempts := 0, pos := fresh }
  if q.length < Config.programmeQueueCapacity then (q ++ [new], none)
  else
    match q, inFlight with
    | h :: old :: rest, true => (h :: rest ++ [new], some old.item)
    | old :: rest, false => (rest ++ [new], some old.item)
    | q, _ => (q ++ [new], none)

/-! ### Placing on a port -/

/-- Where a flooded frame is placed (R72): a door CONDITION names its leg, any other goes by its kind. -/
inductive Purpose where
  | door (l : LegIx)
  | flood
  deriving DecidableEq, Repr

/-- Place a frame on a port, and the frame removed for it, if one is (R72, R73). -/
def LinkPort.place (lp : LinkPort) (why : Purpose) (fr : Frame) (fresh : Nat) : LinkPort × Option Frame :=
  match why, fr.body with
  | .door l, _ => ({ lp with condLeg := modifyAt lp.condLeg l (fun sl => sl.place fr fresh) }, none)
  | .flood, .alarm _ => ({ lp with alarm := lp.alarm.place fr fresh }, none)
  | .flood, .clock _ => ({ lp with clock := lp.clock.place fr fresh }, none)
  | .flood, .condition c =>
    let (v, out) := placeRelay lp.condRelay c fr fresh
    ({ lp with condRelay := v }, out)
  | .flood, .programme _ =>
    let (q, out) := placeQueue lp.programme lp.progInFlight fr fresh
    ({ lp with programme := q }, out)

/-- The LINK_DROP notice of a flooded frame (R79). -/
def dropNotice (p : Port) (cause : DropCause) (fr : Frame) : Notice :=
  .linkDrop p (bodyKind fr.body) cause (floodOrigin fr.body) (floodIdentity fr.body)

/-- Place a frame on a port; a frame removed for it is a drop with cause DISPLACED (R73, R79). -/
def State.place (s : State) (p : Port) (why : Purpose) (fr : Frame) : State :=
  let (lp, out) := (s.dlc.ports.get p).place why fr s.dlc.stamp
  let s := { s with dlc := { s.dlc with ports := s.dlc.ports.set p lp, stamp := s.dlc.stamp + 1 } }
  match out with
  | some f => s.notice (dropNotice p .displaced f)
  | none => s

/-- Place a frame on both ports, DA first, so that of two LINK_DROP notices DA's stands first (DESIGN CHOICE, log 45). -/
def State.placeBoth (s : State) (fr : Frame) : State := (s.place .da .flood fr).place .db .flood fr

/-- Place a request for an ADVERT block on a port (R72 note 2, R87, R88). -/
def State.requestAdvert (s : State) (p : Port) (b : BlockIx) (urgent : Bool) : State :=
  let lp := s.dlc.ports.get p
  let lp := { lp with advert := modifyAt lp.advert b (fun sl => sl.request urgent s.dlc.stamp) }
  { s with dlc := { s.dlc with ports := s.dlc.ports.set p lp, stamp := s.dlc.stamp + 1 } }

/-! ### Relay memory and relays -/

/-- Enter a key at the newest end; a present key keeps its place; a full ring loses its oldest (R66). -/
def enterKey (ring : List Key) (k : Key) : List Key :=
  if ring.contains k then ring
  else if ring.length < Config.ringCapacity then ring ++ [k]
  else ring.tail ++ [k]

def State.enterKey (s : State) (k : Key) : State :=
  { s with dlc := { s.dlc with ring := Machine.enterKey s.dlc.ring k } }

/-- Relay a frame that arrived on a port with a hop: to the other port with hop + 1, when the limit allows (R68). -/
def State.relay (s : State) (p : Port) (hop limit : Nat) (sender : Byte) (body : FloodBody) : State :=
  if hop + 1 ≤ limit then s.place (otherPort p) .flood { hop := hop + 1, sender := sender, body := body } else s

/-- A frame this node originates: hop 0, this node as sender (R70). -/
def State.ownFrame (s : State) (body : FloodBody) : Frame := { hop := 0, sender := s.pfl.profile.nodeId, body := body }

/-- Originate a flooded frame on both ports, its key entered once (R70). -/
def State.originate (s : State) (body : FloodBody) : State :=
  (s.enterKey (floodKey body)).placeBoth (s.ownFrame body)

end Sys2Proof.Machine
end

