-- ==== Sys2Proof/Machine/RouteOps.lean ====
section
/-! DEFINITION. The arithmetic and the selection of the Route Table Unit (01): pace factor, leg cost, candidates, best selection, recompute and its reports, walking minutes. -/

namespace Sys2Proof.Machine

/-- The kind pace in sixteenths (R6). -/
def kindPace : LegKind → Nat
  | .corridor => 16
  | .doorway => 20
  | .outerDeck => 18
  | .lift => 24
  | .stairDown => 32
  | .stairUp => 48

/-- The pace factor (R7). -/
def paceFactor (k : LegKind) (crowd : Nat) (smoke : Bool) : Nat :=
  kindPace k + 4 * crowd + (if smoke then 64 else 0)

/-- The leg cost of base length L and pace factor p (R8). -/
def legCost (length pace : Nat) : Nat := (length * pace + 8) / 16

/-- Pace factor and leg cost of a configured leg under given conditions (R7, R8). -/
def formPace (f : LegStatic) (crowd : Nat) (smoke : Bool) : LegPace :=
  { pace := paceFactor f.kind crowd smoke, cost := legCost f.length (paceFactor f.kind crowd smoke) }

/-- A cost within the horizon, else UNREACHABLE (R10, R13). -/
def saturate (horizon n : Nat) : Cost := if n ≤ horizon then .finite n else .unreachable

/-- The value stored for an advertised cost (R10). -/
def storedCost (horizon : Nat) : Cost → Cost
  | .unknown => .unknown
  | .unreachable => .unreachable
  | .finite n => saturate horizon n

/-- Step 1 of R12: unconfigured, SILENT, or not passable for a reason other than being UNHEARD. -/
def LegRecord.shut (r : LegRecord) : Bool :=
  r.fixed.isNone || r.link == .silent || r.barred || (r.link != .unheard && !r.passable)

/-- The candidate via a leg (R12, R13). A leg whose leg cost the RTU does not hold is unconfigured to it (R2; log 19). -/
def legCandidate (horizon : Nat) (r : LegRecord) (pace : Option LegPace) (adv : Cost) : Cost :=
  match pace with
  | none => .unreachable
  | some p =>
    if r.shut then .unreachable
    else match adv with
      | .unknown => .unknown
      | .unreachable => .unreachable
      | .finite a => saturate horizon (a + p.cost)

/-- What a recompute reads besides the table: the leg records, the horizon and the switch margin (R2, R12, R17). -/
structure RouteEnv where
  legs    : Vector LegRecord 6
  horizon : Nat
  margin  : Nat

/-- The six leg candidates of an entry (R12). -/
def legCandidates (env : RouteEnv) (paces : Vector (Option LegPace) 6) (e : Entry) : Vector Cost 6 :=
  tabulate (fun l => legCandidate env.horizon env.legs[l] paces[l] e.adv[l])

/-- Keep the lower of the best so far and the next leg's candidate; the earlier is kept on a tie (R15). -/
def keepLower (cands : Vector Cost 6) (m : Option (WayOut × Nat)) (l : LegIx) : Option (WayOut × Nat) :=
  match cands[l], m with
  | .finite c, some (w, b) => if c < b then some (.leg l, c) else some (w, b)
  | .finite c, none => some (.leg l, c)
  | _, m => m

/-- M: the lowest finite candidate, HERE first on a tie, then the lowest leg index (R14, R15). -/
def lowest (cands : Vector Cost 6) (anchor : Option Nat) : Option (WayOut × Nat) :=
  (indices 6).foldl (keepLower cands) (anchor.map (fun a => (WayOut.here, a)))

/-- C: the candidate of the current best leg, if it is finite (R17). -/
def currentFinite (cands : Vector Cost 6) (anchor : Option Nat) : WayOut → Option Nat
  | .none => none
  | .here => anchor
  | .leg l => match cands[l] with
    | .finite c => some c
    | _ => none

/-- Best selection (R15 to R17). -/
def select (margin : Nat) (cands : Vector Cost 6) (anchor : Option Nat) (cur : WayOut) : WayOut × Cost :=
  match lowest cands anchor with
  | none => (.none, if (indices 6).any (fun l => cands[l] == .unknown) then .unknown else .unreachable)
  | some (w, m) =>
    match currentFinite cands anchor cur with
    | none => (w, .finite m)
    | some c => if m + margin < c then (w, .finite m) else (cur, .finite c)

/-- The best leg and best cost a recompute of an entry gives (R19). -/
def reselect (env : RouteEnv) (paces : Vector (Option LegPace) 6) (e : Entry) : WayOut × Cost :=
  select env.margin (legCandidates env paces e) e.anchor e.best

/-- A recompute changes the entry (R21). -/
def entryMoves (env : RouteEnv) (paces : Vector (Option LegPace) 6) (e : Entry) : Bool :=
  reselect env paces e != (e.best, e.cost)

/-- The entry after a recompute: a change sets both changed flags (R21). -/
def recomputeEntry (env : RouteEnv) (paces : Vector (Option LegPace) 6) (e : Entry) : Entry :=
  if entryMoves env paces e then
    { e with best := (reselect env paces e).1, cost := (reselect env paces e).2, changedDA := true, changedDB := true }
  else e

/-- The reports of a changed destination: a changed-flag report for each port to the ADU, and one to the FCU (R21, R88). -/
def changeReports (d : DestIx) : List Instr :=
  [.changedFlagReport .da d, .changedFlagReport .db d, .changedDestinationReport d]

/-- Recompute one destination, with its reports (R19, R21). -/
def Rtu.recompute (env : RouteEnv) (r : Rtu) (d : DestIx) : Rtu × List Instr :=
  ({ r with table := setAt r.table d (recomputeEntry env r.legs r.table[d]) },
   if entryMoves env r.legs r.table[d] then changeReports d else [])

/-- Recompute a list of destinations in order. -/
def Rtu.recomputeList (env : RouteEnv) (r : Rtu) : List DestIx → Rtu × List Instr
  | [] => (r, [])
  | d :: ds =>
    let (r1, out1) := r.recompute env d
    let (r2, out2) := r1.recomputeList env ds
    (r2, out1 ++ out2)

/-- What recomputes read, as it stands (R2). -/
def State.routeEnv (s : State) : RouteEnv :=
  { legs := s.lgm.legs, horizon := s.pfl.profile.horizon, margin := s.pfl.profile.switchMargin }

/-- Recompute the destinations listed, in order, with their reports. -/
def State.recompute (s : State) (ds : List DestIx) : State :=
  let (r, out) := s.rtu.recomputeList s.routeEnv ds
  { s with rtu := r, handoffs := s.handoffs ++ out }

/-- A full recompute of all 64 destinations (R20). -/
def State.fullRecompute (s : State) : State := s.recompute (indices 64)

/-! ### Readings (R23 to R25) -/

/-- Walking minutes of a finite best cost above 0 (R24). -/
def walkingMinutes (c : Nat) : Nat := min 99 ((c + 719) / 720)

/-- The figure or field code of a best cost (R25). -/
def costField : Cost → Field
  | .finite 0 => .present
  | .finite c => .minutes (walkingMinutes c)
  | .unknown => .pending
  | .unreachable => .closed

/-- The node id of a leg's neighbour, 0 for none (R23). -/
def LegRecord.neighbourId (r : LegRecord) : Byte :=
  match r.fixed with
  | some f => f.neighbour
  | none => 0

/-- The via node id of a destination: the neighbour of its best leg, 0 for HERE or NONE (R23). -/
def viaNode (legs : Vector LegRecord 6) : WayOut → Byte
  | .leg l => legs[l].neighbourId
  | .here => 0
  | .none => 0

/-- A cost as a 16-bit field (R90, 10.2 note 4). -/
def costWord : Cost → Word
  | .finite n => BitVec.ofNat 16 n
  | .unknown => 65534#16
  | .unreachable => 65535#16

end Sys2Proof.Machine
end

