-- ==== Sys2Proof/Machine/AdvertOps.lean ====
section
/-! DEFINITION. The operations of the Advert Unit (04): urgent requests, building a block, matching, entry conversion. -/

namespace Sys2Proof.Machine

/-- The block of a destination (R88). -/
def blockOf (d : DestIx) : BlockIx := ⟨d.val / 16, by omega⟩

/-- The destination of entry i of a block (R90). -/
def blockDest (b : BlockIx) (i : Fin 16) : DestIx := ⟨16 * b.val + i.val, by omega⟩

def State.setUrgent (s : State) (p : Port) (b : BlockIx) (v : Bool) : State :=
  let ap := s.adu.ports.get p
  { s with adu := { s.adu with ports := s.adu.ports.set p { ap with urgent := setAt ap.urgent b v } } }

/-- Set the urgent flag of a block on a port and place its urgent request (R86, R88, R91). -/
def State.markUrgent (s : State) (p : Port) (b : BlockIx) : State := (s.setUrgent p b true).requestAdvert p b true

/-- The entry of a destination in an ADVERT frame (R90). -/
def advertEntry (s : State) (d : DestIx) : AdvertEntry :=
  { cost := costWord s.rtu.table[d].cost, via := viaNode s.lgm.legs s.rtu.table[d].best }

/-- The ADVERT frame of a block, as the route table stands (R90). -/
def buildAdvert (s : State) (b : BlockIx) : AdvertFrame :=
  { sender := s.pfl.profile.nodeId, block := natByte b.val,
    entries := (indices 16).map (fun i => advertEntry s (blockDest b i)) }

/-- Clear an entry's changed flag for one port (R90). -/
def clearChanged (p : Port) (e : Entry) : Entry :=
  match p with
  | .da => { e with changedDA := false }
  | .db => { e with changedDB := false }

/-- The changed flag of an entry for a port (R1). -/
def Entry.changed (e : Entry) : Port → Bool
  | .da => e.changedDA
  | .db => e.changedDB

/-- As a block's transmission begins: clear its changed flags and urgent flag for the port, start the gap timer (R90). -/
def State.clearMarks (s : State) (p : Port) (b : BlockIx) : State :=
  let table := tabulate (fun d => if blockOf d = b then clearChanged p s.rtu.table[d] else s.rtu.table[d])
  let ap := s.adu.ports.get p
  let ap := { ap with urgent := setAt ap.urgent b false, gapRunning := true }
  { s with rtu := { s.rtu with table := table }, adu := { s.adu with ports := s.adu.ports.set p ap } }

/-- A leg is the one an ADVERT from a sender on a port can match (R35). -/
def legMatches (p : Port) (sender : Byte) (r : LegRecord) : Bool :=
  match r.fixed with
  | some f => f.port == p && f.neighbour == sender
  | none => false

/-- The matched leg: the lowest index whose port and neighbour fit (R35). -/
def matchLeg (legs : Vector LegRecord 6) (p : Port) (sender : Byte) : Option LegIx :=
  (indices 6).find? (fun l => legMatches p sender legs[l])

/-- The value written for an entry, by the first row that applies (R93). -/
def convertEntry (self : Byte) (e : AdvertEntry) : Cost :=
  let c := e.cost.toNat
  if Config.maxFiniteCost < c ∧ c < 65534 then .unreachable
  else if e.via = self then .unreachable
  else if c = 65534 then .unknown
  else if c = 65535 then .unreachable
  else .finite c

/-- The write of entry i of a block (R92 step 4). -/
def entryWrite (self : Byte) (l : LegIx) (b : BlockIx) (f : AdvertFrame) (i : Fin 16) : Instr :=
  .advertisedCostWrite l (blockDest b i) (convertEntry self (f.entries.getD i.val { cost := 65535, via := 0 }))

/-- The block number of an ADVERT frame, if it is 0 to 3 (R92 step 1). -/
def blockOfByte (b : Byte) : Option BlockIx := if h : b.toNat < 4 then some ⟨b.toNat, h⟩ else none

end Sys2Proof.Machine
end

