-- ==== Sys2Proof/Machine/Adverts.lean ====
section
/-! DEFINITION. The meanings of the Advert Unit's commands (04): ADU_PROFILE_LOAD, ADVERT_RECEIPT, CHANGED_FLAG_REPORT, ADVERT_TICK, GAP_TIMER_EXPIRY. -/

namespace Sys2Proof.Machine

/-- A block holds a destination whose changed flag for the port is set (R86). -/
def blockChanged (t : Vector Entry 64) (p : Port) (b : BlockIx) : Bool :=
  (indices 64).any (fun d => blockOf d == b && t[d].changed p)

/-- Urgent requests on a port for every block with a changed flag set (R86). -/
def State.urgeChanged (s : State) (p : Port) : State :=
  (indices 4).foldl (fun s b => if blockChanged s.rtu.table p b then s.markUrgent p b else s) s

/-- ADU_PROFILE_LOAD (R86): the tick timer starts, and blocks with changed flags set become urgent. -/
def execAduProfileLoad (s : State) : Out :=
  if s.running && s.handoffs.contains .aduProfileLoad then
    let s := s.take .aduProfileLoad
    let s := { s with adu := { s.adu with tickRunning := true } }
    .next ((s.urgeChanged .da).urgeChanged .db)
  else .next (s.take .aduProfileLoad)

/-- ADVERT_RECEIPT (R92): match, hand the arrival to the LGM, then the 16 converted writes in entry order to the RTU. -/
def execAdvertReceipt (p : Port) (f : AdvertFrame) (s : State) : Out :=
  let s := s.take (.advertReceipt p f)
  if s.running then
    match blockOfByte f.block, matchLeg s.lgm.legs p f.sender with
    | some b, some l =>
      .next (s.handOffs (.advertArrival l :: (indices 16).map (entryWrite s.pfl.profile.nodeId l b f)))
    | _, _ => .next s
  else .next s

/-- CHANGED_FLAG_REPORT (R88): an urgent flag that is clear is set and an urgent request placed. The ADU takes the report from
its profile load on (R86). -/
def execChangedFlagReport (p : Port) (d : DestIx) (s : State) : Out :=
  let s := s.take (.changedFlagReport p d)
  if s.running && s.adu.tickRunning && !((s.adu.ports.get p).urgent[blockOf d]) then .next (s.markUrgent p (blockOf d))
  else .next s

/-- The next block of a rotation, from 3 to 0 (R87). -/
def nextBlock (b : BlockIx) : BlockIx := ⟨(b.val + 1) % 4, by omega⟩

/-- A port's share of an advert tick: a periodic request for its rotation block, and the rotation advances (R87). -/
def State.rotatePort (s : State) (p : Port) : State :=
  let b := (s.adu.ports.get p).rotation
  let s := s.requestAdvert p b false
  let ap := s.adu.ports.get p
  { s with adu := { s.adu with ports := s.adu.ports.set p { ap with rotation := nextBlock b } } }

/-- ADVERT_TICK (R87): the running tick timer runs out and starts again. -/
def execAdvertTick (s : State) : Out :=
  if s.running && s.adu.tickRunning then .next ((s.rotatePort .da).rotatePort .db) else .next s

/-- GAP_TIMER_EXPIRY (R89): the port's gap timer is elapsed. -/
def execGapTimerExpiry (p : Port) (s : State) : Out :=
  let ap := s.adu.ports.get p
  .next { s with adu := { s.adu with ports := s.adu.ports.set p { ap with gapRunning := false } } }

end Sys2Proof.Machine
end

