-- ==== Sys2Proof/Machine/ClockOps.lean ====
section
/-! DEFINITION. The operations of the Ship Clock and the Programme List Unit (06): local advance, settings, minute events, items and their order, offers. -/

namespace Sys2Proof.Machine

/-! ### Ship Clock -/

/-- The absolute minute of the clock, "now" (R127). -/
def Sck.now (c : Sck) : Nat := c.day * Config.minutesPerDay + c.minute

/-- Local advance by one second (R129). -/
def Sck.advance (c : Sck) : Sck :=
  if c.second < 59 then { c with second := c.second + 1 }
  else if c.minute < 1439 then { c with second := 0, minute := c.minute + 1 }
  else if c.day < 255 then { c with second := 0, minute := 0, day := c.day + 1 }
  else c

/-- The record after adopting a setting: the state SET, the seconds timer started again (R131). -/
def Sck.setTo (c : Sck) (origin : Byte) (seq : Word) (day minute second : Nat) : Sck :=
  { c with isSet := true, day := day, minute := minute, second := second, lastOrigin := origin, lastSeq := seq,
           timerRunning := true }

/-- Hand out a minute event: to the PLU and the FCU in RUNNING, to the PLU alone in STARTING, to none in FALLBACK (R128, R130). -/
def State.minuteEvent (s : State) (old : Option Nat) (new : Nat) : State :=
  match s.pfl.node with
  | .running => s.handOffs [.minuteEventPlu old new, .minuteEventFcu old new]
  | .starting => s.handOff (.minuteEventPlu old new)
  | .fallback => s

/-- The old absolute minute a minute event names: absent when the clock was UNSET (R130). -/
def Sck.oldMinute (c : Sck) : Option Nat := if c.isSet then some c.now else none

/-- The clock takes a new record; a minute event follows when it was UNSET or the absolute minute moved (R130). -/
def State.clockMoves (s : State) (c : Sck) : State :=
  let t := { s with sck := c }
  if s.sck.oldMinute = some c.now then t else t.minuteEvent s.sck.oldMinute c.now

/-- Adopt a setting (R131, R132). -/
def State.setClock (s : State) (origin : Byte) (seq : Word) (day minute second : Nat) : State :=
  s.clockMoves (s.sck.setTo origin seq day minute second)

/-- A CLOCK frame the SCK ignores (R131). -/
def Sck.ignores (c : Sck) (f : ClockBody) : Bool :=
  1439 < f.minute.toNat || 59 < f.second.toNat || f.origin == 0#8 || f.origin == 255#8
    || (c.isSet && f.origin == c.lastOrigin && f.seq == c.lastSeq)

/-- SET CLOCK accepted: the counter advances, the time is adopted, a CLOCK frame is originated (R132). -/
def State.setClockByHost (s : State) (day minute second : Nat) : State :=
  let seq := s.sck.counter + 1
  let self := s.pfl.profile.nodeId
  let s := { s with sck := { s.sck with counter := seq } }
  let s := s.setClock self seq day minute second
  s.originate (.clock { origin := self, seq := seq, day := natByte day, minute := BitVec.ofNat 16 minute, second := natByte second })

/-! ### Programme items (R133) -/

/-- Duration: a result of 0 is taken as 1 (R133). -/
def Item.duration (i : Item) : Nat :=
  let d := (i.stop + 1440 - i.start) % 1440
  if d = 0 then 1 else d

def Item.startAbs (i : Item) : Nat := i.day * Config.minutesPerDay + i.start

def Item.endAbs (i : Item) : Nat := i.startAbs + i.duration

/-- The order of the programme list: start absolute, then item id (R134). -/
def Item.before (a b : Item) : Bool := a.startAbs < b.startAbs || (a.startAbs == b.startAbs && a.id < b.id)

/-- Enter an item at the position its start absolute and id give (R134). -/
def insertItem (x : Item) : List Item → List Item
  | [] => [x]
  | y :: ys => if x.before y then x :: y :: ys else y :: insertItem x ys

/-- The item of an offer, its state to be formed from the clock (R133). -/
def offeredItem (o : Offer) (running : Bool) : Item :=
  { id := o.id.toNat, revision := o.revision.toNat, day := o.day.toNat, start := o.start.toNat, stop := o.stop.toNat,
    venue := o.venue.toNat, titlePage := o.titlePage.toNat, cancelled := o.cancelled, moved := o.moved, running := running }

/-- The old absolute minute of a minute event for the PLU. -/
def oldMinuteForPlu : Instr → Option (Option Nat)
  | .minuteEventPlu old _ => some old
  | _ => none

/-- The minute the PLU judges an offer against (R136, R144): the clock's, and while a minute event waits for the PLU the one held
before the oldest such event. Absent: the clock is, or was then, UNSET. -/
def State.offerMinute (s : State) : Option Nat := (s.handoffs.findSome? oldMinuteForPlu).getD s.sck.oldMinute

/-- A minute is reached: the clock is SET and stands at it or beyond (R136, R137). -/
def reached (now : Option Nat) (minute : Nat) : Bool := now.any (fun n => decide (minute ≤ n))

/-- The item an offer becomes, its state formed from the minute it is judged against (R137, R138, R144). -/
def State.itemOf (s : State) (o : Offer) : Item :=
  offeredItem o (reached s.offerMinute (offeredItem o false).startAbs)

/-- Every field lies in the range R133 gives (R135). -/
def offerInRange (o : Offer) : Bool :=
  1 ≤ o.id.toNat && o.start.toNat ≤ 1439 && o.stop.toNat ≤ 1439 && o.venue.toNat ≤ 63
    && 1 ≤ o.titlePage.toNat && o.titlePage.toNat ≤ 4095

/-- The item held under an id, if there is one. -/
def Plu.find (p : Plu) (id : Nat) : Option Item := p.items.find? (fun i => i.id == id)

/-- The list without the item of an id. -/
def Plu.remove (p : Plu) (id : Nat) : Plu := { p with items := p.items.filter (fun i => i.id != id) }

/-- How an offer ends (R135 to R138). -/
inductive OfferOutcome where
  | outOfRange
  | heldRevision (revision : Nat)
  | expired
  | replaced
  | stored
  | dropped
  deriving DecidableEq, Repr

/-- The report of an item to the FCU (R142). -/
def itemReport (i : Item) (kind : ItemReport) : Instr := .programmeReport i.venue i.id kind

/-- A replacement (R137): the new record at its own position, a REPLACED report for its venue and, if it changed, for the old. -/
def State.replaceItem (s : State) (old new : Item) : State :=
  let items := insertItem new (s.plu.remove old.id).items
  { s with plu := { s.plu with items := items } }.handOffs
    (itemReport new .replaced :: (if old.venue = new.venue then [] else [.programmeReport old.venue new.id .replaced]))

/-- An ended offer (R136): an item held under its id is removed with an ENDED report. -/
def State.endItem (s : State) (held : Option Item) : State :=
  match held with
  | some old => { s with plu := s.plu.remove old.id }.handOff (itemReport old .ended)
  | none => s

/-- A new item (R138): entered, or at a full list the last of the 97 is dropped with a PROGRAMME_FULL notice. -/
def State.storeItem (s : State) (x : Item) : State × OfferOutcome :=
  if s.plu.items.length < Config.programmeCapacity then
    ({ s with plu := { s.plu with items := insertItem x s.plu.items } }.handOff (itemReport x .stored), .stored)
  else
    match s.plu.items.getLast? with
    | none => (s, .dropped)
    | some last =>
      if last.before x then (s.notice (.programmeFull x.id x.startAbs), .dropped)
      else
        let items := insertItem x s.plu.items.dropLast
        (({ s with plu := { s.plu with items := items } }.handOffs [itemReport last .dropped, itemReport x .stored]).notice
          (.programmeFull last.id last.startAbs), .stored)

/-- The PLU takes an offer whole, by the first rule that decides it (R135 to R138). -/
def State.offer (s : State) (o : Offer) : State × OfferOutcome :=
  let held := s.plu.find o.id.toNat
  let x := s.itemOf o
  let stale := held.filter (fun i => x.revision ≤ i.revision)
  if offerInRange o = false then (s, .outOfRange)
  else
    match stale with
    | some i => (s, .heldRevision i.revision)
    | none =>
      if reached s.offerMinute x.endAbs then (s.endItem held, .expired)
      else
        match held with
        | some old => (s.replaceItem old x, .replaced)
        | none => s.storeItem x

/-- The PROGRAMME frame of an accepted offer (R139). -/
def programmeBody (self : Byte) (o : Offer) (target mask : Word) : ProgrammeBody :=
  { origin := self, offer := o, target := target, mask := mask }

/-- The outcome is answered ACCEPTED and its frame sent (R139). -/
def OfferOutcome.accepted : OfferOutcome → Bool
  | .replaced | .stored | .dropped => true
  | .outOfRange | .heldRevision _ | .expired => false

/-- An offer from the host: taken without the zone filter, and its frame originated when it is accepted (R139). -/
def State.hostOffer (s : State) (o : Offer) (target mask : Word) : State × OfferOutcome :=
  let (t, out) := s.offer o
  (if out.accepted then t.originate (.programme (programmeBody t.pfl.profile.nodeId o target mask)) else t, out)

/-! ### The minute (R141) -/

/-- What a minute event makes of one item: the item kept, if it is, and the report. -/
def Item.judge (now : Nat) (i : Item) : Option Item × Option ItemReport :=
  if i.running then
    if i.endAbs ≤ now then (none, some .ended) else (some i, none)
  else if i.endAbs ≤ now then (none, some .skipped)
  else if i.startAbs ≤ now then (some { i with running := true }, some .started)
  else (some i, none)

/-- The list after a minute event (R141). -/
def Plu.atMinute (p : Plu) (now : Nat) : Plu := { p with items := p.items.filterMap (fun i => (i.judge now).1) }

/-- The reports of a minute event, in list order (R141). -/
def Plu.minuteReports (p : Plu) (now : Nat) : List Instr :=
  p.items.filterMap (fun i => (i.judge now).2.map (itemReport i))

end Sys2Proof.Machine
end

