-- ==== Sys2Proof/Machine/ClockProgramme.lean ====
section
/-! DEFINITION. The meanings of the commands of the Ship Clock and the Programme List Unit (06): SECONDS_TIMER_EXPIRY, CLOCK_FRAME_RECEIPT, MINUTE_EVENT_PLU, PROGRAMME_OFFER. -/

namespace Sys2Proof.Machine

/-- SECONDS_TIMER_EXPIRY (R129, R130): a SET clock advances one second. -/
def execSecondsTimerExpiry (s : State) : Out :=
  .next (if s.sck.isSet && s.sck.timerRunning then s.clockMoves s.sck.advance else s)

/-- CLOCK_FRAME_RECEIPT (R131): a frame that is not ignored is adopted. -/
def execClockFrameReceipt (c : ClockBody) (s : State) : Out :=
  let s := s.take (.clockFrameReceipt c)
  .next (if s.running && !s.sck.ignores c then
      s.setClock c.origin c.seq c.day.toNat c.minute.toNat c.second.toNat
    else s)

/-- MINUTE_EVENT_PLU (R141): every item is compared with the new minute, then the reports are made, in list order; none while
STARTING (R142). In FALLBACK the PLU takes no event (R134). -/
def execMinuteEventPlu (old : Option Nat) (new : Nat) (s : State) : Out :=
  let s := s.take (.minuteEventPlu old new)
  let t := { s with plu := s.plu.atMinute new }
  match s.pfl.node with
  | .running => .next (t.handOffs (s.plu.minuteReports new))
  | .starting => .next t
  | .fallback => .next s

/-- PROGRAMME_OFFER (R135 to R138): an offer from a frame. -/
def execProgrammeOffer (o : Offer) (s : State) : Out :=
  let s := s.take (.programmeOffer o)
  .next (if s.running then (s.offer o).1 else s)

end Sys2Proof.Machine
end

