-- ==== Sys2Proof/Machine/DeckLinks.lean ====
section
/-! DEFINITION. The meanings of the Deck Link Controller's commands (03): FRAME_ARRIVAL, TRANSMISSION_START, COLLISION, BACKOFF_EXPIRY, TRANSMISSION_COMPLETE. -/

namespace Sys2Proof.Machine

/-! ### Arrival -/

/-- The zone filter (R71): target and zone address agree wherever the mask has a 1. -/
def zonePasses (zone target mask : Word) : Bool := (target ^^^ zone) &&& mask == 0#16

/-- Hand a new flooded frame to its owner; a PROGRAMME item that fails the zone filter goes to none (R65, R71). -/
def State.handToOwner (s : State) (p : Port) (hop : Nat) : FloodBody → State
  | .condition c => s.handOff (.conditionApply c)
  | .clock c => s.handOff (.clockFrameReceipt c)
  | .programme b => if zonePasses s.pfl.profile.zone b.target b.mask then s.handOff (.programmeOffer b.offer) else s
  | .alarm a => s.handOff (.alarmReceipt p hop a)

/-- A flooded frame that has passed R63 and R64 in RUNNING: an ALARM goes to the MUC, any other kind through relay memory,
to its owner and on (R65, R67, R68). -/
def State.dispatchFlood (s : State) (p : Port) (f : Frame) : State :=
  if f.body.isAlarm then s.handToOwner p f.hop f.body
  else if s.dlc.ring.contains (floodKey f.body) then s
  else ((s.enterKey (floodKey f.body)).handToOwner p f.hop f.body).relay p f.hop s.pfl.profile.relayLimit
    s.pfl.profile.nodeId f.body

/-- The own-frame test and the dispatch in RUNNING (R64, R65). -/
def State.arriveRunning (s : State) (p : Port) (whileSending : Bool) (a : Arrived) : State :=
  if whileSending then s
  else match a with
    | .advert f => if f.sender = s.pfl.profile.nodeId then s else s.handOff (.advertReceipt p f)
    | .flooded f =>
      if f.sender = s.pfl.profile.nodeId then s
      else if f.body.isAlarm = false ∧ floodOrigin f.body = s.pfl.profile.nodeId then s
      else s.dispatchFlood p f

/-- The relay of FALLBACK: relay memory for every flooded kind, limit 8, sender 0, no owner (R80). -/
def State.arriveFallback (s : State) (p : Port) (whileSending : Bool) (a : Arrived) : State :=
  if whileSending then s
  else match a with
    | .advert _ => s
    | .flooded f =>
      if s.dlc.ring.contains (floodKey f.body) then s
      else (s.enterKey (floodKey f.body)).relay p f.hop Config.fallbackRelayLimit 0 f.body

/-- FRAME_ARRIVAL (R63): the checks in order, then by node state. -/
def execFrameArrival (p : Port) (whileSending : Bool) (bytes : List Byte) (s : State) : Out :=
  match readFrame bytes with
  | none => .next s
  | some a =>
    match s.pfl.node with
    | .starting => .next s
    | .running => .next (s.arriveRunning p whileSending a)
    | .fallback => .next (s.arriveFallback p whileSending a)

/-! ### The transmit choice (R76) -/

/-- The waiting position of a slot's eligible frame: unsent, and the slot not in flight. -/
def Slot.eligible {α : Type} (sl : Slot α) : Option Nat :=
  if sl.inFlight.isSome then none else sl.unsent.map (·.pos)

/-- The slot that has waited longer of two. -/
def longerWaiting (best : Option (SlotName × Nat)) (c : SlotName × Nat) : Option (SlotName × Nat) :=
  match best with
  | none => some c
  | some b => if c.2 < b.2 then some c else some b

/-- The longest waiting of some named slots. -/
def longestWaiting (cs : List (Option (SlotName × Nat))) : Option SlotName :=
  ((cs.filterMap id).foldl longerWaiting none).map (·.1)

/-- Row 2: the CONDITION slots, longest waiting first. -/
def LinkPort.chooseCondition (lp : LinkPort) : Option SlotName :=
  longestWaiting
    ((indices 6).map (fun l => lp.condLeg[l].eligible.map (fun n => (SlotName.condLeg l, n)))
      ++ (indices 4).map (fun i => lp.condRelay[i].eligible.map (fun n => (SlotName.condRelay i, n))))

/-- An ADVERT slot holds an eligible request of a mark. -/
def advertEligible (sl : Slot Bool) (urgent : Bool) : Option Nat :=
  if sl.inFlight.isSome then none
  else match sl.unsent with
    | some w => if w.item == urgent then some w.pos else none
    | none => none

/-- Row 4: urgent ADVERT slots, lowest block first. -/
def LinkPort.chooseUrgent (lp : LinkPort) : Option SlotName :=
  ((indices 4).find? (fun b => (advertEligible lp.advert[b] true).isSome)).map SlotName.advert

/-- Row 6: periodic ADVERT slots, longest waiting first. -/
def LinkPort.choosePeriodic (lp : LinkPort) : Option SlotName :=
  longestWaiting ((indices 4).map (fun b => (advertEligible lp.advert[b] false).map (fun n => (SlotName.advert b, n))))

/-- The transmit choice, by the first row that has an eligible frame (R76); row 4 only while the gap timer is elapsed (R89). -/
def LinkPort.choose (lp : LinkPort) (gapRunning : Bool) : Option SlotName :=
  if lp.alarm.eligible.isSome then some .alarm
  else lp.chooseCondition
    <|> (if lp.clock.eligible.isSome then some .clock else none)
    <|> (if gapRunning then none else lp.chooseUrgent)
    <|> (if lp.programme.isEmpty || lp.progInFlight then none else some .programme)
    <|> lp.choosePeriodic

/-! ### Launch, completion and collision of a slot (R75, R77, R78) -/

/-- The unsent frame goes in flight. -/
def Slot.launch {α : Type} (sl : Slot α) : Slot α := { inFlight := sl.unsent, unsent := none }

/-- The frame in flight is finished; a frame placed meanwhile stays (R78). -/
def Slot.finish {α : Type} (sl : Slot α) : Slot α := { sl with inFlight := none }

/-- How a collision leaves the frame that was on the line (R75, R77, R79). -/
inductive CollisionEnd (α : Type) where
  | abandoned
  | returned (attempts : Nat)
  | dropped (attempts : Nat) (item : α)

/-- A collided held frame with nothing newer behind it: returned with its count raised, or dropped at 16. -/
def collideHeld {α : Type} (w : Held α) : Option (Held α) × CollisionEnd α :=
  if w.attempts + 1 < Config.maxAttempts then (some { w with attempts := w.attempts + 1 }, .returned (w.attempts + 1))
  else (none, .dropped (w.attempts + 1) w.item)

/-- A collision of a slot's frame in flight (R75): a newer frame stays and the copy is abandoned uncounted. -/
def Slot.collide {α : Type} (sl : Slot α) : Slot α × CollisionEnd α :=
  match sl.inFlight, sl.unsent with
  | some w, none => ({ inFlight := none, unsent := (collideHeld w).1 }, (collideHeld w).2)
  | _, unsent => ({ inFlight := none, unsent := unsent }, .abandoned)

/-- A collision of the PROGRAMME queue's head. -/
def collideQueue : List (Held Frame) → List (Held Frame) × CollisionEnd Frame
  | w :: rest => ((collideHeld w).1.toList ++ rest, (collideHeld w).2)
  | [] => ([], .abandoned)

/-- The bytes a slot's unsent frame has on the line as its transmission begins (R62). -/
def slotBytes (sl : Slot Frame) : List Byte :=
  match sl.unsent with
  | some w => w.item.bytes
  | none => []

/-- A port with the chosen slot launched, and the bytes on the line; the bytes of an ADVERT block are given. -/
def LinkPort.launch (lp : LinkPort) (advert : BlockIx → List Byte) : SlotName → LinkPort
  | .alarm => { lp with alarm := lp.alarm.launch, tx := .sending .alarm (slotBytes lp.alarm) }
  | .condLeg l =>
    { lp with condLeg := modifyAt lp.condLeg l Slot.launch, tx := .sending (.condLeg l) (slotBytes lp.condLeg[l]) }
  | .condRelay i =>
    { lp with condRelay := modifyAt lp.condRelay i Slot.launch, tx := .sending (.condRelay i) (slotBytes lp.condRelay[i]) }
  | .clock => { lp with clock := lp.clock.launch, tx := .sending .clock (slotBytes lp.clock) }
  | .advert b => { lp with advert := modifyAt lp.advert b Slot.launch, tx := .sending (.advert b) (advert b) }
  | .programme =>
    { lp with progInFlight := true, tx := .sending .programme (lp.programme.head?.elim [] (fun w => w.item.bytes)) }

/-- A port with the slot in flight finished and the transmitter READY (R78). -/
def LinkPort.finish (lp : LinkPort) : SlotName → LinkPort
  | .alarm => { lp with alarm := lp.alarm.finish, tx := .ready }
  | .condLeg l => { lp with condLeg := modifyAt lp.condLeg l Slot.finish, tx := .ready }
  | .condRelay i => { lp with condRelay := modifyAt lp.condRelay i Slot.finish, tx := .ready }
  | .clock => { lp with clock := lp.clock.finish, tx := .ready }
  | .advert b => { lp with advert := modifyAt lp.advert b Slot.finish, tx := .ready }
  | .programme => { lp with programme := lp.programme.tail, progInFlight := false, tx := .ready }

/-- What was on the line when a collision came. -/
inductive Collided where
  | flooded (e : CollisionEnd Frame)
  | advert (b : BlockIx) (e : CollisionEnd Bool)

/-- A port with the collided frame back in its slot, abandoned or removed. -/
def LinkPort.collide (lp : LinkPort) : SlotName → LinkPort × Collided
  | .alarm => ({ lp with alarm := lp.alarm.collide.1 }, .flooded lp.alarm.collide.2)
  | .condLeg l =>
    ({ lp with condLeg := modifyAt lp.condLeg l (fun sl => sl.collide.1) }, .flooded lp.condLeg[l].collide.2)
  | .condRelay i =>
    ({ lp with condRelay := modifyAt lp.condRelay i (fun sl => sl.collide.1) }, .flooded lp.condRelay[i].collide.2)
  | .clock => ({ lp with clock := lp.clock.collide.1 }, .flooded lp.clock.collide.2)
  | .advert b => ({ lp with advert := modifyAt lp.advert b (fun sl => sl.collide.1) }, .advert b lp.advert[b].collide.2)
  | .programme =>
    ({ lp with programme := (collideQueue lp.programme).1, progInFlight := false }, .flooded (collideQueue lp.programme).2)

/-- The class base of a slot's kind (R77). -/
def classBase : SlotName → Nat
  | .alarm => 0
  | .condLeg _ => 4
  | .condRelay _ => 4
  | .clock => 4
  | .advert _ => 8
  | .programme => 8

/-- The backoff in slots (R77). -/
def backoffSlots (base nodeId attempts : Nat) : Nat := base + (nodeId * 7 + attempts * 13) % 16

/-- A backoff of 0 slots makes the transmitter READY at once (R77). -/
def txAfter (slots : Nat) : Tx := if slots = 0 then .ready else .backoff slots

/-- The node id that forms backoffs; in FALLBACK the spec states none (free value, log 9). -/
def State.contentionId (s : State) : Nat :=
  if s.pfl.node = .fallback then Config.fallbackContentionId s.freeCount else s.pfl.profile.nodeId.toNat

/-- The count that forms the backoff; of an abandoned copy the spec states none (free value, log 8). -/
def collisionCount {α : Type} (free : Nat) : CollisionEnd α → Nat
  | .abandoned => Config.abandonedAttempts free
  | .returned a => a
  | .dropped a _ => a

def Collided.count (free : Nat) : Collided → Nat
  | .flooded e => collisionCount free e
  | .advert _ e => collisionCount free e

/-- What follows a collision besides the backoff: the LINK_DROP notice of a frame dropped at 16, and the urgent request for an
ADVERT block dropped (R79, R91). -/
def State.afterCollision (s : State) (p : Port) : Collided → State
  | .flooded (.dropped _ fr) => s.notice (dropNotice p .attempts fr)
  | .advert b (.dropped _ _) =>
    (s.notice (.linkDrop p advertKind .attempts s.pfl.profile.nodeId (BitVec.ofNat 16 b.val))).markUrgent p b
  | _ => s

def State.setPort (s : State) (p : Port) (lp : LinkPort) : State :=
  { s with dlc := { s.dlc with ports := s.dlc.ports.set p lp } }

/-- The marks an ADVERT start clears (R90); other frames clear none. -/
def State.marksOnStart (s : State) (p : Port) : SlotName → State
  | .advert b => s.clearMarks p b
  | _ => s

/-- TRANSMISSION_START (R76): a READY transmitter on an idle line begins the frame of the first row; an ADVERT block is built
and its marks cleared (R90). With nothing eligible, or not READY, nothing begins. -/
def execTransmissionStart (p : Port) (s : State) : Out :=
  let lp := s.dlc.ports.get p
  match lp.tx, lp.choose (s.adu.ports.get p).gapRunning with
  | .ready, some name =>
    .next ((s.setPort p (lp.launch (fun b => advertFrameBytes (buildAdvert s b)) name)).marksOnStart p name)
  | _, _ => .next s

/-- COLLISION (R77): the SENDING transmitter stops, its frame goes back, is abandoned or is dropped, and the backoff begins. -/
def execCollision (p : Port) (s : State) : Out :=
  let lp := s.dlc.ports.get p
  match lp.tx with
  | .sending name _ =>
    let (lp1, what) := lp.collide name
    let slots := backoffSlots (classBase name) s.contentionId (what.count s.freeCount)
    .next (((s.setPort p { lp1 with tx := txAfter slots }).spendFree).afterCollision p what)
  | _ => .next s

/-- BACKOFF_EXPIRY (R77): the transmitter in BACKOFF becomes READY. -/
def execBackoffExpiry (p : Port) (s : State) : Out :=
  let lp := s.dlc.ports.get p
  match lp.tx with
  | .backoff _ => .next (s.setPort p { lp with tx := .ready })
  | _ => .next s

/-- TRANSMISSION_COMPLETE (R78): the frame in flight leaves its slot and the transmitter becomes READY. -/
def execTransmissionComplete (p : Port) (s : State) : Out :=
  let lp := s.dlc.ports.get p
  match lp.tx with
  | .sending name _ => .next (s.setPort p (lp.finish name))
  | _ => .next s

end Sys2Proof.Machine
end

