-- ==== Sys2Proof/Machine/FaceOps.lean ====
section
/-! DEFINITION. The operations of the Face Content Unit (07): parts, pages, content in QUIET and during a muster, differences from the snapshot, recomputes and their demands, snapshots. -/

namespace Sys2Proof.Machine

/-! ### Languages and pages (R152, R154) -/

/-- The current language of a face (R152). -/
def FaceState.language (fs : FaceState) : Nat :=
  match fs.config with
  | some { kind := .sign langs _ _, .. } => langs.getD fs.langIx 0
  | some { kind := .door l _ _, .. } => l
  | none => 0

/-- The page of a destination's name (R154). -/
def namePage (p : Profile) (d : DestIx) (lang : Nat) : Nat := p.destBase + d.val * 16 + lang

/-- The code a phase has in page numbers (R154). -/
def phasePageCode : Phase → Nat
  | .quiet => 0
  | .alert => 1
  | .proceed => 2
  | .hold => 3
  | .standDown => 4

/-- The page of a phase in a muster language (R154). -/
def phasePage (p : Profile) (ph : Phase) (lang : Nat) : Nat := p.musterBase + phasePageCode ph * 16 + lang

/-- The pages of a phase, one per muster language (R110, R205). -/
def phasePages (p : Profile) (ph : Phase) : List Nat := (List.range p.musterLangs).map (phasePage p ph)

/-- The page of a muster header: language 0 for a language that is no muster language; 0 while the phase pages are faulted (R154). -/
def headerPage (p : Profile) (faulted : Bool) (ph : Phase) (lang : Nat) : Nat :=
  if faulted then 0 else phasePage p ph (if lang < p.musterLangs then lang else 0)

/-! ### Lines -/

/-- The arrow to a destination: the glyph of its best leg, absent when 0 or for HERE and NONE (R155). -/
def arrowTo (c : FaceConfig) : WayOut → Option Byte
  | .leg l => if c.glyphs[l] = 0#8 then none else some c.glyphs[l]
  | .here => none
  | .none => none

/-- The line of a destination (R155). -/
def destLine (s : State) (c : FaceConfig) (lang : Nat) (d : DestIx) : LineValue :=
  { ident := .dest d, page := namePage s.pfl.profile d lang, arrow := arrowTo c s.rtu.table[d].best,
    field := some (costField s.rtu.table[d].cost), status := none, language := lang }

/-- Muster station s is destination 56 + s (R151). -/
def stationDest (st : Fin 8) : DestIx := ⟨56 + st.val, by omega⟩

/-- A venue as a destination; venues lie in 0 to 63 (R133). -/
def venueDest (v : Nat) : DestIx := ⟨min v 63, by omega⟩

/-- A venue is in a face's venue list (R156). -/
def Venues.has : Venues → Nat → Bool
  | .all, _ => true
  | .only ds, v => ds.any (fun d => d.val == v)

/-- An item is eligible for a programme face (R156). -/
def Item.eligible (c : Sck) (vs : Venues) (i : Item) : Bool :=
  vs.has i.venue && !(i.cancelled && c.isSet && i.startAbs + 30 ≤ c.now)

/-- The items a programme face shows: RUNNING first, then UPCOMING, in list order, the first three (R156). -/
def shownItems (c : Sck) (items : List Item) (vs : Venues) : List Item :=
  let es := items.filter (Item.eligible c vs)
  (es.filter (·.running) ++ es.filter (fun i => !i.running)).take 3

/-- The status of a programme line (R157). -/
def Item.status (c : Sck) (i : Item) : Status :=
  if i.cancelled then .cancelled
  else if i.running then .now
  else if c.isSet && (c.now + 1 ≤ i.startAbs && i.startAbs ≤ c.now + 15) then .soon i.moved
  else .startsAt i.start i.moved

/-- A programme line (R157). -/
def itemLine (s : State) (c : FaceConfig) (lang : Nat) (i : Item) : LineValue :=
  let e := s.rtu.table[venueDest i.venue]
  { ident := .item i.id, page := i.titlePage, arrow := arrowTo c e.best, field := some (costField e.cost),
    status := some (i.status s.sck), language := lang }

/-- The lines of a SIGN face that are not blank, from line 0 on (R155, R156, R159). -/
def signLines (s : State) (c : FaceConfig) (lang : Nat) (mode : SignMode) (muster : List (Fin 8)) : List LineValue :=
  match s.muc.phase with
  | .quiet =>
    match mode with
    | .wayfind ds => ds.map (destLine s c lang)
    | .programme vs => (shownItems s.sck s.plu.items vs).map (itemLine s c lang)
  | .proceed => muster.map (fun st => destLine s c lang (stationDest st))
  | .alert | .hold | .standDown => []

/-- Line 0 of a DOOR face: the station line with no field in PROCEED, else blank (R158, R159). -/
def doorLine (s : State) (c : FaceConfig) (lang : Nat) (station : Fin 8) : PartValue :=
  if s.muc.phase = .proceed then .line { destLine s c lang (stationDest station) with field := none } else .blank

/-- The page of a face's header (R155, R156, R158, R159). -/
def headerPageOf (s : State) (k : FaceKind) (lang : Nat) : Nat :=
  if s.muc.phase = .quiet then
    match k with
    | .sign _ _ _ => 0
    | .door _ page _ => page
  else headerPage s.pfl.profile s.pca.faulted s.muc.phase lang

/-- The privacy indicator of a DOOR face (R158, R159). -/
def indicatorOf (phase : Phase) (flag : Bool) : Indicator :=
  if phase = .quiet then (if flag then .on else .off) else .none

/-! ### Content and differences (R153, R161, R163) -/

/-- The parts of a face by kind, in part order (R153). -/
def partsOf : FaceKind → List Part
  | .sign _ _ _ => [.header, .line 0, .line 1, .line 2, .line 3]
  | .door _ _ _ => [.header, .line 0, .privacy]

/-- The value of a part of an enabled face, as the inputs stand (R153, R155 to R159). -/
def partValue (s : State) (f : FaceIx) (c : FaceConfig) (p : Part) : PartValue :=
  let lang := s.fcu.faces[f].language
  match p with
  | .header => .header (headerPageOf s c.kind lang) lang s.muc.phase
  | .line n =>
    match c.kind with
    | .sign _ mode muster => ((signLines s c lang mode muster)[n.val]?).elim .blank .line
    | .door _ _ station => if n = 0 then doorLine s c lang station else .blank
  | .privacy => .privacy (indicatorOf s.muc.phase s.fsc.words[f].privacy)

/-- The place of a part in a snapshot. -/
def partIx : Part → Fin 6
  | .header => 0
  | .line n => ⟨n.val + 1, by omega⟩
  | .privacy => 5

/-- A part is in view: all are, except on a host-held face in QUIET, where only a privacy indicator is (R161). -/
def inView (s : State) (f : FaceIx) (p : Part) : Bool :=
  !(s.fsc.words[f].hostHeld && s.muc.phase == .quiet) || p == .privacy

/-- A part differs from the snapshot (R161). -/
def partDiffers (s : State) (f : FaceIx) (c : FaceConfig) (p : Part) : Bool :=
  s.fcu.faces[f].snapshot[partIx p] != some (partValue s f c p)

/-- The differing parts in view of a face, in part order; none of a disabled face (R163). -/
def differingParts (s : State) (f : FaceIx) : List Part :=
  match s.fcu.faces[f].config with
  | none => []
  | some c => (partsOf c.kind).filter (fun p => inView s f p && partDiffers s f c p)

/-! ### Recomputes (R162) -/

/-- The class of a demand raised now (R162). -/
def demandClass (ph : Phase) : DemandClass := if ph = .quiet then .content else .muster

/-- Recompute a face: a demand when a part in view differs (R162). -/
def State.recomputeFace (s : State) (f : FaceIx) : State :=
  if (differingParts s f).isEmpty then s else s.handOff (.demand f (demandClass s.muc.phase))

/-- Recompute the enabled faces that satisfy a test, in ascending index (R162). -/
def State.recomputeFaces (s : State) (which : FaceConfig → Bool) : State :=
  (indices 32).foldl (fun s f => if (s.fcu.faces[f].config).elim false which then s.recomputeFace f else s) s

/-- A face can show a destination (R162). -/
def FaceConfig.shows (d : DestIx) (c : FaceConfig) : Bool :=
  match c.kind with
  | .sign _ (.wayfind ds) ms => ds.contains d || ms.any (fun st => stationDest st == d)
  | .sign _ (.programme vs) ms => vs.has d.val || ms.any (fun st => stationDest st == d)
  | .door _ _ st => stationDest st == d

/-- A SIGN PROGRAMME face (R162). -/
def FaceConfig.isProgramme (c : FaceConfig) : Bool :=
  match c.kind with
  | .sign _ (.programme _) _ => true
  | _ => false

/-- A SIGN PROGRAMME face listing a venue (R162). -/
def FaceConfig.listsVenue (v : Nat) (c : FaceConfig) : Bool :=
  match c.kind with
  | .sign _ (.programme vs) _ => vs.has v
  | _ => false

/-- The number of languages a SIGN face turns through; 1 for a DOOR face (R165). -/
def FaceConfig.languageCount (c : FaceConfig) : Nat :=
  match c.kind with
  | .sign langs _ _ => langs.length
  | .door _ _ _ => 1

/-! ### Snapshots (R160, R164, R169) -/

def State.setFace (s : State) (f : FaceIx) (fs : FaceState) : State :=
  { s with fcu := { s.fcu with faces := setAt s.fcu.faces f fs } }

/-- Write one part of a face's snapshot. -/
def State.writePart (s : State) (f : FaceIx) (p : Part) (v : Option PartValue) : State :=
  s.setFace f { s.fcu.faces[f] with snapshot := setAt s.fcu.faces[f].snapshot (partIx p) v }

/-- Header and lines absent, the privacy indicator kept (R160). -/
def forgetPicture (v : Vector (Option PartValue) 6) : Vector (Option PartValue) 6 :=
  tabulate (fun i => if i = 5 then v[i] else none)

def State.forgetFacePicture (s : State) (f : FaceIx) : State :=
  s.setFace f { s.fcu.faces[f] with snapshot := forgetPicture s.fcu.faces[f].snapshot }

/-- The FCU writes the snapshot on a completed record (R160). -/
def State.recordCompleted (s : State) (f : FaceIx) : Drawn → State
  | .part p v => s.writePart f p (some v)
  | .picture => s.forgetFacePicture f

/-- The FCU's snapshot on a record that did not complete (R169, R184). -/
def State.recordNotCompleted (s : State) (f : FaceIx) : DrawTarget → State
  | .part p => s.writePart f p none
  | .picture => s.forgetFacePicture f

/-- Clear a face's snapshot to nothing drawn (R164). -/
def State.clearSnapshot (s : State) (f : FaceIx) : State :=
  s.setFace f { s.fcu.faces[f] with snapshot := nothingDrawn }

end Sys2Proof.Machine
end

