-- ==== Sys2Proof/Machine/PageOps.lean ====
section
/-! DEFINITION. The operations of the Page Cache (09): requests, pins, prefetch marks, the fetch queue, the choice of slot, fetch ends, muster holds. -/

namespace Sys2Proof.Machine

/-! ### Waiters and the fetch queue (R198, R201) -/

def Waiter.isFace : Waiter → Bool
  | .face _ => true
  | _ => false

/-- The rank of an entry's class: hold, then face, then prefetch (R201). -/
def QueueEntry.rank (e : QueueEntry) : Nat :=
  if e.waiters.contains .hold then 0 else if e.waiters.any Waiter.isFace then 1 else 2

/-- Of two entries, the one ahead in the queue; the earlier entered on equal classes (R201). -/
def aheadEntry (best : Option QueueEntry) (e : QueueEntry) : Option QueueEntry :=
  match best with
  | none => some e
  | some b => if e.rank < b.rank then some e else some b

/-- The entry at the head of the queue (R201). -/
def Pca.head (p : Pca) : Option QueueEntry := p.queue.foldl aheadEntry none

/-- A waiter joins a list of waiters; a hold mark joins once (R205). -/
def joinWaiter (ws : List Waiter) (w : Waiter) : List Waiter :=
  if w = .hold ∧ ws.contains .hold then ws else ws ++ [w]

/-- The slot that holds or fetches a page. -/
def Pca.slotOf (p : Pca) (page : Nat) : Option (Fin 16) :=
  (indices 16).find? (fun i => p.slots[i].state != .empty && p.slots[i].page == page)

def Pca.setSlot (p : Pca) (i : Fin 16) (c : CacheSlot) : Pca := { p with slots := setAt p.slots i c }

/-- A waiter joins a page that is not VALID: its FILLING slot, its queue entry, or a new entry (R199, R205). -/
def Pca.await (p : Pca) (page : Nat) (w : Waiter) : Pca :=
  match p.slotOf page with
  | some i => p.setSlot i { p.slots[i] with waiters := joinWaiter p.slots[i].waiters w }
  | none =>
    if p.queue.any (fun e => e.page == page) then
      { p with queue := p.queue.map (fun e => if e.page = page then { e with waiters := joinWaiter e.waiters w } else e) }
    else { p with queue := p.queue ++ [{ page := page, waiters := [w] }] }

/-- Remove waiters everywhere; a queue entry left with none is removed (R199, R200, R206). -/
def Pca.dropWaiters (p : Pca) (drop : Nat → Waiter → Bool) : Pca :=
  { p with
    slots := tabulate (fun i => { p.slots[i] with waiters := p.slots[i].waiters.filter (fun w => !drop p.slots[i].page w) })
    queue := (p.queue.map (fun e => { e with waiters := e.waiters.filter (fun w => !drop e.page w) })).filter
      (fun e => !e.waiters.isEmpty) }

/-! ### The choice of slot (R202) -/

/-- A VALID slot a fetch may take: not pinned, not held. -/
def CacheSlot.evictable (c : CacheSlot) : Bool := c.state == .valid && c.pins == 0 && !c.held

/-- Of two slots, the evictable one with the lower order number. -/
def olderSlot (v : Vector CacheSlot 16) (best : Option (Fin 16)) (i : Fin 16) : Option (Fin 16) :=
  if v[i].evictable then
    match best with
    | none => some i
    | some b => if v[i].order.toNat < v[b].order.toNat then some i else some b
  else best

/-- The slot for a fetch: the lowest EMPTY one, else the oldest evictable one, else none (R202). -/
def Pca.chooseSlot (p : Pca) : Option (Fin 16) :=
  ((indices 16).find? (fun i => p.slots[i].state == .empty)) <|> (indices 16).foldl (olderSlot p.slots) none

/-- Start the fetch of an entry in a slot (R202). -/
def Pca.startFetch (p : Pca) (e : QueueEntry) (i : Fin 16) : Pca :=
  { p with
    slots := setAt p.slots i
      { state := .filling, page := e.page, pins := 0, held := false, order := p.slots[i].order, waiters := e.waiters, bytes := [] }
    queue := p.queue.filter (fun x => x.page != e.page)
    fetch := some { slot := i, header := none } }

/-- While the port is free, try to start the head's fetch (R202). -/
def Pca.tryFetch (p : Pca) : Pca :=
  match p.fetch, p.head, p.chooseSlot with
  | none, some e, some i => p.startFetch e i
  | _, _, _ => p

/-! ### Requests and pins (R199, R200) -/

/-- The VALID slot of a page. -/
def Pca.validSlot (p : Pca) (page : Nat) : Option (Fin 16) :=
  (p.slotOf page).filter (fun i => p.slots[i].state == .valid)

def CacheSlot.pin (c : CacheSlot) : CacheSlot := { c with pins := c.pins + 1 }

def CacheSlot.unpin (c : CacheSlot) : CacheSlot := { c with pins := c.pins - 1 }

/-- A face request: true when the page is VALID and now pinned (R199). -/
def Pca.faceRequest (p : Pca) (f : FaceIx) (page : Nat) : Pca × Bool :=
  match p.validSlot page with
  | some i => (p.setSlot i p.slots[i].pin, true)
  | none => ((p.await page (.face f)).tryFetch, false)

/-- The prefetch mark of a face word is withdrawn, wherever it stands (R199). -/
def Pca.withdrawPrefetch (p : Pca) (f : FaceIx) : Pca :=
  (p.dropWaiters (fun _ w => w == .prefetch f)).tryFetch

/-- A prefetch request: the earlier mark goes, and a page that is not VALID is awaited (R199). -/
def Pca.prefetchRequest (p : Pca) (f : FaceIx) (page : Nat) : Pca :=
  let p := p.dropWaiters (fun _ w => w == .prefetch f)
  match p.validSlot page with
  | some _ => p.tryFetch
  | none => (p.await page (.prefetch f)).tryFetch

/-- A pin is released (R200). -/
def Pca.releasePin (p : Pca) (page : Nat) : Pca :=
  match p.validSlot page with
  | some i => (p.setSlot i p.slots[i].unpin).tryFetch
  | none => p

/-- A face word in WAIT_PAGE is taken off the waiters (R200). -/
def Pca.dropFace (p : Pca) (f : FaceIx) : Pca := (p.dropWaiters (fun _ w => w == .face f)).tryFetch

/-- The bytes of a page in its VALID slot. -/
def Pca.pageBytes (p : Pca) (page : Nat) : List Byte :=
  match p.validSlot page with
  | some i => p.slots[i].bytes
  | none => []

/-! ### Fetch ends (R203, R204) -/

/-- The face words waiting, in order of joining. -/
def faceWaiters (ws : List Waiter) : List FaceIx :=
  ws.filterMap (fun w => match w with
    | .face f => some f
    | _ => none)

/-- A slot filled by a GOOD end: VALID, pinned once for each face waiter, held if a hold mark waited (R203). -/
def CacheSlot.filled (c : CacheSlot) (order : Count32) (bytes : List Byte) : CacheSlot :=
  { c with state := .valid, order := order, bytes := bytes, pins := (faceWaiters c.waiters).length,
           held := c.waiters.contains .hold, waiters := [] }

/-- The fetch in a slot ends GOOD (R203). -/
def Pca.endGood (p : Pca) (i : Fin 16) (bytes : List Byte) : Pca :=
  let order := p.completion + 1
  { p with slots := setAt p.slots i (p.slots[i].filled order bytes), completion := order, fetch := none }.tryFetch

/-- The slot of a faulted fetch becomes EMPTY (R204). The port is free once the waiters are told (log 38). -/
def Pca.endFault (p : Pca) (i : Fin 16) : Pca := { p with slots := setAt p.slots i CacheSlot.vacant }

/-- The port is free, and the head of the queue is tried (R202). -/
def Pca.freePort (p : Pca) : Pca := { p with fetch := none }.tryFetch

/-! ### Muster holds (R205, R206) -/

/-- Clear the held flag of every slot holding one of some pages, and remove their hold marks (R206). -/
def Pca.unhold (p : Pca) (pages : List Nat) : Pca :=
  let p1 := p.dropWaiters (fun page w => w == .hold && pages.contains page)
  { p1 with slots := tabulate (fun i =>
      if pages.contains p1.slots[i].page then { p1.slots[i] with held := false } else p1.slots[i]) }

/-- Hold one page: a VALID slot at once, else a hold mark (R205). -/
def Pca.holdPage (p : Pca) (page : Nat) : Pca :=
  match p.validSlot page with
  | some i => p.setSlot i { p.slots[i] with held := true }
  | none => p.await page .hold

/-- A hold request names a phase and its pages (R205); the head is tried once the pages are entered (log 21). -/
def Pca.hold (p : Pca) (phase : Phase) (pages : List Nat) : Pca :=
  (pages.foldl Pca.holdPage { p with holdPhase := some phase, holdPages := pages, faulted := false }).tryFetch

/-- A release request names a phase's pages (R206). -/
def Pca.release (p : Pca) (pages : List Nat) : Pca :=
  { p.unhold pages with holdPhase := none, holdPages := [], faulted := false }.tryFetch

/-- A held-page fault (R206): the faulted mark, and no page of the hold set held or marked. -/
def Pca.holdFault (p : Pca) : Pca := { p.unhold p.holdPages with faulted := true }

end Sys2Proof.Machine
end

