-- ==== Sys2Proof/Machine/StringOps.lean ====
section
/-! DEFINITION. The operations of the Face String Controller (08): demands, chains and their ends, the string arbiter, record preparation, polls, going offline, page answers. -/

namespace Sys2Proof.Machine

/-! ### Face words, the string and the cache -/

def State.setWord (s : State) (f : FaceIx) (w : FaceWord) : State :=
  { s with fsc := { s.fsc with words := setAt s.fsc.words f w } }

def State.setString (s : State) (x : Option Exchange) : State := { s with fsc := { s.fsc with string := x } }

def State.setPca (s : State) (p : Pca) : State := { s with pca := p }

/-- A demand sequence number is issued: the count's value, and the count advances (R173). -/
def State.issue (s : State) : State := { s with fsc := { s.fsc with seqCount := s.fsc.seqCount + 1 } }

/-- The face of an exchange. -/
def Exchange.face : Exchange → FaceIx
  | .draw f _ => f
  | .poll f _ _ => f

/-- An exchange with a face is on the string. -/
def State.onString (s : State) (f : FaceIx) : Bool := s.fsc.string.any (fun x => x.face == f)

/-- A record of a face's chain is in transfer. -/
def State.drawing (s : State) (f : FaceIx) : Bool :=
  match s.fsc.string with
  | some (.draw g _) => g == f
  | _ => false

/-- The state a face word is in, from what it holds and what is on the string (R172); an OFFLINE word stays OFFLINE. -/
def FaceWord.rest (w : FaceWord) (onString : Bool) : WordState :=
  if w.state = .offline then .offline
  else if onString then .transfer
  else if w.waiting.isSome then .waitPage
  else if w.active.isSome then .active
  else .idle

/-- Put a face word in the state it is now in. -/
def State.settle (s : State) (f : FaceIx) : State :=
  s.setWord f { s.fsc.words[f] with state := s.fsc.words[f].rest (s.onString f) }

/-! ### Chains -/

/-- The record total of a chain (R171). -/
def ChainBody.total : ChainBody → Nat
  | .generated _ parts => parts.length
  | .supplied records _ _ => records.length

def ChainBody.isGenerated : ChainBody → Bool
  | .generated _ _ => true
  | .supplied _ _ _ => false

/-- A generated chain is active on a face. -/
def FaceWord.generatedActive (w : FaceWord) : Bool := w.active.any (fun c => c.body.isGenerated)

/-- A supplied chain is active on a face. -/
def FaceWord.suppliedActive (w : FaceWord) : Bool := w.active.any (fun c => !c.body.isGenerated)

/-- Pool slots a face word's chains use: one per record, active and pending (R176). -/
def FaceWord.poolUse (w : FaceWord) : Nat :=
  (w.active.elim 0 (fun c => if c.body.isGenerated then 0 else c.body.total)) + w.pending.elim 0 (·.length)

/-- The pool's used record slots (R176). -/
def Fsc.poolUsed (c : Fsc) : Nat := ((indices 32).map (fun f => c.words[f].poolUse)).sum

/-- The pool's free record slots. -/
def Fsc.poolFree (c : Fsc) : Nat := Config.poolCapacity - c.poolUsed

/-- The prefetch page becomes absent and its mark at the PCA is withdrawn (R171). -/
def State.dropPrefetch (s : State) (f : FaceIx) : State :=
  (s.setWord f { s.fsc.words[f] with prefetch := none }).setPca (s.pca.withdrawPrefetch f)

/-- A record not on the string is given up: a started record's pin is released, a waiting face word taken off the waiters (R178, R200). -/
def State.withdrawRecord (s : State) (f : FaceIx) : State :=
  let w := s.fsc.words[f]
  let pca := w.started.elim s.pca (fun r => s.pca.releasePin r.page)
  let pca := if w.waiting.isSome then pca.dropFace f else pca
  (s.setWord f { w with started := none, waiting := none }).setPca pca

/-- The active chain and its prefetch page become absent (R175 step 1, R179 step 1). A started record's pin is released, and the head of
the fetch queue tried, before the prefetch mark is withdrawn (DESIGN CHOICE, log 47). -/
def State.clearChain (s : State) (f : FaceIx) : State :=
  let s := s.withdrawRecord f
  (s.setWord f { s.fsc.words[f] with active := none, recordAged := false }).dropPrefetch f

/-- A supplied chain's ending goes to the HPT, or is stacked when the queue refuses it (R179 step 3, R216). -/
def State.giveEnding (s : State) (f : FaceIx) (e : ChainEnding) : State :=
  if s.noticeRoom then s.notice (.chainEnd f e)
  else s.setWord f { s.fsc.words[f] with stacked := some e }

/-- A pending supplied chain is discarded with 0 records done, and the face word's prefetch page becomes absent; the FCU is not told (R179). -/
def State.discardPending (s : State) (f : FaceIx) (c : Condition) : State :=
  match s.fsc.words[f].pending with
  | some records =>
    ((s.setWord f { s.fsc.words[f] with pending := none }).dropPrefetch f).giveEnding f
      { condition := c, done := 0, total := records.length }
  | none => s

/-- A supplied chain becomes the active chain with a newly issued number (R175 step 4, R177). -/
def State.activate (s : State) (f : FaceIx) (records : List SuppliedRecord) : State :=
  let chain : ActiveChain := { body := .supplied records 0 false, index := 0, seq := s.fsc.seqCount }
  (s.issue.setWord f { s.fsc.words[f] with active := some chain, pending := none, recordAged := false }).settle f

/-- A pending supplied chain becomes active (R175 step 4). -/
def State.activatePending (s : State) (f : FaceIx) : State :=
  match s.fsc.words[f].pending with
  | some records => s.activate f records
  | none => s

/-- Re-dirty becomes a demand with a newly issued number (R175 step 5). -/
def State.followUp (s : State) (f : FaceIx) : State :=
  let w := s.fsc.words[f]
  if w.redirty then s.issue.setWord f { w with redirty := false, demand := true, demandSeq := s.fsc.seqCount } else s

/-- The report and the notice of an abnormal end of a generated chain (R175 step 2). -/
def State.drawFault (s : State) (f : FaceIx) (cls : DemandClass) (c : Condition) (p : Part) : State :=
  (s.recordNotCompleted f (.part p)).notice (.drawFault f cls c p)

/-- A generated chain ends (R175). On an abnormal end the part that did not complete is given. A face gone OFFLINE takes no
follow-up (step 3). -/
def State.endGenerated (s : State) (f : FaceIx) (cls : DemandClass) (c : Condition) (part : Option Part) : State :=
  let s := s.clearChain f
  let s := part.elim s (s.drawFault f cls c)
  if s.fsc.words[f].state = .offline then s else ((s.activatePending f).followUp f).settle f

/-- The last record of a supplied chain carries HOLD. -/
def lastHolds (records : List SuppliedRecord) : Bool := records.getLast?.any (·.hold)

/-- An active supplied chain ends (R179). -/
def State.endSupplied (s : State) (f : FaceIx) (records : List SuppliedRecord) (done : Nat) (c : Condition) : State :=
  let s := s.clearChain f
  let s := s.setWord f { s.fsc.words[f] with hostHeld := c == .complete && lastHolds records }
  let s := s.giveEnding f { condition := c, done := done, total := records.length }
  (s.handOff (.suppliedChainEnded f)).settle f

/-- The active chain ends otherwise than COMPLETE, at the record it is at (R175, R179). -/
def State.endChain (s : State) (f : FaceIx) (c : Condition) : State :=
  match s.fsc.words[f].active with
  | some { body := .generated cls parts, index := i, .. } => s.endGenerated f cls c parts[i]?
  | some { body := .supplied records done _, .. } => s.endSupplied f records done c
  | none => s

/-! ### Demands (R173) -/

/-- The class field after a demand of a class while it holds another: MUSTER stays and MUSTER raises (R173). -/
def raiseClass (held : Option DemandClass) (k : DemandClass) : Option DemandClass :=
  if held = some .muster then some .muster else some k

/-- The FSC takes a demand (R173). -/
def State.takeDemand (s : State) (f : FaceIx) (k : DemandClass) : State :=
  let w := s.fsc.words[f]
  if w.address.isNone || w.state == .offline then s
  else if w.generatedActive then s.setWord f { w with redirty := true, cls := raiseClass w.cls k }
  else if w.demand then s.setWord f { w with cls := raiseClass w.cls k }
  else s.issue.setWord f { w with demand := true, cls := some k, demandSeq := s.fsc.seqCount }

/-! ### Records (R182) -/

/-- The next record of a chain, built now (R182 step 2). -/
def State.buildRecord (s : State) (f : FaceIx) (c : ActiveChain) : DrawRecord :=
  let lang := s.fcu.faces[f].language
  let more : Bool := c.index + 1 < c.body.total
  match c.body with
  | .generated _ parts =>
    let p := parts.getD c.index .header
    let v := s.fcu.faces[f].config.elim .blank (fun cfg => partValue s f cfg p)
    { content := .part p v, chain := more, phase := s.muc.phase, language := lang }
  | .supplied records _ _ =>
    { content := .picture ((records[c.index]?).elim 0 (·.page)), chain := more, phase := .quiet, language := lang }

/-- The page the record after the present one would carry if built now; 0 for none (R182 step 5). -/
def State.nextPage (s : State) (f : FaceIx) (c : ActiveChain) : Nat :=
  if c.index + 1 < c.body.total then (s.buildRecord f { c with index := c.index + 1 }).page else 0

/-- Request the next record's page as a prefetch and note it; page 0 is not requested (R182 step 5). -/
def State.prefetchNext (s : State) (f : FaceIx) (c : ActiveChain) : State :=
  let page := s.nextPage f c
  if page = 0 then s
  else (s.setWord f { s.fsc.words[f] with prefetch := some page }).setPca (s.pca.prefetchRequest f page)

/-- The record of a chain carries NOTIFY. -/
def ActiveChain.notifies (c : ActiveChain) : Bool :=
  match c.body with
  | .supplied records _ _ => (records[c.index]?).any (·.notify)
  | .generated _ _ => false

/-- A record begins transfer (R182 step 5). -/
def State.beginTransfer (s : State) (f : FaceIx) (c : ActiveChain) (r : DrawRecord) : State :=
  let w := s.fsc.words[f]
  let s := (s.setString (some (.draw f r))).setWord f
    { w with state := .transfer, retry := 0, started := none, waiting := none, recordAged := false }
  let s := if c.notifies then s.notice (.progress f c.index c.body.total) else s
  s.prefetchNext f c

/-- The chain is a supplied one. -/
def ActiveChain.isSupplied (c : ActiveChain) : Bool := !c.body.isGenerated

/-- Ask the PCA for a built record's page: a VALID page is pinned and the record begins, else the face word waits (R182 step 4). -/
def State.requestPage (s : State) (f : FaceIx) (c : ActiveChain) (r : DrawRecord) : State :=
  let (pca, ready) := s.pca.faceRequest f r.page
  let s := s.setPca pca
  if ready then s.beginTransfer f c r
  else s.setWord f { s.fsc.words[f] with waiting := some r, state := .waitPage }

/-- Prepare the picked record of a face's active chain (R182). -/
def State.prepare (s : State) (f : FaceIx) (c : ActiveChain) : State :=
  if c.isSupplied && s.muc.phase != .quiet then s.endChain f .halted
  else
    match s.fsc.words[f].started with
    | some r => s.beginTransfer f c r
    | none =>
      let r := s.buildRecord f c
      if r.page = 0 then s.beginTransfer f c r else s.requestPage f c r

/-! ### The arbiter (R180) -/

/-- What a candidate is. -/
inductive Pick where
  | demand
  | record
  | poll
  deriving DecidableEq, Repr

/-- A candidate: class rank (MUSTER 0, CONTENT 1, SUPPLIED 2, POLL 3), number, face (R180). -/
structure Candidate where
  rank : Nat
  seq  : Count32
  face : FaceIx
  pick : Pick
  deriving DecidableEq, Repr

def classRank : DemandClass → Nat
  | .muster => 0
  | .content => 1

/-- The class rank of a chain's record: an aged supplied record ranks as CONTENT (R180). -/
def chainRank (aged : Bool) : ChainBody → Nat
  | .generated cls _ => classRank cls
  | .supplied _ _ _ => if aged then 1 else 2

/-- The poll of a face word is a candidate: due, and the word IDLE, ACTIVE or OFFLINE (R172, R180, R181). -/
def FaceWord.pollCandidate (w : FaceWord) : Option (Count32 × Bool) :=
  match w.poll with
  | .due n aged => if w.state = .waitPage ∨ w.state = .transfer then none else some (n, aged)
  | _ => none

/-- The candidates of a face word (R180). -/
def FaceWord.candidates (w : FaceWord) (f : FaceIx) : List Candidate :=
  (if w.demand && w.active.isNone && w.state == .idle then
      [{ rank := classRank (w.cls.getD .content), seq := w.demandSeq, face := f, pick := .demand }] else [])
    ++ (if w.state = .active then
      (w.active.map (fun c =>
        ({ rank := chainRank w.recordAged c.body, seq := c.seq, face := f, pick := .record } : Candidate))).toList else [])
    ++ (w.pollCandidate.map (fun p =>
      ({ rank := if p.2 then 1 else 3, seq := p.1, face := f, pick := .poll } : Candidate))).toList

/-- Number a is older than number b in serial order (R173). -/
def seqOlder (a b : Count32) : Bool := 1 ≤ (b - a).toNat && (b - a).toNat ≤ 2147483647

/-- Of two candidates, the one the arbiter takes: the lower class rank, then the older number (R180). -/
def preferred (best : Option Candidate) (c : Candidate) : Option Candidate :=
  match best with
  | none => some c
  | some b => if c.rank < b.rank || (c.rank == b.rank && seqOlder c.seq b.seq) then some c else some b

/-- The candidate the arbiter takes, if there is one (R180). -/
def State.bestCandidate (s : State) : Option Candidate :=
  ((indices 32).flatMap (fun f => s.fsc.words[f].candidates f)).foldl preferred none

/-- A picked demand: clear it, ask the FCU for the differing parts, and form the generated chain unless there are none (R174). -/
def State.startGenerated (s : State) (f : FaceIx) : State :=
  let w := s.fsc.words[f]
  let parts := differingParts s f
  if parts.isEmpty then s.setWord f { w with demand := false, cls := none }
  else
    let c : ActiveChain := { body := .generated (w.cls.getD .content) parts, index := 0, seq := w.demandSeq }
    (s.setWord f { w with demand := false, cls := none, active := some c, state := .active, recordAged := false }).prepare f c

/-- A poll begins (R186 to R188). -/
def State.beginPoll (s : State) (f : FaceIx) : State :=
  let w := s.fsc.words[f]
  let stacked := w.attnStacked && !(s.hpt.notices.length ≤ Config.attentionResume)
  let offline : Bool := w.state == .offline
  let allowed := offline || !stacked
  let restate := !offline && w.restateDue && allowed
  { s with fsc := { s.fsc with
      words := setAt s.fsc.words f
        { w with attnStacked := stacked, retry := 0, poll := .underway, state := if offline then .offline else .transfer }
      lastPolled := f, string := some (.poll f allowed restate) } }

/-- The arbiter takes a candidate. -/
def State.takeCandidate (s : State) (c : Candidate) : State :=
  match c.pick with
  | .demand => s.startGenerated c.face
  | .record => (s.fsc.words[c.face].active).elim s (s.prepare c.face)
  | .poll => s.beginPoll c.face

/-- The candidate the arbiter has to choose: the string is free, in RUNNING, and there is one (R180). -/
def State.choice (s : State) : Option Candidate :=
  if s.running && s.fsc.string.isNone then s.bestCandidate else none

/-- The arbiter picks until the string carries an exchange or no candidate is left. Each pick that starts none takes a candidate
away (a demand with nothing to draw, a record that must wait for its page, a supplied chain that must end), at most three for
each face, so the count given by `arbitrate` is never reached (log 36). -/
def State.pickUpTo : Nat → State → State
  | 0, s => s
  | n + 1, s =>
    match s.choice with
    | some c => State.pickUpTo n (s.takeCandidate c)
    | none => s

/-- The arbiter's choices of one moment: picks until an exchange is on the string (R180). An event that needs an exchange or a fetch
comes after them (log 28). -/
def State.arbitrate (s : State) : State := State.pickUpTo 128 s

/-! ### Ends of exchanges (R184 to R188) -/

/-- The string is free again, and a drawn record's page is given up (R184, R185 step 1, R200). -/
def State.releaseRecord (s : State) (r : DrawRecord) : State :=
  (s.setString none).setPca (if r.page = 0 then s.pca else s.pca.releasePin r.page)

/-- What a record drew, for the FCU (R160). -/
def DrawRecord.drawn (r : DrawRecord) : Drawn :=
  match r.content with
  | .part p v => .part p v
  | .picture _ => .picture

/-- The chain after a completed record: index advanced, and for a supplied chain one more record done (R185 steps 3, 4). -/
def ActiveChain.advance (c : ActiveChain) : ActiveChain :=
  match c.body with
  | .generated _ _ => { c with index := c.index + 1 }
  | .supplied records done halt => { c with body := .supplied records (done + 1) halt, index := c.index + 1 }

/-- After a completed record: the chain ends, or goes on with its next record a candidate (R185). -/
def State.continueChain (s : State) (f : FaceIx) (c : ActiveChain) : State :=
  match c.body with
  | .generated cls parts => if c.index < parts.length then s.settle f else s.endGenerated f cls .complete none
  | .supplied records done halt =>
    if halt then s.endSupplied f records done .halted
    else if c.index < records.length then s.settle f
    else s.endSupplied f records done .complete

/-- A record's exchange ends with DONE (R185). -/
def State.recordDone (s : State) (f : FaceIx) (r : DrawRecord) : State :=
  let s := (s.releaseRecord r).recordCompleted f r.drawn
  match s.fsc.words[f].active with
  | some c => (s.setWord f { s.fsc.words[f] with active := some c.advance }).continueChain f c.advance
  | none => s.settle f

/-- A supplied record that began transfer and failed leaves header and lines absent (R184). -/
def State.tellFailedPicture (s : State) (f : FaceIx) (r : DrawRecord) : State :=
  match r.content with
  | .picture _ => s.recordNotCompleted f .picture
  | .part _ _ => s

/-- A record's exchange ends with FAULT (R184). -/
def State.recordFault (s : State) (f : FaceIx) (r : DrawRecord) : State :=
  ((s.releaseRecord r).tellFailedPicture f r).endChain f .faceFault

/-- A face goes OFFLINE: the chain ends, what the word held is cleared, a pending chain is discarded, the HPT is told (R184). The started
record is given up with the chain (log 47). -/
def State.goOffline (s : State) (f : FaceIx) : State :=
  let s := s.setWord f { s.fsc.words[f] with state := .offline, poll := .wait10s }
  let s := s.endChain f .faceSilent
  let s := (s.withdrawRecord f).dropPrefetch f
  let s := s.setWord f { s.fsc.words[f] with demand := false, cls := none, redirty := false, attnStacked := false }
  (s.discardPending f .faceSilent).notice (.faceState f .offline 0)

/-- No valid reply after the second send of a record (R184). -/
def State.recordSilent (s : State) (f : FaceIx) (r : DrawRecord) : State :=
  ((s.releaseRecord r).tellFailedPicture f r).goOffline f

/-- The ACK of an ATTENTION, its notice and its stacking (R187). -/
def State.answerAttention (s : State) (f : FaceIx) (code : Byte) : State :=
  if s.pfl.profile.hostPresent = false then { s with fsc := { s.fsc with lastAck := some (f, .taken) } }
  else if s.noticeRoom then ({ s with fsc := { s.fsc with lastAck := some (f, .taken) } }).notice (.attention f code)
  else ({ s with fsc := { s.fsc with lastAck := some (f, .keep) } }).setWord f { s.fsc.words[f] with attnStacked := true }

/-- An ATTENTION reply: the code is applied first, then answered (R187). Codes: PRIVACY_ON 1, PRIVACY_OFF 2, SERVICE_CALL 3. -/
def State.attend (s : State) (f : FaceIx) (code : Byte) : State :=
  let s :=
    if code = 1#8 ∨ code = 2#8 then
      (s.setWord f { s.fsc.words[f] with privacy := code == 1#8, restateDue := false }).handOff (.privacyChange f)
    else s
  s.answerAttention f code

/-- The effect of a poll's reply (R186). -/
def State.pollEffect (s : State) (f : FaceIx) (restate : Bool) : Reply → State
  | .nothing => if restate then s.setWord f { s.fsc.words[f] with restateDue := false } else s
  | .fault code => s.notice (.faceState f .fault code)
  | .attention code => s.attend f code
  | .done => s

/-- An OFFLINE face answers: IDLE, restate due, told to the HPT and the FCU (R188). -/
def State.backOnline (s : State) (f : FaceIx) : State :=
  ((s.setWord f { s.fsc.words[f] with state := .idle, restateDue := true }).notice (.faceState f .online 0)).handOff
    (.faceBackOnline f)

/-- A poll's exchange ends with a valid reply; the next poll falls due 2 s later (R181, R186, R188). -/
def State.pollReply (s : State) (f : FaceIx) (restate : Bool) (r : Reply) : State :=
  let s := s.setString none
  let s := if s.fsc.words[f].state = .offline then s.backOnline f else s
  let s := s.pollEffect f restate r
  (s.setWord f { s.fsc.words[f] with poll := .wait2s }).settle f

/-- A poll's wait ends with no valid reply (R186, R188). -/
def State.pollSilent (s : State) (f : FaceIx) : State :=
  let w := s.fsc.words[f]
  if w.state = .offline then (s.setString none).setWord f { w with poll := .wait10s }
  else if w.retry = 0 then s.setWord f { w with retry := 1 }
  else (s.setString none).goOffline f

/-! ### Page answers (R183, R203, R204) -/

/-- A face word's page is ready and pinned: its record is the started record (R183). -/
def State.pageReady (s : State) (f : FaceIx) : State :=
  let w := s.fsc.words[f]
  (s.setWord f { w with started := w.waiting, waiting := none }).settle f

/-- A face word is told PAGE_FAULT: its chain ends (R183). -/
def State.pageFault (s : State) (f : FaceIx) : State :=
  (s.setWord f { s.fsc.words[f] with waiting := none }).endChain f .pageFault

/-- A waiter of a faulted fetch is told (R204, R206). -/
def State.tellFault (s : State) : Waiter → State
  | .face f => s.pageFault f
  | .prefetch _ => s
  | .hold => (s.setPca s.pca.holdFault).handOff .heldPageFaultReport

/-- A fetch ends in a page fault: its slot is EMPTY, its waiters are told in the order they joined (R204). -/
def State.fetchFault (s : State) (i : Fin 16) : State :=
  let waiters := s.pca.slots[i].waiters
  let s := waiters.foldl State.tellFault (s.setPca (s.pca.endFault i))
  s.setPca s.pca.freePort

/-- A fetch ends GOOD: its waiters are pinned and reported ready (R203). -/
def State.fetchGood (s : State) (i : Fin 16) (bytes : List Byte) : State :=
  let faces := faceWaiters s.pca.slots[i].waiters
  faces.foldl State.pageReady (s.setPca (s.pca.endGood i bytes))

/-! ### What stands on the line (R190) -/

/-- The bytes of the record or poll on the string, with the bytes of the pinned page. -/
def State.stringBytes (s : State) : List Byte :=
  match s.fsc.string with
  | some (.draw f r) =>
    drawBytes (s.fsc.words[f].address.getD 0) r (if r.page = 0 then [] else s.pca.pageBytes r.page)
  | some (.poll f allowed restate) => pollBytes (s.fsc.words[f].address.getD 0) allowed restate
  | none => []

end Sys2Proof.Machine
end

