-- ==== Sys2Proof/Machine/FaceString.lean ====
section
/-! DEFINITION. The meanings of the Face String Controller's commands (08): FSC_PROFILE_LOAD, DEMAND, CANDIDATE_AGING, POLL_DUE, FACE_REPLY, REPLY_WAIT_EXPIRY, MUSTER_ADOPTION_FSC. -/

namespace Sys2Proof.Machine

/-! ### Polls that fall due (R181) -/

/-- The face k places after the last polled one, wrapping from 31 to 0 (R181). -/
def afterPolled (last : FaceIx) (k : FaceIx) : FaceIx := ⟨(last.val + 1 + k.val) % 32, by omega⟩

/-- Every face, in index order beginning after the last polled index (R181). -/
def roundRobin (last : FaceIx) : List FaceIx := (indices 32).map (afterPolled last)

/-- A face's poll falls due: a number is issued for it (R173, R181). -/
def State.pollFallsDue (s : State) (f : FaceIx) : State :=
  s.issue.setWord f { s.fsc.words[f] with poll := .due s.fsc.seqCount false }

/-- A face's poll waits for its time. -/
def FaceWord.pollWaits (w : FaceWord) : Bool :=
  w.address.isSome && (w.poll == .wait2s || w.poll == .wait10s)

/-! ### Profile load (R171) -/

/-- A face word as the profile load leaves it: an enabled one IDLE with restate due set (R171). -/
def loadedWord (address : Option Byte) : FaceWord :=
  { FaceWord.initial with address := address, restateDue := address.isSome }

/-- A face's poll falls due at profile load, if the face is enabled (R171, R181). -/
def State.pollAtLoad (s : State) (f : FaceIx) : State :=
  if s.fsc.words[f].address.isSome then s.pollFallsDue f else s

/-- FSC_PROFILE_LOAD (R171, R173): the face words are installed, the sequence count is 0, every enabled face's poll falls due,
and the FCU recomputes every enabled face. -/
def execFscProfileLoad (s : State) : Out :=
  if s.running && s.handoffs.contains .fscProfileLoad then
    let s := s.take .fscProfileLoad
    let words := tabulate (fun f => loadedWord (s.pfl.profile.faces[f].map (·.address)))
    let s := { s with fsc := { s.fsc with words := words, seqCount := 0 } }
    let s := (roundRobin s.fsc.lastPolled).foldl State.pollAtLoad s
    .next (s.recomputeFaces (fun _ => true))
  else .next (s.take .fscProfileLoad)

/-! ### Demands, ages and due polls -/

/-- DEMAND (R173): the demand is taken. While the node is not RUNNING the face words keep their start values. -/
def execDemand (f : FaceIx) (k : DemandClass) (s : State) : Out :=
  let s := s.take (.demand f k)
  .next (if s.running then s.takeDemand f k else s)

/-- A candidate of a face comes to rank as CONTENT with age (R180). -/
def State.age (s : State) (f : FaceIx) (a : Aging) : State :=
  let w := s.fsc.words[f]
  match a, w.poll with
  | .record, _ => if w.suppliedActive && !s.drawing f then s.setWord f { w with recordAged := true } else s
  | .poll, .due n _ => s.setWord f { w with poll := .due n true }
  | .poll, _ => s

/-- CANDIDATE_AGING (R180): a supplied record, or a due poll, has waited more than 2 s. -/
def execCandidateAging (f : FaceIx) (a : Aging) (s : State) : Out := .next (s.age f a)

/-- POLL_DUE (R181): the polls of some faces fall due together; they take their numbers in round robin order. -/
def execPollDue (fs : List FaceIx) (s : State) : Out :=
  let due := (roundRobin s.fsc.lastPolled).filter (fun f => fs.contains f && s.fsc.words[f].pollWaits)
  .next (due.foldl State.pollFallsDue s)

/-! ### Ends of exchanges -/

/-- The string address of a face, 0 for a disabled one. -/
def State.addressOf (s : State) (f : FaceIx) : Byte := s.fsc.words[f].address.getD 0

/-- The effect of a valid reply to a record: DONE or FAULT (R184). -/
def State.drawReply (s : State) (f : FaceIx) (r : DrawRecord) : Reply → State
  | .done => s.recordDone f r
  | .fault _ => s.recordFault f r
  | .nothing => s
  | .attention _ => s

/-- FACE_REPLY (R184 to R188): a valid reply ends the exchange on the string. A reply that is not valid counts as none (R190). A reply
that meets a free string answers the exchange the arbiter has then chosen (log 28). -/
def execFaceReply (bytes : List Byte) (s : State) : Out :=
  let s := s.arbitrate
  match s.fsc.string with
  | some (.draw f r) => .next ((readReply (s.addressOf f) true bytes).elim s (s.drawReply f r))
  | some (.poll f _ restate) => .next ((readReply (s.addressOf f) false bytes).elim s (s.pollReply f restate))
  | none => .next s

/-- A record's 20 ms wait ends with no valid reply: sent once more, or the face goes OFFLINE (R184). -/
def State.drawSilent (s : State) (f : FaceIx) (r : DrawRecord) : State :=
  if s.fsc.words[f].retry = 0 then s.setWord f { s.fsc.words[f] with retry := 1 } else s.recordSilent f r

/-- REPLY_WAIT_EXPIRY (R184, R186, R188); one that meets a free string is of the exchange the arbiter has then chosen (log 28). -/
def execReplyWaitExpiry (s : State) : Out :=
  let s := s.arbitrate
  match s.fsc.string with
  | some (.draw f r) => .next (s.drawSilent f r)
  | some (.poll f _ _) => .next (s.pollSilent f)
  | none => .next s

/-! ### Muster entry (R189) -/

/-- Halt-requested is set on an active supplied chain (R178, R189). -/
def ActiveChain.requestHalt (c : ActiveChain) : ActiveChain :=
  match c.body with
  | .supplied records done _ => { c with body := .supplied records done true }
  | .generated _ _ => c

/-- Step 1 of R189 for a face: a supplied record in transfer gets halt-requested; any other supplied chain ends HALTED. -/
def State.haltSupplied (s : State) (f : FaceIx) : State :=
  let w := s.fsc.words[f]
  if w.suppliedActive then
    if s.drawing f then s.setWord f { w with active := w.active.map ActiveChain.requestHalt } else s.endChain f .halted
  else s

/-- The three steps of R189 for an enabled face. -/
def State.musterFace (s : State) (f : FaceIx) : State :=
  if s.fsc.words[f].address.isSome then ((s.haltSupplied f).discardPending f .halted).takeDemand f .muster else s

/-- MUSTER_ADOPTION_FSC (R189): every enabled face, in ascending index. -/
def execMusterAdoptionFsc (s : State) : Out :=
  let s := s.take .musterAdoptionFsc
  .next (if s.running then (indices 32).foldl State.musterFace s else s)

end Sys2Proof.Machine
end

