-- ==== Sys2Proof/Machine/Faces.lean ====
section
/-! DEFINITION. The meanings of the Face Content Unit's commands (07): FCU_PROFILE_LOAD, CHANGED_DESTINATION_REPORT, PROGRAMME_REPORT, MINUTE_EVENT_FCU, MUSTER_REPORT_FCU, RETURN_TO_QUIET_FCU, PRIVACY_CHANGE, LANGUAGE_ROTATION_EXPIRY, RECORD_COMPLETED, RECORD_NOT_COMPLETED, SUPPLIED_CHAIN_ENDED, FACE_BACK_ONLINE, HELD_PAGE_FAULT_REPORT. While the node is not RUNNING the FCU takes none of them (R162). -/

namespace Sys2Proof.Machine

/-- FCU_PROFILE_LOAD (R151, R152, R162, R165): the face records are installed, every language index is 0, the rotation timer
starts, and every face is recomputed. -/
def execFcuProfileLoad (s : State) : Out :=
  if s.running && s.handoffs.contains .fcuProfileLoad then
    let s := s.take .fcuProfileLoad
    let faces := tabulate (fun f => { s.fcu.faces[f] with config := s.pfl.profile.faces[f], langIx := 0 })
    .next (({ s with fcu := { faces := faces, rotationRunning := true } } : State).recomputeFaces (fun _ => true))
  else .next (s.take .fcuProfileLoad)

/-- CHANGED_DESTINATION_REPORT (R162): every face that can show the destination. -/
def execChangedDestinationReport (d : DestIx) (s : State) : Out :=
  let s := s.take (.changedDestinationReport d)
  .next (if s.running then s.recomputeFaces (FaceConfig.shows d) else s)

/-- PROGRAMME_REPORT (R142, R162): the programme faces listing the venue. -/
def execProgrammeReport (venue id : Nat) (kind : ItemReport) (s : State) : Out :=
  let s := s.take (.programmeReport venue id kind)
  .next (if s.running then s.recomputeFaces (FaceConfig.listsVenue venue) else s)

/-- MINUTE_EVENT_FCU (R162): every SIGN PROGRAMME face. -/
def execMinuteEventFcu (old : Option Nat) (new : Nat) (s : State) : Out :=
  let s := s.take (.minuteEventFcu old new)
  .next (if s.running then s.recomputeFaces FaceConfig.isProgramme else s)

/-- MUSTER_REPORT_FCU (R159, R162): every face. -/
def execMusterReportFcu (s : State) : Out :=
  let s := s.take .musterReportFcu
  .next (if s.running then s.recomputeFaces (fun _ => true) else s)

/-- The FSC clears the host-held flag of every face (R166). -/
def State.clearHostHolds (s : State) : State :=
  { s with fsc := { s.fsc with words := tabulate (fun f => { s.fsc.words[f] with hostHeld := false }) } }

/-- Every snapshot becomes nothing drawn (R164, R166). -/
def State.clearAllSnapshots (s : State) : State :=
  { s with fcu := { s.fcu with faces := tabulate (fun f => { s.fcu.faces[f] with snapshot := nothingDrawn }) } }

/-- RETURN_TO_QUIET_FCU (R166): host holds cleared, snapshots cleared, every face recomputed. -/
def execReturnToQuietFcu (s : State) : Out :=
  let s := s.take .returnToQuietFcu
  .next (if s.running then (s.clearHostHolds.clearAllSnapshots).recomputeFaces (fun _ => true) else s)

/-- PRIVACY_CHANGE (R167): that face. -/
def execPrivacyChange (f : FaceIx) (s : State) : Out :=
  let s := s.take (.privacyChange f)
  .next (if s.running then s.recomputeFace f else s)

/-- The language index advances by 1, from the last position to 0 (R165). -/
def advanceLanguage (fs : FaceState) : FaceState :=
  match fs.config with
  | some c => if 2 ≤ c.languageCount then { fs with langIx := (fs.langIx + 1) % c.languageCount } else fs
  | none => fs

/-- A face's share of a rotation: a SIGN face of two or three languages advances and is recomputed (R165). -/
def State.rotateFace (s : State) (f : FaceIx) : State :=
  match s.fcu.faces[f].config with
  | some c => if 2 ≤ c.languageCount then (s.setFace f (advanceLanguage s.fcu.faces[f])).recomputeFace f else s
  | none => s

/-- LANGUAGE_ROTATION_EXPIRY (R165): the running timer starts again and the faces of several languages advance. -/
def execLanguageRotationExpiry (s : State) : Out :=
  .next (if s.running && s.fcu.rotationRunning then (indices 32).foldl State.rotateFace s else s)

/-- RECORD_COMPLETED (R160). -/
def execRecordCompleted (f : FaceIx) (d : Drawn) (s : State) : Out :=
  let s := s.take (.recordCompleted f d)
  .next (if s.running && s.fcu.faces[f].config.isSome then s.recordCompleted f d else s)

/-- RECORD_NOT_COMPLETED (R169): the part becomes absent; no demand is raised. -/
def execRecordNotCompleted (f : FaceIx) (d : DrawTarget) (s : State) : Out :=
  let s := s.take (.recordNotCompleted f d)
  .next (if s.running && s.fcu.faces[f].config.isSome then s.recordNotCompleted f d else s)

/-- SUPPLIED_CHAIN_ENDED (R162, R179): that face. -/
def execSuppliedChainEnded (f : FaceIx) (s : State) : Out :=
  let s := s.take (.suppliedChainEnded f)
  .next (if s.running then s.recomputeFace f else s)

/-- FACE_BACK_ONLINE (R164): the snapshot is cleared and the face recomputed. -/
def execFaceBackOnline (f : FaceIx) (s : State) : Out :=
  let s := s.take (.faceBackOnline f)
  .next (if s.running then (s.clearSnapshot f).recomputeFace f else s)

/-- HELD_PAGE_FAULT_REPORT (R162, R206): every face. -/
def execHeldPageFaultReport (s : State) : Out :=
  let s := s.take .heldPageFaultReport
  .next (if s.running then s.recomputeFaces (fun _ => true) else s)

end Sys2Proof.Machine
end

