-- ==== Sys2Proof/Machine/LegOps.lean ====
section
/-! DEFINITION. The operations of the Leg Monitor (02): barred and passable (R45), reports to the RTU (R46), door frames (R39), applying conditions (R41). -/

namespace Sys2Proof.Machine

/-- The phases in which the muster bars legs (R45). -/
def Phase.bars : Phase → Bool
  | .alert | .proceed | .hold => true
  | .quiet | .standDown => false

/-- A configured leg is barred: its door closed, a LIFT during a muster, or a closed far zone during a muster (R45). -/
def barredUnder (phase : Phase) (zones : List Byte) (f : LegStatic) (doorClosed : Bool) : Bool :=
  doorClosed || (Phase.bars phase && (f.kind == .lift || zones.contains f.farZone))

/-- Evaluate barred and passable of a leg; an unconfigured leg is neither (R32, R45). -/
def LegRecord.evaluate (phase : Phase) (zones : List Byte) (r : LegRecord) : LegRecord :=
  match r.fixed with
  | none => { r with barred := false, passable := false }
  | some f =>
    let barred := barredUnder phase zones f r.doorClosed
    { r with barred := barred, passable := r.link == .up && !barred }

/-- The report of what an event changed of a leg, if it changed anything (R46). -/
def legChange (l : LegIx) (old new : LegRecord) : Option LegReport :=
  let link := if old.link = new.link then none else some new.link
  let passability := old.barred != new.barred || old.passable != new.passable
  let conditions := old.crowd != new.crowd || old.smoke != new.smoke
  if link.isSome || passability || conditions then
    some { leg := l, link := link, passability := passability, conditions := conditions }
  else none

/-- Write one leg record. -/
def State.setLeg (s : State) (l : LegIx) (r : LegRecord) : State :=
  { s with lgm := { s.lgm with legs := setAt s.lgm.legs l r } }

/-- A leg record evaluated under the muster record as it stands (R45). -/
def State.evaluated (s : State) (r : LegRecord) : LegRecord := r.evaluate s.muc.phase s.muc.zones

/-- The report of a change as an event for the RTU, if there is one (R46). -/
def reportEvents (r : Option LegReport) : List Instr := (r.map Instr.legReport).toList

/-- Hand the RTU the report of a change, if there is one (R46). -/
def State.report (s : State) (r : Option LegReport) : State := s.handOffs (reportEvents r)

/-- A leg record takes a new value, with one report of every change (R46). -/
def State.changeLegTo (s : State) (l : LegIx) (new : LegRecord) : State :=
  (s.setLeg l new).report (legChange l s.lgm.legs[l] new)

/-- Change a leg record, evaluate it, and make one report of every change (R41, R45, R46). -/
def State.changeLeg (s : State) (l : LegIx) (change : LegRecord → LegRecord) : State :=
  s.changeLegTo l (s.evaluated (change s.lgm.legs[l]))

/-- Evaluate a configured leg again (R45). -/
def State.reevaluate (s : State) (l : LegIx) : State :=
  if s.lgm.legs[l].fixed.isSome then s.changeLeg l id else s

/-- Evaluate every configured leg again, one report per affected leg (R45, R46). -/
def State.reevaluateAll (s : State) : State := (indices 6).foldl State.reevaluate s

/-- The next condition sequence number (R40). -/
def State.nextCondSeq (s : State) : State := { s with lgm := { s.lgm with condSeq := s.lgm.condSeq + 1 } }

/-- The body of a door CONDITION frame for a leg, its sequence number being the counter's value (R39). -/
def doorBody (self : Byte) (seq : Word) (f : LegStatic) (r : LegRecord) : ConditionBody :=
  { origin := self, seq := seq, end1 := self, end2 := f.neighbour, doorClosed := r.localDoor, smoke := r.smoke,
    crowdValid := false, crowd := 0 }

/-- Originate a door CONDITION frame for a configured leg on its port (R39, R40, R70). -/
def State.originateDoor (s : State) (l : LegIx) : State :=
  match s.lgm.legs[l].fixed with
  | none => s
  | some f =>
    let s := s.nextCondSeq
    let body := FloodBody.condition (doorBody s.pfl.profile.nodeId s.lgm.condSeq f s.lgm.legs[l])
    (s.enterKey (floodKey body)).place f.port (.door l) (s.ownFrame body)

/-- The crowd level a report sets, clamped to 7 (R41). -/
def clampCrowd (c : Byte) : Nat := min 7 c.toNat

/-- What a report sets on a leg record (R41). -/
def LegRecord.applyReport (c : ConditionBody) (r : LegRecord) : LegRecord :=
  if c.crowdValid then
    { r with remoteDoor := c.doorClosed, smoke := c.smoke, crowd := clampCrowd c.crowd, crowdRunning := true }
  else { r with remoteDoor := c.doorClosed, smoke := c.smoke }

/-- The other endpoint of a report that names this node at one end only (R41 steps 2 and 3). -/
def otherEnd (self : Byte) (c : ConditionBody) : Option Byte :=
  if c.end1 = c.end2 then none
  else if c.end1 = self then some c.end2
  else if c.end2 = self then some c.end1
  else none

/-- Apply a report to one leg if its neighbour is the other endpoint (R41 step 3). -/
def applyToLeg (c : ConditionBody) (other : Byte) (s : State) (l : LegIx) : State :=
  match s.lgm.legs[l].fixed with
  | some f => if f.neighbour = other then s.changeLeg l (LegRecord.applyReport c) else s
  | none => s

/-- Apply a report to this node's legs, by steps 2 and 3 of R41 (R41, R44). Legs with the same neighbour are taken, and reported, in
ascending index (DESIGN CHOICE, log 44). -/
def State.applyCondition (s : State) (c : ConditionBody) : State :=
  match otherEnd s.pfl.profile.nodeId c with
  | some other => (indices 6).foldl (applyToLeg c other) s
  | none => s

/-- The LEG_STATE notice of a leg (R37). -/
def legStateNotice (l : LegIx) (r : LegRecord) (link : LinkState) : Notice := .legState l r.neighbourId link

end Sys2Proof.Machine
end

