-- ==== Sys2Proof/Machine/MusterOps.lean ====
section
/-! DEFINITION. The operations of the Muster Controller (05): epoch order (R106), the adoption rule (R107), adoption and its hand-offs (R108 to R110), building an ALARM (R112). -/

namespace Sys2Proof.Machine

/-- Epoch e2 is newer than epoch e1 in serial order (R106). -/
def epochNewer (e2 e1 : Word) : Bool := 1 ≤ (e2 - e1).toNat && (e2 - e1).toNat ≤ 32767

/-- The adoption rule: epoch absent, newer, or equal with a lower origin (R107). -/
def Muc.adopts (m : Muc) (epoch : Word) (origin : Byte) : Bool :=
  match m.epoch with
  | none => true
  | some e => epochNewer epoch e || (epoch == e && origin.toNat < m.origin.toNat)

/-- The muster record after an adoption (R108). -/
def Muc.adopt (m : Muc) (epoch : Word) (phase : Phase) (origin : Byte) (zones : List Byte) : Muc :=
  { m with epoch := some epoch, phase := phase, origin := origin, zones := zones,
           standDown := if phase = .standDown then Config.standDownSeconds else 0, repeatRunning := true }

/-- The stand-down timer runs (R101). -/
def Muc.standDownRunning (m : Muc) : Bool := 0 < m.standDown

/-- The record after one second of the part's timebase: a running stand-down timer has one second less, and one in its last second
waits there for its expiry (R115, R118; log 7). -/
def Muc.tick (m : Muc) : Muc := if 1 < m.standDown then { m with standDown := m.standDown - 1 } else m

/-- The stand-down timer at the entry to RUNNING: a kept STAND_DOWN with a stopped timer starts it, and a running one goes on (R104). -/
def Muc.standDownAtLoad (m : Muc) : Nat :=
  if m.phase = .standDown ∧ m.standDown = 0 then Config.standDownSeconds else m.standDown

/-- The hold and release requests of an adoption, release first (R110). -/
def holdRequests (held : Option Phase) (phase : Phase) : List Instr :=
  if held = some phase then []
  else (held.elim [] (fun old => [Instr.releaseRequest old])) ++ [.holdRequest phase]

/-- The hand-offs of an adoption besides the relay (R109, R110): the muster-change flag, the reports, the hold requests. -/
def State.announceAdoption (s : State) : State :=
  let events := [Instr.musterReportLgm, .musterReportFcu, .musterAdoptionFsc] ++ holdRequests s.muc.held s.muc.phase
  ({ s with muc := { s.muc with held := some s.muc.phase } }.setMusterChange).handOffs events

/-- Write an adoption whole, then hand it out (R108, R109). -/
def State.adopt (s : State) (epoch : Word) (phase : Phase) (origin : Byte) (zones : List Byte) : State :=
  { s with muc := s.muc.adopt epoch phase origin zones }.announceAdoption

/-- The body of the ALARM built from the record (R112). -/
def alarmBody (m : Muc) (epoch : Word) : AlarmBody :=
  { epoch := epoch, phaseCode := natByte (phaseCode m.phase), origin := m.origin, zones := m.zones }

/-- Build the ALARM from the record and place it on both ports with hop 0; none is built in QUIET (R112). -/
def State.placeAlarm (s : State) : State :=
  match s.muc.epoch with
  | some e => if s.muc.phase = .quiet then s else s.placeBoth (s.ownFrame (.alarm (alarmBody s.muc e)))
  | none => s

/-- The epoch a raise forms: the record's plus 1, or 1 when absent (R113). -/
def nextEpoch : Option Word → Word
  | some e => e + 1
  | none => 1

/-- RAISE PHASE accepted: adopt the raise, then place the ALARM on both ports in place of the relay (R113). -/
def State.raise (s : State) (phase : Phase) (zones : List Byte) : State :=
  (s.adopt (nextEpoch s.muc.epoch) phase s.pfl.profile.nodeId zones).placeAlarm

end Sys2Proof.Machine
end

