-- ==== Sys2Proof/Machine/ProfileFields.lean ====
section
/-! DEFINITION. The node profile: its check (R223), its layout (R223) and the treatment of fields out of range (R224). -/

namespace Sys2Proof.Machine

/-- The sum of the first n words of a list of bytes, modulo 65536 (R223). -/
def wordSum : Nat → List Byte → Word
  | 0, _ => 0
  | n + 1, hi :: lo :: rest => (hi ++ lo) + wordSum n rest
  | _ + 1, _ => 0

/-- A profile read in full passes: the sum of bytes 0 to 2045 is the last word, and the node id is 1 to 254 (R223). -/
def profilePasses (b : List Byte) : Bool :=
  wordSum 1023 b == wordAt b 2046 && byteAt b 0 != 0#8 && byteAt b 0 != 255#8

/-- A value brought into a range (R224). -/
def clampTo (lo hi n : Nat) : Nat := max lo (min hi n)

/-- A timing field: its default when its bit of the defaults mask is set, else the value read, clamped (R223 note 2, R224). -/
def timingField (mask : Byte) (bit deflt lo hi read : Nat) : Nat :=
  if mask.getLsbD bit then deflt else clampTo lo hi read

/-- The anchors as listed, at most 16 (R223, R224). -/
def readAnchors (b : List Byte) : List (Nat × Nat) :=
  (List.range (min 16 (byteAt b 17).toNat)).map (fun j => ((byteAt b (18 + 2 * j)).toNat, (byteAt b (19 + 2 * j)).toNat))

def portOfCode (c : Byte) : Option Port :=
  match c.toNat with
  | 0 => some .da
  | 1 => some .db
  | _ => none

/-- The leg that seven bytes give, or none for an unconfigured leg (R223, R224). -/
def readLegConfig (b : List Byte) : Option LegStatic :=
  let neighbour := byteAt b 0
  let zone := (byteAt b 2).toNat
  match portOfCode (byteAt b 1), legKindOfCode (byteAt b 3) with
  | some port, some kind =>
    if neighbour = 0#8 ∨ neighbour = 255#8 ∨ zone = 0 ∨ 63 < zone then none
    else some { port := port, neighbour := neighbour, farZone := byteAt b 2, kind := kind,
                length := clampTo 1 1023 (wordAt b 4).toNat, doorUsed := (byteAt b 6).getLsbD 0 }
  | _, _ => none

/-- A number clamped to a largest index (R224). -/
def clampIx (n : Nat) (h : 0 < n) (v : Nat) : Fin n := ⟨min v (n - 1), by omega⟩

/-- The destinations at positions k and on, each clamped to 63 (R224). -/
def readDests (b : List Byte) (k count : Nat) : List DestIx :=
  (List.range count).map (fun i => clampIx 64 (by omega) (byteAt b (k + i)).toNat)

def readStations (b : List Byte) (k count : Nat) : List (Fin 8) :=
  (List.range count).map (fun i => clampIx 8 (by omega) (byteAt b (k + i)).toNat)

/-- The languages of a face, each clamped to 15 (R224). -/
def readLanguages (b : List Byte) (count : Nat) : List Nat :=
  (List.range count).map (fun i => min 15 (byteAt b (4 + i)).toNat)

/-- The venue list: count 0 or 255 is ALL, 9 to 254 is 8 (R223, R224). -/
def readVenues (b : List Byte) : Venues :=
  let n := (byteAt b 18).toNat
  if n = 0 ∨ n = 255 then .all else .only (readDests b 19 (min 8 n))

/-- The mode of a SIGN face, or none for a mode out of range (R223, R224). -/
def readMode (b : List Byte) : Option SignMode :=
  match (byteAt b 2).toNat with
  | 1 => some (.wayfind (readDests b 14 (min 4 (byteAt b 13).toNat)))
  | 2 => some (.programme (readVenues b))
  | _ => none

/-- A cabin page above 4095 is 0 (R224). -/
def readCabinPage (b : List Byte) : Nat := if (wordAt b 14).toNat ≤ 4095 then (wordAt b 14).toNat else 0

/-- The fields of a face's 32 bytes that depend on its kind, or none for a disabled face (R223, R224). -/
def readFaceKind (b : List Byte) : Option FaceKind :=
  match (byteAt b 0).toNat with
  | 1 => (readMode b).map (fun m =>
      .sign (readLanguages b (clampTo 1 3 (byteAt b 3).toNat)) m (readStations b 28 (min 4 (byteAt b 27).toNat)))
  | 2 => some (.door (min 15 (byteAt b 4).toNat) (readCabinPage b) (clampIx 8 (by omega) (byteAt b 16).toNat))
  | _ => none

/-- A face from its 32 bytes; string address 0 or 255 disables it (R224). -/
def readFaceConfig (b : List Byte) : Option FaceConfig :=
  if byteAt b 1 = 0#8 ∨ byteAt b 1 = 255#8 then none
  else (readFaceKind b).map (fun k => { address := byteAt b 1, glyphs := tabulate (fun l => byteAt b (7 + l.val)), kind := k })

/-- The faces in index order; a face whose address equals that of an enabled face of lower index is disabled (R224). -/
def readFaces (used : List Byte) : Nat → List Byte → List (Option FaceConfig)
  | 0, _ => []
  | n + 1, b =>
    match readFaceConfig (b.take 32) with
    | some c =>
      if used.contains c.address then none :: readFaces used n (b.drop 32)
      else some c :: readFaces (c.address :: used) n (b.drop 32)
    | none => none :: readFaces used n (b.drop 32)

/-- The profile installed from 2048 bytes that pass (R223, R224). -/
def readProfile (b : List Byte) : Profile :=
  let mask := byteAt b 11
  let faces := readFaces [] 32 (b.drop 96)
  { nodeId := byteAt b 0
    zone := wordAt b 1
    hostPresent := (byteAt b 3).getLsbD 0
    advertTick := timingField mask 0 500 100 2000 (wordAt b 4).toNat
    silenceLimit := timingField mask 1 8 4 32 (byteAt b 6).toNat
    horizon := timingField mask 2 30000 1000 60000 (wordAt b 7).toNat
    switchMargin := timingField mask 3 20 0 255 (byteAt b 9).toNat
    relayLimit := timingField mask 4 8 1 15 (byteAt b 10).toNat
    destBase := min 3072 (wordAt b 12).toNat
    musterBase := min 4016 (wordAt b 14).toNat
    musterLangs := clampTo 1 4 (byteAt b 16).toNat
    anchors := readAnchors b
    legs := tabulate (fun l => readLegConfig (b.drop (50 + 7 * l.val)))
    faces := tabulate (fun f => (faces[f.val]?).getD none) }

end Sys2Proof.Machine
end

