-- ==== Sys2Proof/Machine/NodeOps.lean ====
section
/-! DEFINITION. The operations of the Profile Loader that change every block at once (11): start, the carrying out of a RESTART, entry to FALLBACK, entry to RUNNING. -/

namespace Sys2Proof.Machine

/-- The door input lines across a start or a RESTART: the contacts stay as they are, no wait runs (R33; log 24). -/
def restDoors (doors : Vector DoorInput 6) : Vector DoorInput 6 :=
  tabulate (fun l => { doors[l] with wait := false })

/-- START: every block at its start values, the node STARTING (R222). What lies outside the part (the door contacts, the commands
waiting) and the freshness of free values stay. A host transaction still open, and a RESTART noted in it, are dropped: the spec does
not say what becomes of them (DESIGN CHOICE, log 40). -/
def State.start (s : State) : State :=
  { State.reset with
    lgm := { Lgm.initial with doors := restDoors s.lgm.doors }, freeCount := s.freeCount, pending := s.pending }

/-- A minute event handed to the PLU, which a RESTART leaves outstanding: the clock and the programme list are kept (R128, R134; log 5). -/
def isMinuteEventPlu : Instr → Bool
  | .minuteEventPlu _ _ => true
  | _ => false

/-- A RESTART is carried out: the node enters STARTING and each block takes its RESTART values (R211, 11.3). -/
def State.carryOutRestart (s : State) : State :=
  { s with
    rtu := Rtu.initial
    lgm := { Lgm.initial with condSeq := s.lgm.condSeq, doors := restDoors s.lgm.doors }
    adu := Adu.initial
    dlc := Dlc.initial
    muc := { s.muc with held := none }
    fcu := Fcu.initial
    fsc := Fsc.initial
    pca := Pca.initial
    hpt := { Hpt.initial with musterChange := s.hpt.musterChange && s.muc.phase != .quiet }
    pfl := Pfl.initial
    handoffs := s.handoffs.filter isMinuteEventPlu }

/-- The muster record on entry to FALLBACK: timers stopped, nothing held, the rest kept (R105). -/
def Muc.enterFallback (m : Muc) : Muc := { m with standDown := 0, repeatRunning := false, held := none }

/-- Entry to FALLBACK: the blocks take their FALLBACK values and the read of page 5 begins; `id` is the node id STATUS
returns (R225). -/
def State.enterFallback (s : State) (id : Byte) : State :=
  { s with
    dlc := Dlc.initial
    muc := s.muc.enterFallback
    plu := Plu.initial
    fcu := Fcu.initial
    fsc := Fsc.initial
    pca := Pca.initial
    hpt := { s.hpt with notices := [], musterChange := false, noticesLost := false }
    pfl := { s.pfl with node := .fallback, reading := false, page5Reading := true, readId := id }
    handoffs := [] }

/-- The entry events of RUNNING, the LGM's before the RTU's (R222). -/
def entryEvents : List Instr :=
  [.lgmProfileLoad, .rtuProfileLoad, .aduProfileLoad, .mucProfileLoad, .fcuProfileLoad, .fscProfileLoad, .pcaProfileLoad]

/-- Entry to RUNNING with the profile installed; each block is handed its entry event (R222 to R224). -/
def State.enterRunning (s : State) (b : List Byte) : State :=
  { s with
    pfl := { s.pfl with node := .running, reading := false, readId := byteAt b 0, profile := readProfile b }
    handoffs := s.handoffs ++ entryEvents }

/-- A profile read is on the port (R222). -/
def State.readingProfile (s : State) : Bool := s.pfl.node == .starting && s.pfl.reading

/-- The picture FALLBACK broadcasts: page 5, or page 0 when page 5 did not read GOOD (R225). -/
def fallbackRecord (page : Option (List Byte)) : DrawRecord :=
  { content := .picture (if page.isSome then 5 else 0), chain := false, phase := .quiet, language := 0 }

/-- The bytes of the broadcast (R190, R225). -/
def fallbackBytes (page : Option (List Byte)) : List Byte := drawBytes 255 (fallbackRecord page) (page.getD [])

end Sys2Proof.Machine
end

