-- ==== Sys2Proof/Machine/HostOps.lean ====
section
/-! DEFINITION. The operations of the Host Port (10): responses, the checks before a hand-off (R210), transactions and their release (R209, R211), and the data of the read commands. -/

namespace Sys2Proof.Machine

/-! ### Responses (10.2, note 1) -/

/-- A response: its code, reason and data, and what its being cut short does (R209). -/
structure Response where
  code   : Nat
  reason : Nat
  data   : List Byte
  cut    : CutAction
  deriving DecidableEq, Repr

/-- A response with a code and no data. -/
def plainResponse (code : Nat) : Response := { code := code, reason := 0, data := [], cut := .nothing }

def accepted : Response := plainResponse 1
def endedAtOnce : Response := plainResponse 2
def busy (reason : Nat) : Response := { plainResponse 3 with reason := reason }
def notOperational : Response := plainResponse 4
def invalid : Response := plainResponse 5
def expired : Response := plainResponse 6
def emptyResponse : Response := plainResponse 7

/-- ACCEPTED with data. -/
def acceptedWith (data : List Byte) : Response := { accepted with data := data }

/-- Reasons of BUSY. -/
def reasonStarting : Nat := 1
def reasonMuster : Nat := 2
def reasonFace : Nat := 3
def reasonPool : Nat := 4

/-- The bytes returned, from the marker on (R209). -/
def Response.bytes (r : Response) : List Byte :=
  [0xA5#8, natByte r.code, natByte r.reason, natByte r.data.length] ++ r.data

/-- The byte the part returns at the k-th clock from the marker on: the response, then 0x00; 0x00 throughout while no command has been
taken (R209). -/
def Hpt.output (h : Hpt) (k : Nat) : Byte :=
  match h.transaction with
  | some t => t.response.getD k 0x00#8
  | none => 0x00#8

/-! ### Transactions (R209, R211) -/

/-- The response of a taken command stands ready to be clocked out. -/
def State.respond (s : State) (r : Response) : State :=
  { s with hpt := { s.hpt with transaction := some { response := r.bytes, cut := r.cut } } }

/-- What a cut-short response sets (R212, R213, R217). -/
def Hpt.applyCut (h : Hpt) : CutAction → Hpt
  | .nothing => h
  | .setNoticesLost => { h with noticesLost := true }
  | .setMusterChange => { h with musterChange := true }

/-- The HPT as select is released after some bytes of the response: a response not clocked out whole is cut short (R209). -/
def Hpt.release (h : Hpt) (clocked : Nat) : Hpt :=
  match h.transaction with
  | none => h
  | some t => { (if clocked < t.response.length then h.applyCut t.cut else h) with transaction := none }

/-- Select is released: the transaction ends, and a RESTART it carried is carried out (R209, R211). -/
def State.releaseSelect (s : State) (clocked : Nat) : State :=
  let s := { s with hpt := s.hpt.release clocked }
  if s.hpt.restart then s.carryOutRestart else s

/-- A command begins a transaction of its own: one still open has been clocked out whole and released (log 17). -/
def State.closeTransaction (s : State) : State :=
  match s.hpt.transaction with
  | some t => s.releaseSelect t.response.length
  | none => s

/-! ### Checks 2 to 4 of R210 -/

/-- The answer of checks 2 to 4, if one decides; `inFallback` for STATUS and RESTART (R210). -/
def State.gate (s : State) (inFallback lengthOk : Bool) : Option Response :=
  if s.pfl.node = .starting then some (busy reasonStarting)
  else if s.pfl.node = .fallback ∧ inFallback = false then some notOperational
  else if lengthOk then none
  else some invalid

/-- A host command: the checks in order, then the owner's effect and answer; the response stands ready (R209, R210). -/
def State.hostCommand (s : State) (inFallback lengthOk : Bool) (act : State → State × Response) : State :=
  let s := s.closeTransaction
  match s.gate inFallback lengthOk with
  | some r => s.respond r
  | none => (act s).1.respond (act s).2

/-- A byte as an index of a table, if it lies in range. -/
def indexOf (n : Nat) (b : Byte) : Option (Fin n) := if h : b.toNat < n then some ⟨b.toNat, h⟩ else none

/-! ### Data of the read commands (R212 to R214, 10.2) -/

/-- A flag as one byte. -/
def boolByte (b : Bool) : Byte := if b then 1 else 0

/-- The flags byte of STATUS (10.2). -/
def State.statusFlags (s : State) : Byte :=
  natByte (flagBit s.hpt.noticesLost 0 + flagBit s.hpt.musterChange 1 + flagBit s.sck.isSet 2 + flagBit s.muc.epoch.isSome 3)

/-- Day, minute and second of STATUS; 0 while the clock is UNSET (R212). -/
def Sck.statusBytes (c : Sck) : List Byte :=
  if c.isSet then [natByte c.day] ++ natBytes2 c.minute ++ [natByte c.second] else [0, 0, 0, 0]

/-- The 13 bytes of STATUS in RUNNING (R212). -/
def State.statusData (s : State) : List Byte :=
  [natByte (nodeStateCode s.pfl.node), s.pfl.profile.nodeId, natByte s.hpt.notices.length, s.statusFlags,
    natByte (phaseCode s.muc.phase)] ++ wordBytes (s.muc.epoch.getD 0) ++ s.sck.statusBytes
    ++ [natByte s.plu.items.length, natByte s.fsc.poolFree]

/-- The 13 bytes of STATUS in FALLBACK (R212). -/
def State.fallbackStatusData (s : State) : List Byte :=
  padTo 13 [natByte (nodeStateCode .fallback), s.pfl.readId]

/-- The response code of STATUS in FALLBACK, one of those whose reason is 0; the spec states none (free value, log 10). -/
def State.fallbackStatusCode (s : State) : Nat := [1, 2, 4, 5, 6, 7].getD (Config.fallbackStatusPick s.freeCount % 6) 1

/-- The 16 bytes of READ MUSTER (R118, R213); the epoch bytes of an absent epoch are 0 (DESIGN CHOICE, log 46). -/
def Muc.bytes (m : Muc) : List Byte :=
  [boolByte m.epoch.isSome] ++ wordBytes (m.epoch.getD 0) ++ [natByte (phaseCode m.phase), m.origin, natByte m.zones.length]
    ++ padTo 8 m.zones ++ [natByte m.standDown, natByte (m.held.elim 0 phaseCode)]

/-- The 18 bytes of READ ROUTE (R23, R214). -/
def Entry.bytes (e : Entry) : List Byte :=
  [natByte (wayOutCode e.best)] ++ wordBytes (costWord e.cost) ++ [boolByte e.anchor.isSome, natByte (e.anchor.getD 0)]
    ++ e.adv.toList.flatMap (fun c => wordBytes (costWord c)) ++ [changedFlags e]

/-- The 12 bytes of READ LEG; an unconfigured leg returns 0 in every byte (R47, R214). -/
def legBytes (r : LegRecord) (pace : Option LegPace) : List Byte :=
  match r.fixed with
  | none => List.replicate 12 0
  | some f =>
    [f.neighbour, natByte (portCode f.port), f.farZone, natByte (legKindCode f.kind)] ++ natBytes2 f.length
      ++ [natByte (linkCode r.link), legFlags f r, natByte r.crowd, natByte (pace.elim 0 (·.pace))]
      ++ natBytes2 (pace.elim 0 (·.cost))

/-- The origin code of a chain: MUSTER 1, CONTENT 2, SUPPLIED 3 (10.2). -/
def ChainBody.originCode : ChainBody → Nat
  | .generated cls _ => classCode cls
  | .supplied _ _ _ => 3

def ChainBody.haltRequested : ChainBody → Bool
  | .generated _ _ => false
  | .supplied _ _ halt => halt

/-- The flags byte of READ FACE (10.2). -/
def FaceWord.flags (w : FaceWord) : Byte :=
  natByte (flagBit (w.active.any (fun c => c.body.haltRequested)) 0 + flagBit w.redirty 1 + flagBit w.attnStacked 2
    + flagBit w.privacy 3 + flagBit w.hostHeld 4)

/-- The stacked ending of READ FACE: condition, records done, total (R191). -/
def stackedBytes : Option ChainEnding → List Byte
  | none => [0, 0, 0]
  | some e => [natByte (conditionCode e.condition), natByte e.done, natByte e.total]

/-- The 12 bytes of READ FACE (R191, R214). -/
def FaceWord.bytes (w : FaceWord) (poolFree : Nat) : List Byte :=
  if w.address.isNone then List.replicate 8 0 ++ [natByte poolFree, 0, 0, 0]
  else
    [natByte (wordStateCode w.state), natByte (w.active.elim 0 (fun c => c.body.originCode)),
      natByte (w.active.elim 0 (·.index)), natByte (w.active.elim 0 (fun c => c.body.total)),
      natByte (w.pending.elim 0 (·.length)), natByte (w.cls.elim 0 classCode), w.flags, natByte w.retry, natByte poolFree]
      ++ stackedBytes w.stacked

/-! ### Parameters of START FACE CHAIN (R177) -/

/-- Record i of the list, as its three bytes give it. -/
def readSupplied (params : List Byte) (i : Nat) : SuppliedRecord :=
  { page := (wordAt params (2 + 3 * i)).toNat, chain := (byteAt params (4 + 3 * i)).getLsbD 0,
    notify := (byteAt params (4 + 3 * i)).getLsbD 1, hold := (byteAt params (4 + 3 * i)).getLsbD 2 }

def readSuppliedList (params : List Byte) : List SuppliedRecord :=
  (List.range (byteAt params 1).toNat).map (readSupplied params)

/-- A record before the last: a page in range, CHAIN set, HOLD clear; the last: a page in range, CHAIN clear (R177). -/
def suppliedListOk : List SuppliedRecord → Bool
  | [] => false
  | [r] => r.page ≤ 4095 && !r.chain
  | r :: rs => r.page ≤ 4095 && r.chain && !r.hold && suppliedListOk rs

/-- The parameter length of START FACE CHAIN is 2 + 3n, of RAISE PHASE 2 + n (R210 check 4). -/
def countedLength (unit : Nat) (params : List Byte) : Bool :=
  2 ≤ params.length && params.length == 2 + unit * (byteAt params 1).toNat

/-! ### What the owners decide -/

/-- READ FACE clears the stacked ending it returns (R191). -/
def State.readWord (s : State) (f : FaceIx) : State × Response :=
  (s.setWord f { s.fsc.words[f] with stacked := if s.fsc.words[f].address.isNone then s.fsc.words[f].stacked else none },
   acceptedWith (s.fsc.words[f].bytes s.fsc.poolFree))

/-- START FACE CHAIN past its field checks, by the first row of R177 that applies. -/
def State.startChain (s : State) (f : FaceIx) (records : List SuppliedRecord) : State × Response :=
  let w := s.fsc.words[f]
  if w.address.isNone then (s, notOperational)
  else if s.muc.phase ≠ .quiet then (s, busy reasonMuster)
  else if w.suppliedActive || w.pending.isSome || w.stacked.isSome then (s, busy reasonFace)
  else if s.fsc.poolFree < records.length then (s, busy reasonPool)
  else if w.state = .offline then
    (s.giveEnding f { condition := .faceSilent, done := 0, total := records.length }, endedAtOnce)
  else if w.generatedActive then (s.setWord f { w with pending := some records }, accepted)
  else (s.activate f records, accepted)

/-- HALT FACE of an enabled face, by the first row of R178 that applies. -/
def State.haltFace (s : State) (f : FaceIx) : State × Response :=
  let w := s.fsc.words[f]
  if w.pending.isSome then (s.discardPending f .halted, endedAtOnce)
  else if w.suppliedActive then
    if s.drawing f then (s.setWord f { w with active := w.active.map ActiveChain.requestHalt }, accepted)
    else (s.endChain f .halted, endedAtOnce)
  else (s, emptyResponse)

/-- The response to an offer (R139). -/
def offerResponse : OfferOutcome → Response
  | .outOfRange => invalid
  | .heldRevision r => { invalid with data := [natByte r] }
  | .expired => expired
  | .stored => acceptedWith [1]
  | .replaced => acceptedWith [2]
  | .dropped => acceptedWith [3]

/-- LOAD ITEM of an offer (R139). -/
def State.loadItem (s : State) (o : Offer) (target mask : Word) : State × Response :=
  let (t, out) := s.hostOffer o target mask
  (t, offerResponse out)

/-- The offer of a withdrawal, from the item held (R140). -/
def withdrawal (i : Item) : Offer :=
  { id := BitVec.ofNat 16 i.id, revision := natByte (i.revision + 1), day := natByte i.day, start := BitVec.ofNat 16 i.start,
    stop := BitVec.ofNat 16 i.stop, venue := natByte i.venue, titlePage := BitVec.ofNat 16 i.titlePage, cancelled := true,
    moved := i.moved }

/-- WITHDRAW ITEM (R140). -/
def State.withdrawItem (s : State) (id : Nat) (target mask : Word) : State × Response :=
  match s.plu.find id with
  | none => (s, emptyResponse)
  | some i => if i.revision = 255 then (s, offerResponse (.heldRevision 255)) else s.loadItem (withdrawal i) target mask

/-- RAISE PHASE past its length check (R113). -/
def State.raisePhase (s : State) (code : Byte) (zones : List Byte) : State × Response :=
  match phaseOfCode code with
  | none => (s, invalid)
  | some ph =>
    if 8 < zones.length ∨ zones.any (fun z => z == 0#8 || 63 < z.toNat) then (s, invalid)
    else (s.raise ph zones, accepted)

/-- The report of a SET CONDITION: origin this node, a new sequence number, the crowd clamped to 7 (R44). -/
def hostCondition (self : Byte) (seq : Word) (params : List Byte) : ConditionBody :=
  { origin := self, seq := seq, end1 := byteAt params 0, end2 := byteAt params 1,
    doorClosed := (byteAt params 2).getLsbD 0, smoke := (byteAt params 2).getLsbD 1,
    crowdValid := (byteAt params 2).getLsbD 2, crowd := natByte (clampCrowd (byteAt params 3)) }

/-- An endpoint names a node. -/
def isNodeId (b : Byte) : Bool := b != 0#8 && b != 255#8

/-- SET CONDITION past its length check (R44): applied to this node's legs, then originated on both ports. -/
def State.setCondition (s : State) (params : List Byte) : State × Response :=
  let e1 := byteAt params 0
  let e2 := byteAt params 1
  if isNodeId e1 && isNodeId e2 && e1 != e2 then
    let s := s.nextCondSeq
    let c := hostCondition s.pfl.profile.nodeId s.lgm.condSeq params
    ((s.applyCondition c).originate (.condition c), accepted)
  else (s, invalid)

/-- SET CLOCK past its length check (R132). -/
def State.setClockCommand (s : State) (params : List Byte) : State × Response :=
  let minute := (wordAt params 1).toNat
  let second := (byteAt params 3).toNat
  if 1439 < minute ∨ 59 < second then (s, invalid)
  else (s.setClockByHost (byteAt params 0).toNat minute second, accepted)

/-- RELEASE FACE of an enabled face: the host hold is cleared and the face recomputed (R166). -/
def State.releaseHold (s : State) (f : FaceIx) : State :=
  (s.setWord f { s.fsc.words[f] with hostHeld := false }).recomputeFace f

/-- A DOOR face's record with another language (R152). -/
def FaceConfig.withLanguage (c : FaceConfig) (lang : Nat) : FaceConfig :=
  match c.kind with
  | .door _ page station => { c with kind := .door lang page station }
  | .sign _ _ _ => c

/-- The face is a SIGN face (R151). -/
def FaceConfig.isSign (c : FaceConfig) : Bool :=
  match c.kind with
  | .sign _ _ _ => true
  | .door _ _ _ => false

/-- SET FACE LANGUAGE with its fields in range, by the first row of R152 that applies. -/
def State.setLanguage (s : State) (f : FaceIx) (lang : Nat) : State × Response :=
  match s.fcu.faces[f].config with
  | none => (s, notOperational)
  | some c =>
    if c.isSign then (s, invalid)
    else ((s.setFace f { s.fcu.faces[f] with config := some (c.withLanguage lang) }).recomputeFace f, accepted)

end Sys2Proof.Machine
end

