-- ==== Sys2Proof/Machine/HostPort.lean ====
section
/-! DEFINITION. The meanings of the host's commands (10): UNKNOWN_COMMAND, the sixteen commands of 10.2, and SELECT_RELEASE. -/

namespace Sys2Proof.Machine

/-- UNKNOWN_COMMAND (R210 check 1): answered INVALID in every node state. -/
def execUnknownCommand (_code : Byte) (_params : List Byte) (s : State) : Out := .next (s.closeTransaction.respond invalid)

/-- What STATUS does and answers (R212): notices-lost is returned and cleared, and set again if its return is cut short. -/
def State.readStatus (s : State) : State × Response :=
  if s.pfl.node = .fallback then (s.spendFree, { plainResponse s.fallbackStatusCode with data := s.fallbackStatusData })
  else
    ({ s with hpt := { s.hpt with noticesLost := false } },
     { acceptedWith s.statusData with cut := if s.hpt.noticesLost then .setNoticesLost else .nothing })

/-- STATUS (R212). -/
def execStatus (params : List Byte) (s : State) : Out := .next (s.hostCommand true params.isEmpty State.readStatus)

/-- What READ NOTICE does and answers (R217): the head notice is removed at once. -/
def State.takeHead (s : State) : State × Response :=
  match s.hpt.notices with
  | [] => (s, emptyResponse)
  | n :: rest =>
    ({ s with hpt := { s.hpt with notices := rest } }, { acceptedWith n.bytes with cut := .setNoticesLost })

/-- READ NOTICE (R217). -/
def execReadNotice (params : List Byte) (s : State) : Out := .next (s.hostCommand false params.isEmpty State.takeHead)

/-- What READ MUSTER does and answers (R213): the record, and the muster-change flag cleared, to be set again by a cut. -/
def State.readRecord (s : State) : State × Response :=
  ({ s with hpt := { s.hpt with musterChange := false } }, { acceptedWith s.muc.bytes with cut := .setMusterChange })

/-- READ MUSTER (R213). -/
def execReadMuster (params : List Byte) (s : State) : Out := .next (s.hostCommand false params.isEmpty State.readRecord)

/-- READ ROUTE (R23, R214). -/
def execReadRoute (params : List Byte) (s : State) : Out :=
  .next (s.hostCommand false (params.length == 1) (fun s =>
    match indexOf 64 (byteAt params 0) with
    | some d => (s, acceptedWith s.rtu.table[d].bytes)
    | none => (s, invalid)))

/-- READ LEG (R47, R214). -/
def execReadLeg (params : List Byte) (s : State) : Out :=
  .next (s.hostCommand false (params.length == 1) (fun s =>
    match indexOf 6 (byteAt params 0) with
    | some l => (s, acceptedWith (legBytes s.lgm.legs[l] s.rtu.legs[l]))
    | none => (s, invalid)))

/-- READ FACE (R191, R214). -/
def execReadFace (params : List Byte) (s : State) : Out :=
  .next (s.hostCommand false (params.length == 1) (fun s =>
    match indexOf 32 (byteAt params 0) with
    | some f => s.readWord f
    | none => (s, invalid)))

/-- START FACE CHAIN (R177). -/
def execStartFaceChain (params : List Byte) (s : State) : Out :=
  .next (s.hostCommand false (countedLength 3 params) (fun s =>
    match indexOf 32 (byteAt params 0) with
    | some f =>
      if (byteAt params 1).toNat ≤ Config.maxChain && suppliedListOk (readSuppliedList params) then
        s.startChain f (readSuppliedList params)
      else (s, invalid)
    | none => (s, invalid)))

/-- HALT FACE (R178). -/
def execHaltFace (params : List Byte) (s : State) : Out :=
  .next (s.hostCommand false (params.length == 1) (fun s =>
    match indexOf 32 (byteAt params 0) with
    | some f => if s.fsc.words[f].address.isNone then (s, notOperational) else s.haltFace f
    | none => (s, invalid)))

/-- RELEASE FACE (R166). -/
def execReleaseFace (params : List Byte) (s : State) : Out :=
  .next (s.hostCommand false (params.length == 1) (fun s =>
    match indexOf 32 (byteAt params 0) with
    | some f => if s.fcu.faces[f].config.isNone then (s, notOperational) else (s.releaseHold f, accepted)
    | none => (s, invalid)))

/-- SET FACE LANGUAGE (R152). -/
def execSetFaceLanguage (params : List Byte) (s : State) : Out :=
  .next (s.hostCommand false (params.length == 2) (fun s =>
    match indexOf 32 (byteAt params 0) with
    | some f => if 15 < (byteAt params 1).toNat then (s, invalid) else s.setLanguage f (byteAt params 1).toNat
    | none => (s, invalid)))

/-- LOAD ITEM (R139). -/
def execLoadItem (params : List Byte) (s : State) : Out :=
  .next (s.hostCommand false (params.length == 16) (fun s =>
    s.loadItem (offerAt params 0 2 3 4 6 8 9 11) (wordAt params 12) (wordAt params 14)))

/-- WITHDRAW ITEM (R140). -/
def execWithdrawItem (params : List Byte) (s : State) : Out :=
  .next (s.hostCommand false (params.length == 6) (fun s =>
    s.withdrawItem (wordAt params 0).toNat (wordAt params 2) (wordAt params 4)))

/-- SET CLOCK (R132). -/
def execSetClock (params : List Byte) (s : State) : Out :=
  .next (s.hostCommand false (params.length == 4) (fun s => s.setClockCommand params))

/-- RAISE PHASE (R113). -/
def execRaisePhase (params : List Byte) (s : State) : Out :=
  .next (s.hostCommand false (countedLength 1 params) (fun s => s.raisePhase (byteAt params 0) (params.drop 2)))

/-- SET CONDITION (R44). -/
def execSetCondition (params : List Byte) (s : State) : Out :=
  .next (s.hostCommand false (params.length == 4) (fun s => s.setCondition params))

/-- RESTART is noted, to be carried out at the release of select (R211). -/
def State.noteRestart (s : State) : State × Response := ({ s with hpt := { s.hpt with restart := true } }, accepted)

/-- RESTART (R211). -/
def execRestart (params : List Byte) (s : State) : Out := .next (s.hostCommand true params.isEmpty State.noteRestart)

/-- SELECT_RELEASE (R209): the transaction ends after some bytes of its response; with none taken, the bytes of an incomplete
command are discarded. -/
def execSelectRelease (clocked : Nat) (s : State) : Out := .next (s.releaseSelect clocked)

end Sys2Proof.Machine
end

