-- ==== Sys2Proof/Machine/Legs.lean ====
section
/-! DEFINITION. The meanings of the Leg Monitor's commands (02): LGM_PROFILE_LOAD, ADVERT_ARRIVAL, SILENCE_TIMER_EXPIRY, DOOR_INPUT_CHANGE, DOOR_LEVEL_TAKEN, CONDITION_APPLY, CROWD_LIFETIME_EXPIRY, MUSTER_REPORT_LGM, RETURN_TO_QUIET_LGM. -/

namespace Sys2Proof.Machine

/-- The leg's door input is used (R32). -/
def LegRecord.doorUsed (r : LegRecord) : Bool := r.fixed.elim false (·.doorUsed)

/-- A leg as the profile load installs it: UNHEARD, its door sampled when the input is used (R34 steps 1 and 2). -/
def installLeg (f : Option LegStatic) (d : DoorInput) : LegRecord :=
  { LegRecord.initial with fixed := f, localDoor := (f.elim false (·.doorUsed)) && d.closed }

/-- A door frame for a leg whose door input is used (R34 step 4). The spec gives no order among the legs; they are gone through in
ascending leg index (DESIGN CHOICE, log 41). -/
def State.announceDoor (s : State) (l : LegIx) : State :=
  if s.lgm.legs[l].doorUsed then s.originateDoor l else s

/-- LGM_PROFILE_LOAD (R34): install, sample, evaluate without a report, originate door frames, in ascending leg index
(the order is log 41). -/
def execLgmProfileLoad (s : State) : Out :=
  if s.running && s.handoffs.contains .lgmProfileLoad then
    let s := s.take .lgmProfileLoad
    let legs := tabulate (fun l => s.evaluated (installLeg s.pfl.profile.legs[l] s.lgm.doors[l]))
    let doors := tabulate (fun l => { s.lgm.doors[l] with wait := false })
    let s := { s with lgm := { s.lgm with legs := legs, doors := doors } }
    .next ((indices 6).foldl State.announceDoor s)
  else .next (s.take .lgmProfileLoad)

/-- A leg comes UP and its silence timer starts (R35). -/
def LegRecord.heard (r : LegRecord) : LegRecord := { r with link := .up, silenceRunning := true }

/-- ADVERT_ARRIVAL (R35): an UP leg's timer starts again with no report; another leg comes UP, is evaluated and reported, and one
that was SILENT gives a LEG_STATE notice (R37). The report takes the arrival's own place among the hand-offs, ahead of the frame's writes
(R30; log 3). -/
def execAdvertArrival (l : LegIx) (s : State) : Out :=
  let old := s.lgm.legs[l]
  if s.running && old.fixed.isSome then
    let new := if old.link = .up then old.heard else s.evaluated old.heard
    let t := (s.setLeg l new).takeGiving (.advertArrival l) (reportEvents (legChange l old new))
    .next (if old.link = .silent then t.notice (legStateNotice l old .up) else t)
  else .next (s.take (.advertArrival l))

/-- SILENCE_TIMER_EXPIRY (R36): a leg whose timer runs becomes SILENT, with a report and a LEG_STATE notice. Barred is evaluated from the
muster record (R45), where R36 keeps it (DEDUCED, log 43). An arrival of the leg
that has not been taken yet is taken after the expiry, so the report stands ahead of it and of its frame's writes (R30, R48; log 3). -/
def execSilenceTimerExpiry (l : LegIx) (s : State) : Out :=
  let old := s.lgm.legs[l]
  if s.running && old.fixed.isSome && old.silenceRunning then
    let new := s.evaluated { old with link := .silent, silenceRunning := false }
    .next (((s.setLeg l new).handAhead (.advertArrival l) (reportEvents (legChange l old new))).notice (legStateNotice l old .silent))
  else .next s

def State.setDoor (s : State) (l : LegIx) (d : DoorInput) : State :=
  { s with lgm := { s.lgm with doors := setAt s.lgm.doors l d } }

/-- DOOR_INPUT_CHANGE (R38): a line that moves takes its new level, and the 40 ms wait of a used line starts again. The level
of an unused line, or of any line while the node is not RUNNING (R33, R56), is not waited for. -/
def execDoorInputChange (l : LegIx) (closed : Bool) (s : State) : Out :=
  if s.lgm.doors[l].closed = closed then .next s
  else .next (s.setDoor l { closed := closed, wait := s.running && s.lgm.legs[l].doorUsed })

/-- DOOR_LEVEL_TAKEN (R38): a level held for 40 ms that differs from local door is taken, with an evaluation, its report, and a
door frame (R39). -/
def execDoorLevelTaken (l : LegIx) (s : State) : Out :=
  let d := s.lgm.doors[l]
  if s.running && d.wait && s.lgm.legs[l].doorUsed then
    let s := s.setDoor l { d with wait := false }
    .next (if s.lgm.legs[l].localDoor = d.closed then s
      else (s.changeLeg l (fun r => { r with localDoor := d.closed })).originateDoor l)
  else .next s

/-- CONDITION_APPLY (R41): a frame of another origin is applied to the legs towards the other endpoint. -/
def execConditionApply (c : ConditionBody) (s : State) : Out :=
  let s := s.take (.conditionApply c)
  .next (if s.running && c.origin != s.pfl.profile.nodeId then s.applyCondition c else s)

/-- CROWD_LIFETIME_EXPIRY (R43): crowd level 0, with a report when it was above 0. -/
def execCrowdLifetimeExpiry (l : LegIx) (s : State) : Out :=
  if s.running && s.lgm.legs[l].fixed.isSome && s.lgm.legs[l].crowdRunning then
    .next (s.changeLegTo l { s.lgm.legs[l] with crowd := 0, crowdRunning := false })
  else .next s

/-- MUSTER_REPORT_LGM (R45, R109): every configured leg is evaluated again. -/
def execMusterReportLgm (s : State) : Out :=
  let s := s.take .musterReportLgm
  .next (if s.running then s.reevaluateAll else s)

/-- RETURN_TO_QUIET_LGM (R116): every configured leg is evaluated again; the muster bars none. -/
def execReturnToQuietLgm (s : State) : Out :=
  let s := s.take .returnToQuietLgm
  .next (if s.running then s.reevaluateAll else s)

end Sys2Proof.Machine
end

