-- ==== Sys2Proof/Machine/Muster.lean ====
section
/-! DEFINITION. The meanings of the Muster Controller's commands (05): MUC_PROFILE_LOAD, ALARM_RECEIPT, REPEAT_TIMER_EXPIRY, STAND_DOWN_TIMER_EXPIRY. -/

namespace Sys2Proof.Machine

/-- MUC_PROFILE_LOAD (R104): a kept phase that is not QUIET is announced, its repeats start, its pages are requested held; a
kept STAND_DOWN with a stopped timer starts it. -/
def execMucProfileLoad (s : State) : Out :=
  if s.running && s.handoffs.contains .mucProfileLoad && s.muc.phase != .quiet then
    let s := (s.take .mucProfileLoad).placeAlarm
    let muc := { s.muc with repeatRunning := true, held := some s.muc.phase, standDown := s.muc.standDownAtLoad }
    .next ({ s with muc := muc }.handOff (.holdRequest s.muc.phase))
  else .next (s.take .mucProfileLoad)

/-- ALARM_RECEIPT (R107 to R110, R69): a frame the rule accepts is adopted and relayed; any other is ignored. -/
def execAlarmReceipt (p : Port) (hop : Nat) (a : AlarmBody) (s : State) : Out :=
  let s := s.take (.alarmReceipt p hop a)
  match phaseOfCode a.phaseCode with
  | none => .next s
  | some phase =>
    if s.running && s.muc.adopts a.epoch a.origin then
      .next ((s.adopt a.epoch phase a.origin a.zones).relay p hop s.pfl.profile.relayLimit s.pfl.profile.nodeId (.alarm a))
    else .next s

/-- REPEAT_TIMER_EXPIRY (R114): the running timer starts again and the current ALARM is placed on both ports; nothing is placed
in STARTING (R103). -/
def execRepeatTimerExpiry (s : State) : Out :=
  .next (if s.muc.repeatRunning && s.running then s.placeAlarm else s)

/-- The record after the return to QUIET (R116). -/
def Muc.toQuiet (m : Muc) : Muc :=
  { m with phase := .quiet, standDown := 0, repeatRunning := false, held := none }

/-- The hand-offs of the return to QUIET (R116). -/
def quietHandOffs (held : Option Phase) : List Instr :=
  [.returnToQuietLgm, .returnToQuietFcu] ++ held.elim [] (fun old => [Instr.releaseRequest old])

/-- STAND_DOWN_TIMER_EXPIRY (R116): the node returns to QUIET and the muster-change flag is set; in STARTING no other block is
told (R103). -/
def execStandDownTimerExpiry (s : State) : Out :=
  if s.muc.standDownRunning && s.muc.phase == .standDown then
    let t := { s with muc := s.muc.toQuiet }.setMusterChange
    .next (if s.running then t.handOffs (quietHandOffs s.muc.held) else t)
  else .next s

end Sys2Proof.Machine
end

