-- ==== Sys2Proof/Machine/Pages.lean ====
section
/-! DEFINITION. The meanings of the Page Cache's commands (09): PCA_PROFILE_LOAD, FETCH_HEADER_READ, FETCH_NO_ANSWER, FETCH_END_GOOD, HOLD_REQUEST, RELEASE_REQUEST. -/

namespace Sys2Proof.Machine

/-- PCA_PROFILE_LOAD (R198): the cache stands at its start values and takes requests from now on; its slots are as they are. -/
def execPcaProfileLoad (s : State) : Out := .next (s.take .pcaProfileLoad)

/-- The fetch on the port has its header. -/
def State.setFetch (s : State) (x : Option Fetch) : State := { s with pca := { s.pca with fetch := x } }

/-- The state an event of a fetch meets: with no fetch on the port, the one the arbiter's choice leaves, which may start one (log 28). -/
def State.fetching (s : State) : State := if s.pca.fetch.isSome then s else s.arbitrate

/-- FETCH_HEADER_READ (R197): a good header lets the body be read; another ends the fetch in a page fault (R204). -/
def execFetchHeaderRead (marker kind lenHi lenLo : Byte) (s : State) : Out :=
  let s := s.fetching
  match s.pca.fetch with
  | some { slot := i, header := none } =>
    .next (if headerGood marker lenHi lenLo then
        s.setFetch (some { slot := i, header := some [marker, kind, lenHi, lenLo] })
      else s.fetchFault i)
  | _ => .next s

/-- FETCH_NO_ANSWER (R197): the memory did not report ready within 5 ms; the fetch ends in a page fault (R204). -/
def execFetchNoAnswer (s : State) : Out :=
  let s := s.fetching
  match s.pca.fetch with
  | some { slot := i, header := none } => .next (s.fetchFault i)
  | _ => .next s

/-- The rest of a page, as its header's length gives it, has been read (R196, R197). -/
def bodyWhole (header body : List Byte) : Bool := body.length + 4 = (wordAt header 2).toNat

/-- FETCH_END_GOOD (R203): the body has been read whole; the slot becomes VALID and its waiters are served. -/
def execFetchEndGood (body : List Byte) (s : State) : Out :=
  match s.pca.fetch with
  | some { slot := i, header := some h } => .next (if bodyWhole h body then s.fetchGood i (h ++ body) else s)
  | _ => .next s

/-- HOLD_REQUEST (R205): the pages of a phase are held, or a hold mark awaits each. While the node is not RUNNING the PCA takes
no request (R198). -/
def execHoldRequest (ph : Phase) (s : State) : Out :=
  let s := s.take (.holdRequest ph)
  .next (if s.running then s.setPca (s.pca.hold ph (phasePages s.pfl.profile ph)) else s)

/-- RELEASE_REQUEST (R206): the pages of a phase are no longer held. -/
def execReleaseRequest (ph : Phase) (s : State) : Out :=
  let s := s.take (.releaseRequest ph)
  .next (if s.running then s.setPca (s.pca.release (phasePages s.pfl.profile ph)) else s)

end Sys2Proof.Machine
end

