-- ==== Sys2Proof/Machine/ProfileLoader.lean ====
section
/-! DEFINITION. The meanings of the Profile Loader's commands (11): START, PROFILE_READ_END, PROFILE_FRAME_NOT_READY, FALLBACK_PAGE_READ_END. -/

namespace Sys2Proof.Machine

/-- START (R222): in any state, the node is STARTING at once and the profile read begins again. -/
def execStart (s : State) : Out := .next s.start

/-- The node id STATUS returns in FALLBACK: byte 0 as read, 0 when there is no page memory (R225); 0 also when the memory was not
ready for frame 1, so that byte 0 was not read (DESIGN CHOICE, log 42). The operand of a profile read is what was read, none when no
page memory is there. -/
def fallbackId (memory : Option (List Byte)) : Byte := memory.elim 0 (·.headD 0)

/-- PROFILE_READ_END (R223): the node enters RUNNING if the profile passes, FALLBACK if it fails. With no profile read on the
port it changes nothing. Absent page memory, operand none, reads as all ones (R197), so its profile fails by its node id 255. -/
def execProfileReadEnd (memory : Option (List Byte)) (s : State) : Out :=
  .next (if s.readingProfile then
      (match memory.filter profilePasses with
      | some bytes => s.enterRunning bytes
      | none => s.enterFallback (fallbackId memory))
    else s)

/-- PROFILE_FRAME_NOT_READY (R223): the read fails. -/
def execProfileFrameNotReady (memory : Option (List Byte)) (s : State) : Out :=
  .next (if s.readingProfile then s.enterFallback (fallbackId memory) else s)

/-- FALLBACK_PAGE_READ_END (R225): the read of page 5 ends, and its picture, or a blank one, is sent to every face. -/
def execFallbackPageReadEnd (frame : Option (List Byte)) (s : State) : Out :=
  .next (if s.pfl.page5Reading then
      { s with pfl := { s.pfl with page5Reading := false, broadcast := some (fallbackBytes (readPage frame)) } }
    else s)

end Sys2Proof.Machine
end

