-- ==== Sys2Proof/Machine/Routes.lean ====
section
/-! DEFINITION. The meanings of the Route Table Unit's commands (01): RTU_PROFILE_LOAD, ADVERTISED_COST_WRITE, LEG_REPORT. -/

namespace Sys2Proof.Machine

/-- Install one anchor of the profile's list: destinations above 63 and repeats are skipped (R4). -/
def installAnchor (t : Vector Entry 64) (a : Nat × Nat) : Vector Entry 64 :=
  if h : a.1 < 64 then
    modifyAt t ⟨a.1, h⟩ (fun e => if e.anchor.isSome then e else { e with anchor := some a.2 })
  else t

/-- The pace factors and leg costs at profile load: crowd 0, smoke clear (R4). -/
def loadPaces (legs : Vector (Option LegStatic) 6) : Vector (Option LegPace) 6 :=
  tabulate (fun l => legs[l].map (fun f => formPace f 0 false))

/-- RTU_PROFILE_LOAD (R4): leg costs, then anchors, then a full recompute with its reports. The LGM takes its steps first
(R222), so the load stays outstanding while the LGM's is. -/
def execRtuProfileLoad (s : State) : Out :=
  if s.handoffs.contains .lgmProfileLoad then .next s
  else if s.running && s.handoffs.contains .rtuProfileLoad then
    let s := s.take .rtuProfileLoad
    let table := s.pfl.profile.anchors.foldl installAnchor s.rtu.table
    let s1 : State := { s with rtu := { table := table, legs := loadPaces s.pfl.profile.legs } }
    .next s1.fullRecompute
  else .next (s.take .rtuProfileLoad)

/-- The RTU stores an advertised cost of a configured leg (R10). -/
def State.storeAdvertised (s : State) (l : LegIx) (d : DestIx) (v : Cost) : State :=
  let store (e : Entry) : Entry := { e with adv := setAt e.adv l (storedCost s.pfl.profile.horizon v) }
  { s with rtu := { s.rtu with table := modifyAt s.rtu.table d store } }

/-- ADVERTISED_COST_WRITE (R10, R19): store, then recompute the destination. A write naming an unconfigured leg, or while the
node is not RUNNING (R3), is not acted on. -/
def execAdvertisedCostWrite (l : LegIx) (d : DestIx) (v : Cost) (s : State) : Out :=
  let s := s.take (.advertisedCostWrite l d v)
  if s.running && s.lgm.legs[l].fixed.isSome && s.rtu.legs[l].isSome then
    .next ((s.storeAdvertised l d v).recompute [d])
  else .next s

/-- The RTU forgets a SILENT leg's advertised costs (R11). -/
def forgetLeg (t : Vector Entry 64) (l : LegIx) : Vector Entry 64 :=
  tabulate (fun d => { t[d] with adv := setAt t[d].adv l .unknown })

/-- The pace factor and leg cost formed anew from the leg record (R7 to R9). -/
def LegRecord.currentPace (r : LegRecord) : Option LegPace := r.fixed.map (fun f => formPace f r.crowd r.smoke)

/-- LEG_REPORT (R9, R11): form the leg cost anew, forget on SILENT, and recompute in full when the link state, the passability
or the leg cost changed. A report for an unconfigured leg is not acted on. -/
def execLegReport (r : LegReport) (s : State) : Out :=
  let s := s.take (.legReport r)
  let l := r.leg
  if s.running && s.lgm.legs[l].fixed.isSome && s.rtu.legs[l].isSome then
    let pace := if r.conditions then s.lgm.legs[l].currentPace else s.rtu.legs[l]
    let costMoved := pace.map (·.cost) != s.rtu.legs[l].map (·.cost)
    let table := if r.link = some .silent then forgetLeg s.rtu.table l else s.rtu.table
    let s := { s with rtu := { table := table, legs := setAt s.rtu.legs l pace } }
    .next (if r.link.isSome || r.passability || costMoved then s.fullRecompute else s)
  else .next s

end Sys2Proof.Machine
end

