-- ==== Sys2Proof/Machine/Dispatch.lean ====
section
/-! DEFINITION. One arm per command: what each does to everything but the queue. -/

namespace Sys2Proof.Machine

/-- The effect of a command (spec/opcode_table.json, row by row). -/
def exec (i : Instr) (s : State) : Host.Outcome State Fault Refusal :=
  match i with
  | .start => Sys2Proof.Machine.execStart s
  | .profileReadEnd memory => Sys2Proof.Machine.execProfileReadEnd memory s
  | .profileFrameNotReady memory => Sys2Proof.Machine.execProfileFrameNotReady memory s
  | .fallbackPageReadEnd frame => Sys2Proof.Machine.execFallbackPageReadEnd frame s
  | .rtuProfileLoad => Sys2Proof.Machine.execRtuProfileLoad s
  | .lgmProfileLoad => Sys2Proof.Machine.execLgmProfileLoad s
  | .aduProfileLoad => Sys2Proof.Machine.execAduProfileLoad s
  | .mucProfileLoad => Sys2Proof.Machine.execMucProfileLoad s
  | .fcuProfileLoad => Sys2Proof.Machine.execFcuProfileLoad s
  | .fscProfileLoad => Sys2Proof.Machine.execFscProfileLoad s
  | .pcaProfileLoad => Sys2Proof.Machine.execPcaProfileLoad s
  | .frameArrival p whileSending bytes => Sys2Proof.Machine.execFrameArrival p whileSending bytes s
  | .transmissionStart p => Sys2Proof.Machine.execTransmissionStart p s
  | .collision p => Sys2Proof.Machine.execCollision p s
  | .backoffExpiry p => Sys2Proof.Machine.execBackoffExpiry p s
  | .transmissionComplete p => Sys2Proof.Machine.execTransmissionComplete p s
  | .advertReceipt p f => Sys2Proof.Machine.execAdvertReceipt p f s
  | .advertisedCostWrite l d v => Sys2Proof.Machine.execAdvertisedCostWrite l d v s
  | .legReport r => Sys2Proof.Machine.execLegReport r s
  | .changedFlagReport p d => Sys2Proof.Machine.execChangedFlagReport p d s
  | .advertTick => Sys2Proof.Machine.execAdvertTick s
  | .gapTimerExpiry p => Sys2Proof.Machine.execGapTimerExpiry p s
  | .advertArrival l => Sys2Proof.Machine.execAdvertArrival l s
  | .silenceTimerExpiry l => Sys2Proof.Machine.execSilenceTimerExpiry l s
  | .doorInputChange l closed => Sys2Proof.Machine.execDoorInputChange l closed s
  | .doorLevelTaken l => Sys2Proof.Machine.execDoorLevelTaken l s
  | .conditionApply c => Sys2Proof.Machine.execConditionApply c s
  | .crowdLifetimeExpiry l => Sys2Proof.Machine.execCrowdLifetimeExpiry l s
  | .musterReportLgm => Sys2Proof.Machine.execMusterReportLgm s
  | .returnToQuietLgm => Sys2Proof.Machine.execReturnToQuietLgm s
  | .alarmReceipt p hop a => Sys2Proof.Machine.execAlarmReceipt p hop a s
  | .repeatTimerExpiry => Sys2Proof.Machine.execRepeatTimerExpiry s
  | .standDownTimerExpiry => Sys2Proof.Machine.execStandDownTimerExpiry s
  | .secondsTimerExpiry => Sys2Proof.Machine.execSecondsTimerExpiry s
  | .clockFrameReceipt c => Sys2Proof.Machine.execClockFrameReceipt c s
  | .minuteEventPlu old new => Sys2Proof.Machine.execMinuteEventPlu old new s
  | .programmeOffer o => Sys2Proof.Machine.execProgrammeOffer o s
  | .changedDestinationReport d => Sys2Proof.Machine.execChangedDestinationReport d s
  | .programmeReport venue id kind => Sys2Proof.Machine.execProgrammeReport venue id kind s
  | .minuteEventFcu old new => Sys2Proof.Machine.execMinuteEventFcu old new s
  | .musterReportFcu => Sys2Proof.Machine.execMusterReportFcu s
  | .returnToQuietFcu => Sys2Proof.Machine.execReturnToQuietFcu s
  | .privacyChange f => Sys2Proof.Machine.execPrivacyChange f s
  | .languageRotationExpiry => Sys2Proof.Machine.execLanguageRotationExpiry s
  | .recordCompleted f d => Sys2Proof.Machine.execRecordCompleted f d s
  | .recordNotCompleted f d => Sys2Proof.Machine.execRecordNotCompleted f d s
  | .suppliedChainEnded f => Sys2Proof.Machine.execSuppliedChainEnded f s
  | .faceBackOnline f => Sys2Proof.Machine.execFaceBackOnline f s
  | .heldPageFaultReport => Sys2Proof.Machine.execHeldPageFaultReport s
  | .demand f k => Sys2Proof.Machine.execDemand f k s
  | .candidateAging f a => Sys2Proof.Machine.execCandidateAging f a s
  | .pollDue fs => Sys2Proof.Machine.execPollDue fs s
  | .faceReply bytes => Sys2Proof.Machine.execFaceReply bytes s
  | .replyWaitExpiry => Sys2Proof.Machine.execReplyWaitExpiry s
  | .musterAdoptionFsc => Sys2Proof.Machine.execMusterAdoptionFsc s
  | .fetchHeaderRead marker kind lenHi lenLo => Sys2Proof.Machine.execFetchHeaderRead marker kind lenHi lenLo s
  | .fetchNoAnswer => Sys2Proof.Machine.execFetchNoAnswer s
  | .fetchEndGood body => Sys2Proof.Machine.execFetchEndGood body s
  | .holdRequest ph => Sys2Proof.Machine.execHoldRequest ph s
  | .releaseRequest ph => Sys2Proof.Machine.execReleaseRequest ph s
  | .unknownCommand code params => Sys2Proof.Machine.execUnknownCommand code params s
  | .status params => Sys2Proof.Machine.execStatus params s
  | .readNotice params => Sys2Proof.Machine.execReadNotice params s
  | .readMuster params => Sys2Proof.Machine.execReadMuster params s
  | .readRoute params => Sys2Proof.Machine.execReadRoute params s
  | .readLeg params => Sys2Proof.Machine.execReadLeg params s
  | .readFace params => Sys2Proof.Machine.execReadFace params s
  | .startFaceChain params => Sys2Proof.Machine.execStartFaceChain params s
  | .haltFace params => Sys2Proof.Machine.execHaltFace params s
  | .releaseFace params => Sys2Proof.Machine.execReleaseFace params s
  | .setFaceLanguage params => Sys2Proof.Machine.execSetFaceLanguage params s
  | .loadItem params => Sys2Proof.Machine.execLoadItem params s
  | .withdrawItem params => Sys2Proof.Machine.execWithdrawItem params s
  | .setClock params => Sys2Proof.Machine.execSetClock params s
  | .raisePhase params => Sys2Proof.Machine.execRaisePhase params s
  | .setCondition params => Sys2Proof.Machine.execSetCondition params s
  | .restart params => Sys2Proof.Machine.execRestart params s
  | .selectRelease clocked => Sys2Proof.Machine.execSelectRelease clocked s

end Sys2Proof.Machine
end

