-- ==== Sys2Proof/Machine/Idle.lean ====
section
/-! DEFINITION. What the part does by itself when no command waits and no event is outstanding: the arbiter's choice, else a second of the timebase. -/

namespace Sys2Proof.Machine

/-- One second of the part's timebase (log 7). -/
def State.tick (s : State) : State := { s with muc := s.muc.tick }

/-- With nothing waiting: the arbiter takes the candidate it prefers when it has a choice to make (R180; log 28), and else one second
passes (log 7). -/
def State.idle (s : State) : State :=
  match s.choice with
  | some c => s.takeCandidate c
  | none => s.tick

end Sys2Proof.Machine
end

