-- ==== Sys2Proof/Machine/Step.lean ====
section
/-! DEFINITION. One step of the part: the command at the front of the queue; with none waiting, the oldest hand-off; with neither, the arbiter's choice or a second of the timebase. -/

namespace Sys2Proof.Machine

/-- A step (log 1): the command in front, the queue left with the rest; else the oldest event handed between blocks; else what the part
does by itself. -/
def step (s : State) : Host.Outcome State Fault Refusal :=
  match s.pending with
  | c :: rest => exec c { s with pending := rest }
  | [] =>
    match s.handoffs with
    | e :: _ => exec e s
    | [] => .next s.idle

/-- The state with the command that a word spells in front of the queue; unchanged where it spells none (the table gives no bits). -/
def State.withFetchWord (s : State) (nbits w : Nat) : State :=
  match decodeTableWord nbits w with
  | some c => { s with pending := c :: s.pending }
  | none => s

end Sys2Proof.Machine
end

