-- ==== Sys2Proof/WellFormed.lean ====
section
/-! DEFINITION. Which terms of `Instr` are commands the outside world or a block can bring: the checks on operands their types do not make. -/

namespace Sys2Proof

/-- The command codes of the table in 10.2. -/
def commandCodes : List Byte :=
  [0x01#8, 0x02#8, 0x03#8, 0x04#8, 0x05#8, 0x06#8, 0x10#8, 0x11#8, 0x12#8, 0x13#8,
   0x20#8, 0x21#8, 0x22#8, 0x30#8, 0x31#8, 0x3F#8]

/-- The parameter length of a transaction is one byte (R209). -/
def paramsOk (params : List Byte) : Bool := params.length ≤ 255

/-- The operands are ones the spec's events can bring. -/
def Instr.wf : Instr → Bool
  | .start => true
  | .profileReadEnd memory => memory.all (·.length = 2048)
  | .profileFrameNotReady memory =>
    memory.all (fun bytes => bytes.length = 0 || bytes.length = 512 || bytes.length = 1024 || bytes.length = 1536)
  | .fallbackPageReadEnd none => true
  | .fallbackPageReadEnd (some frame) => frame.length = 512
  | .rtuProfileLoad | .lgmProfileLoad | .aduProfileLoad | .mucProfileLoad => true
  | .fcuProfileLoad | .fscProfileLoad | .pcaProfileLoad => true
  | .frameArrival _ _ _ => true
  | .transmissionStart _ | .collision _ | .backoffExpiry _ | .transmissionComplete _ => true
  | .advertReceipt _ f => f.entries.length = 16
  | .advertisedCostWrite _ _ (.finite n) => n ≤ 60000
  | .advertisedCostWrite _ _ _ => true
  | .legReport _ | .changedFlagReport _ _ | .advertTick | .gapTimerExpiry _ => true
  | .advertArrival _ | .silenceTimerExpiry _ | .doorInputChange _ _ | .doorLevelTaken _ => true
  | .conditionApply _ | .crowdLifetimeExpiry _ | .musterReportLgm | .returnToQuietLgm => true
  | .alarmReceipt _ hop a => hop ≤ 15 && a.zones.length ≤ 8
  | .repeatTimerExpiry | .standDownTimerExpiry | .secondsTimerExpiry | .clockFrameReceipt _ => true
  | .minuteEventPlu old new => (old.getD 0 ≤ 368639) && new ≤ 368639
  | .programmeOffer _ | .changedDestinationReport _ => true
  | .programmeReport venue id _ => venue ≤ 63 && (1 ≤ id && id ≤ 65535)
  | .minuteEventFcu old new => (old.getD 0 ≤ 368639) && new ≤ 368639
  | .musterReportFcu | .returnToQuietFcu | .privacyChange _ | .languageRotationExpiry => true
  | .recordCompleted _ _ | .recordNotCompleted _ _ | .suppliedChainEnded _ | .faceBackOnline _ => true
  | .heldPageFaultReport | .demand _ _ | .candidateAging _ _ => true
  | .pollDue fs => !fs.isEmpty && decide fs.Nodup
  | .faceReply _ | .replyWaitExpiry | .musterAdoptionFsc => true
  | .fetchHeaderRead _ _ _ _ | .fetchNoAnswer => true
  | .fetchEndGood body => body.length ≤ 508
  | .holdRequest ph | .releaseRequest ph => ph ≠ .quiet
  | .unknownCommand code params => !commandCodes.contains code && paramsOk params
  | .status p | .readNotice p | .readMuster p | .readRoute p | .readLeg p | .readFace p => paramsOk p
  | .startFaceChain p | .haltFace p | .releaseFace p | .setFaceLanguage p => paramsOk p
  | .loadItem p | .withdrawItem p | .setClock p | .raisePhase p | .setCondition p | .restart p => paramsOk p
  | .selectRelease _ => true

end Sys2Proof
end

