-- ==== Sys2Proof/Safety.lean ====
section
/-! DEFINITION. What claims are stated in: what a change of state leaves alone (frames), and the terms of the statements, and the invariants: limits on the part's lists and numbers, and the pins of the page cache. -/

namespace Sys2Proof.Machine

/-! ### Frames -/

/-- The parts of the state, one for each block, and the model's own fields. -/
inductive Block where
  | rtu | lgm | adu | dlc | muc | sck | plu | fcu | fsc | pca | hpt | pfl | handoffs | freeCount | pending
  deriving DecidableEq, Repr

/-- A part of the state is the same in two states. -/
def Same (s t : State) : Block → Prop
  | .rtu => t.rtu = s.rtu
  | .lgm => t.lgm = s.lgm
  | .adu => t.adu = s.adu
  | .dlc => t.dlc = s.dlc
  | .muc => t.muc = s.muc
  | .sck => t.sck = s.sck
  | .plu => t.plu = s.plu
  | .fcu => t.fcu = s.fcu
  | .fsc => t.fsc = s.fsc
  | .pca => t.pca = s.pca
  | .hpt => t.hpt = s.hpt
  | .pfl => t.pfl = s.pfl
  | .handoffs => t.handoffs = s.handoffs
  | .freeCount => t.freeCount = s.freeCount
  | .pending => t.pending = s.pending

/-- Every part of the state but those named is unchanged. -/
def Frame.only (touched : List Block) (s t : State) : Prop := ∀ b, b ∉ touched → Same s t b

/-- The outcome is a next state with a property. -/
def Completes (o : Out) (post : State → Prop) : Prop := ∃ t, o = .next t ∧ post t

/-! ### Terms of the routing statements -/

/-- A way out with its finite candidate: HERE with the anchor cost, or a leg with its candidate (R14, R15). -/
def isWay (cands : Vector Cost 6) (anchor : Option Nat) (w : WayOut) (c : Nat) : Prop :=
  match w with
  | .here => anchor = some c
  | .leg l => cands[l] = .finite c
  | .none => False

/-- M of R15: the lowest finite candidate; HERE first on a tie, then the lowest leg index. -/
structure IsLowest (cands : Vector Cost 6) (anchor : Option Nat) (w : WayOut) (m : Nat) : Prop where
  way     : isWay cands anchor w m
  lowest  : ∀ w' c, isWay cands anchor w' c → m ≤ c
  hereTie : anchor = some m → w = .here
  legTie  : ∀ l l' : LegIx, w = .leg l → cands[l'] = .finite m → l ≤ l'

/-- The value stored for an advertised cost, row by row of the table of R10. -/
def storesAs (horizon : Nat) (v stored : Cost) : Prop :=
  match v with
  | .unknown => stored = .unknown
  | .unreachable => stored = .unreachable
  | .finite n => (n ≤ horizon → stored = .finite n) ∧ (horizon < n → stored = .unreachable)

/-- The reports of a recompute of some destinations, each entry given as it stands before: for each whose best leg or best cost moves, one
to the ADU for each port and one to the FCU (R21). -/
def movedReports (env : RouteEnv) (paces : Vector (Option LegPace) 6) (entry : DestIx → Entry) (ds : List DestIx) : List Instr :=
  ds.flatMap (fun d =>
    if reselect env paces (entry d) = ((entry d).best, (entry d).cost) then []
    else [.changedFlagReport .da d, .changedFlagReport .db d, .changedDestinationReport d])

/-- The leg is configured, and the RTU holds its leg cost (R2, R10). -/
def legReady (s : State) (l : LegIx) : Prop := s.lgm.legs[l].fixed.isSome = true ∧ s.rtu.legs[l].isSome = true

/-! ### Terms of the deck link statements -/

/-- The slot of a flooded frame by its name (R72); an ADVERT slot and the PROGRAMME queue hold no such slot. -/
def LinkPort.floodSlot (lp : LinkPort) : SlotName → Slot Frame
  | .alarm => lp.alarm
  | .condLeg l => lp.condLeg[l]
  | .condRelay i => lp.condRelay[i]
  | .clock => lp.clock
  | .advert _ => Slot.vacant
  | .programme => Slot.vacant

/-- A slot of its own for a flooded frame: neither an ADVERT slot nor the PROGRAMME queue. -/
def isFloodSlot (n : SlotName) : Prop := (∀ b, n ≠ .advert b) ∧ n ≠ .programme

/-- Every slot of a port but one holds what it held (R72, R75). -/
def otherSlots (n : SlotName) (before after : LinkPort) : Prop :=
  (∀ m, isFloodSlot m → m ≠ n → after.floodSlot m = before.floodSlot m)
  ∧ (∀ b : BlockIx, n ≠ .advert b → after.advert[b] = before.advert[b])
  ∧ (n ≠ .programme → after.programme = before.programme ∧ after.progInFlight = before.progInFlight)

/-- The waiting position of the eligible frame or request of a slot, if it has one (R74, R76). -/
def LinkPort.eligiblePos (lp : LinkPort) : SlotName → Option Nat
  | .alarm => lp.alarm.eligible
  | .condLeg l => lp.condLeg[l].eligible
  | .condRelay i => lp.condRelay[i].eligible
  | .clock => lp.clock.eligible
  | .advert b => lp.advert[b].eligible
  | .programme => if lp.progInFlight then none else lp.programme.head?.map (·.pos)

/-- The row of the table of R76 a slot stands in. -/
def LinkPort.row (lp : LinkPort) : SlotName → Nat
  | .alarm => 1
  | .condLeg _ => 2
  | .condRelay _ => 2
  | .clock => 3
  | .advert b => if lp.advert[b].unsent.any (·.item) then 4 else 6
  | .programme => 5

/-- A slot may be chosen: it has an eligible frame, and an urgent ADVERT only while the gap timer does not run (R76, R89). -/
def LinkPort.maySend (lp : LinkPort) (gapRunning : Bool) (n : SlotName) : Prop :=
  (lp.eligiblePos n).isSome = true ∧ ¬ (lp.row n = 4 ∧ gapRunning = true)

/-! ### Terms of the face and host statements -/

/-- The demand a recompute raises on a face that satisfies a test, if a part in view differs: of class CONTENT in QUIET and MUSTER in
any other phase; none on a disabled face (R162). -/
def faceDemand (s : State) (which : FaceIx → FaceConfig → Bool) (f : FaceIx) : Option Instr :=
  match s.fcu.faces[f].config with
  | some c =>
    if which f c && !(differingParts s f).isEmpty then some (.demand f (if s.muc.phase = .quiet then .content else .muster)) else none
  | none => none

/-- The demands a recompute of some faces raises, in ascending face index (R162). -/
def demandsFor (s : State) (which : FaceIx → FaceConfig → Bool) : List Instr := (indices 32).filterMap (faceDemand s which)

/-- The face words but one are the same, and the last polled face. -/
def otherWords (f : FaceIx) (s t : State) : Prop :=
  (∀ g : FaceIx, g ≠ f → t.fsc.words[g] = s.fsc.words[g]) ∧ t.fsc.lastPolled = s.fsc.lastPolled

/-- The response that stands ready: marker, code, reason, data length, data (R209). -/
def answers (t : State) (code reason : Nat) (data : List Byte) : Prop :=
  t.hpt.transaction.map (·.response) = some ([0xA5#8, natByte code, natByte reason, natByte data.length] ++ data)

/-- The sixteen commands of the host with some parameter bytes, whether each is taken in FALLBACK, and whether the number of bytes
is the one 10.2 gives it (R210). -/
def hostTable (params : List Byte) : List (Instr × Bool × Bool) :=
  let n := params.length
  [(.status params, true, n == 0), (.readNotice params, false, n == 0), (.readMuster params, false, n == 0),
   (.readRoute params, false, n == 1), (.readLeg params, false, n == 1), (.readFace params, false, n == 1),
   (.startFaceChain params, false, 2 ≤ n && n == 2 + 3 * (byteAt params 1).toNat), (.haltFace params, false, n == 1),
   (.releaseFace params, false, n == 1), (.setFaceLanguage params, false, n == 2), (.loadItem params, false, n == 16),
   (.withdrawItem params, false, n == 6), (.setClock params, false, n == 4),
   (.raisePhase params, false, 2 ≤ n && n == 2 + (byteAt params 1).toNat), (.setCondition params, false, n == 4),
   (.restart params, true, n == 0)]

/-! ### Terms of the statements on chains (R175, R179, R184) -/

/-- The cache when a face's chain is given up: the pin of its started record is released, the face word is taken off the waiters, and
its prefetch mark is withdrawn (R175 step 1, R178, R179 step 1, R200), in this order (DESIGN CHOICE, log 47). -/
def chainPca (w : FaceWord) (f : FaceIx) (p : Pca) : Pca :=
  let p := match w.started with
    | some r => p.releasePin r.page
    | none => p
  (if w.waiting.isSome then p.dropFace f else p).withdrawPrefetch f

/-- The state of a face word that holds no record: OFFLINE stays, TRANSFER with an exchange on the string, else ACTIVE with a chain and
IDLE without (R172). -/
def emptyWordState (w : FaceWord) (onString chain : Bool) : WordState :=
  if w.state = .offline then .offline else if onString then .transfer else if chain then .active else .idle

/-- The HPT with a CHAIN_END notice, unless its queue is full (R179 step 3, R216). -/
def notedEnding (h : Hpt) (f : FaceIx) (e : ChainEnding) : Hpt :=
  if h.notices.length < 32 then { h with notices := h.notices ++ [.chainEnd f e] } else h

/-- The stacked ending of a face word: the ending itself when the queue is full (R179 step 3, R216). -/
def stackedEnding (h : Hpt) (old : Option ChainEnding) (e : ChainEnding) : Option ChainEnding :=
  if h.notices.length < 32 then old else some e

/-- The state after a face's supplied chain has ended (R179): chain, record and prefetch page absent, host-held by a COMPLETE chain whose
last record carries HOLD, the ending in the notice queue or stacked, the FCU told. -/
def suppliedEnded (s : State) (f : FaceIx) (records : List SuppliedRecord) (done : Nat) (c : Condition) : State :=
  let w := s.fsc.words[f]
  let e : ChainEnding := { condition := c, done := done, total := records.length }
  let v : FaceWord := { w with
    active := none, started := none, waiting := none, prefetch := none, recordAged := false
    hostHeld := c == .complete && records.getLast?.any (·.hold)
    stacked := stackedEnding s.hpt w.stacked e
    state := emptyWordState w (s.onString f) false }
  { s with
    fsc := { s.fsc with words := setAt s.fsc.words f v }
    pca := chainPca w f s.pca
    hpt := notedEnding s.hpt f e
    handoffs := s.handoffs ++ [.suppliedChainEnded f] }

/-- The state after a face's generated chain has ended (R175): chain, record and prefetch page absent; a part that did not complete is
absent from the snapshot, with a DRAW_FAULT notice; on a face not OFFLINE a pending supplied chain becomes the active chain, and re-dirty
a demand, each with a new number. -/
def generatedEnded (s : State) (f : FaceIx) (cls : DemandClass) (c : Condition) (part : Option Part) : State :=
  let w := s.fsc.words[f]
  let n := s.fsc.seqCount
  let here : Bool := w.state != .offline
  let next := if here then w.pending else none
  let again := here && w.redirty
  let v : FaceWord := { w with
    active := next.map (fun rs => { body := .supplied rs 0 false, index := 0, seq := n })
    started := none, waiting := none, prefetch := none, recordAged := false
    pending := if here then none else w.pending
    redirty := !here && w.redirty
    demand := again || w.demand
    demandSeq := if again then (if next.isSome then n + 1 else n) else w.demandSeq
    state := emptyWordState w (s.onString f) next.isSome }
  { s with
    fsc := { s.fsc with
      words := setAt s.fsc.words f v
      seqCount := n + (if next.isSome then 1 else 0) + (if again then 1 else 0) }
    pca := chainPca w f s.pca
    fcu := match part with
      | some p =>
        let absent := { s.fcu.faces[f] with snapshot := setAt s.fcu.faces[f].snapshot (partIx p) none }
        { s.fcu with faces := setAt s.fcu.faces f absent }
      | none => s.fcu
    hpt := match part with
      | some p => s.hpt.takeNotice (.drawFault f cls c p)
      | none => s.hpt }

/-- The state after a face's active chain has ended otherwise than COMPLETE, at the record it is at (R175, R179). -/
def chainEnded (s : State) (f : FaceIx) (c : Condition) : State :=
  match s.fsc.words[f].active with
  | some { body := .generated cls parts, index := i, .. } => generatedEnded s f cls c parts[i]?
  | some { body := .supplied records done _, .. } => suppliedEnded s f records done c
  | none => s

/-- The state with one face word changed. -/
def withFaceWord (s : State) (f : FaceIx) (w : FaceWord) : State := { s with fsc := { s.fsc with words := setAt s.fsc.words f w } }

/-- The state after a face has gone OFFLINE (R184): its chain has ended FACE_SILENT, what its word held is gone, a pending chain is
discarded with 0 records done, and a FACE_STATE notice follows. -/
def wentOffline (s : State) (f : FaceIx) : State :=
  let u := chainEnded (withFaceWord s f { s.fsc.words[f] with state := .offline, poll := .wait10s }) f .faceSilent
  let w := u.fsc.words[f]
  let ending : List SuppliedRecord → ChainEnding := fun rs => { condition := .faceSilent, done := 0, total := rs.length }
  let v : FaceWord := { w with
    started := none, waiting := none, prefetch := none, demand := false, cls := none, redirty := false, attnStacked := false
    pending := none
    stacked := match w.pending with
      | some rs => stackedEnding u.hpt w.stacked (ending rs)
      | none => w.stacked }
  { u with
    fsc := { u.fsc with words := setAt u.fsc.words f v }
    pca := chainPca w f u.pca
    hpt := (match w.pending with
      | some rs => notedEnding u.hpt f (ending rs)
      | none => u.hpt).takeNotice (.faceState f .offline 0) }

/-- The state when a record's exchange is over: the string is free, and the pin of the record's page is released (R184, R185, R200). -/
def recordOff (s : State) (r : DrawRecord) : State :=
  { s with
    fsc := { s.fsc with string := none }
    pca := if r.page = 0 then s.pca else s.pca.releasePin r.page }

/-- The snapshot of a face without its picture: header and lines absent, the privacy indicator kept (R160, R184). -/
def withoutPicture (s : State) (f : FaceIx) : State :=
  let left := { s.fcu.faces[f] with snapshot := #v[none, none, none, none, none, s.fcu.faces[f].snapshot[5]] }
  { s with fcu := { s.fcu with faces := setAt s.fcu.faces f left } }

/-- What a record that did not complete leaves of the snapshot: a supplied picture takes header and lines with it (R184); a part is
made absent by its chain's end. -/
def pictureLost (s : State) (f : FaceIx) (r : DrawRecord) : State :=
  match r.content with
  | .picture _ => withoutPicture s f
  | .part _ _ => s

/-- What a waiter of a page whose fetch ended in a page fault is told (R183, R204, R206): a face word's chain ends PAGE_FAULT; a hold mark
faults the hold set, whose pages are no longer held or marked, and the FCU is told; a prefetch mark is told nothing. -/
def waiterTold (s : State) : Waiter → State
  | .face f => chainEnded (withFaceWord s f { s.fsc.words[f] with waiting := none }) f .pageFault
  | .prefetch _ => s
  | .hold => { s with
      pca := { s.pca.unhold s.pca.holdPages with faulted := true }
      handoffs := s.handoffs ++ [.heldPageFaultReport] }

/-! ### Limits -/

/-- Relay memory holds at most 16 keys, no key twice (R66). -/
abbrev ringOk (ring : List Key) : Prop := ring.length ≤ Config.ringCapacity ∧ ring.Nodup

/-- The notice queue holds at most 32 notices (R215). -/
abbrev noticesOk (ns : List Notice) : Prop := ns.length ≤ Config.noticeCapacity

/-- One item stands before another in the programme list: by start absolute, then id; and their ids differ (R134). -/
abbrev itemOrder (a b : Item) : Prop := a.before b = true ∧ a.id ≠ b.id

/-- The programme list holds at most 96 items, in list order, at most one per id (R134). -/
abbrev itemsOk (items : List Item) : Prop := items.length ≤ Config.programmeCapacity ∧ items.Pairwise itemOrder

/-- A port's PROGRAMME queue holds at most 8 frames (R72). -/
abbrev queueOk (lp : LinkPort) : Prop := lp.programme.length ≤ Config.programmeQueueCapacity

/-- The clock's fields lie in their ranges (R127). -/
abbrev clockOk (c : Sck) : Prop := c.day ≤ 255 ∧ c.minute ≤ 1439 ∧ c.second ≤ 59

/-- The adopted origin is 0 while the epoch is absent (R101). -/
abbrev musterOk (m : Muc) : Prop := m.epoch = none → m.origin = 0

/-- Every crowd level is at most 7 (R32). -/
abbrev crowdsOk (legs : Vector LegRecord 6) : Prop := ∀ l : LegIx, legs[l].crowd ≤ 7

/-- A muster holds at most 8 closed zones (R101). -/
abbrev zonesOk (m : Muc) : Prop := m.zones.length ≤ 8

/-- An ALARM on its way to the MUC, as a command or a hand-off, lists at most 8 zones (R61, R63). -/
def alarmsOk (s : State) : Prop := ∀ p hop a, Instr.alarmReceipt p hop a ∈ s.pending ++ s.handoffs → a.zones.length ≤ 8

/-- The stand-down timer has at most 60 s left (R115). -/
abbrev standDownOk (m : Muc) : Prop := m.standDown ≤ 60

/-- The chain pool holds at most 64 records (R176). -/
abbrev poolOk (c : Fsc) : Prop := c.poolUsed ≤ Config.poolCapacity

/-- A cost is a sentinel, or a figure within a limit (R1). -/
def costWithin (limit : Nat) (c : Cost) : Prop := ∀ n, c = .finite n → n ≤ limit

/-- The costs of the route table: the horizon lies in its range and the profile's anchor costs below it (R223); every advertised cost
and best cost lies within the horizon and every anchor cost in a byte (R1), and outside RUNNING there is none of them (R3). -/
structure CostsOk (s : State) : Prop where
  horizon : 1000 ≤ s.pfl.profile.horizon ∧ s.pfl.profile.horizon ≤ 60000
  listed  : ∀ a ∈ s.pfl.profile.anchors, a.2 ≤ 255
  best    : ∀ d : DestIx, costWithin s.pfl.profile.horizon s.rtu.table[d].cost
  adv     : ∀ (d : DestIx) (l : LegIx), costWithin s.pfl.profile.horizon s.rtu.table[d].adv[l]
  anchor  : ∀ (d : DestIx) (a : Nat), s.rtu.table[d].anchor = some a → a ≤ 255
  empty   : s.running = false → ∀ d : DestIx, s.rtu.table[d].anchor = none ∧ (∀ n, s.rtu.table[d].cost ≠ .finite n)
              ∧ ∀ (l : LegIx) (n : Nat), s.rtu.table[d].adv[l] ≠ .finite n

/-- The limits together. -/
structure Limits (s : State) : Prop where
  ring    : ringOk s.dlc.ring
  notices : noticesOk s.hpt.notices
  items   : itemsOk s.plu.items
  queueDA : queueOk s.dlc.ports.da
  queueDB : queueOk s.dlc.ports.db
  clock   : clockOk s.sck
  muster  : musterOk s.muc
  crowds  : crowdsOk s.lgm.legs
  zones   : zonesOk s.muc
  alarms  : alarmsOk s
  timer   : standDownOk s.muc
  pool    : poolOk s.fsc
  costs   : CostsOk s

/-! ### The pins of the page cache -/

/-- The cache by itself: no page stands in two places, a slot is FILLING exactly while the fetch on the port fills it, waiters stand only
there and in the queue, and only a VALID slot is pinned or held (R198, R199, R201, R202). -/
structure CacheOk (p : Pca) : Prop where
  slots   : ∀ i j : Fin 16, p.slots[i].state ≠ .empty → p.slots[j].state ≠ .empty → p.slots[i].page = p.slots[j].page → i = j
  queued  : ∀ e ∈ p.queue, ∀ i : Fin 16, p.slots[i].state ≠ .empty → p.slots[i].page ≠ e.page
  once    : (p.queue.map (·.page)).Nodup
  awaited : ∀ e ∈ p.queue, e.waiters ≠ []
  filling : ∀ i : Fin 16, p.slots[i].state = .filling ↔ ∃ x, p.fetch = some x ∧ x.slot = i
  waiters : ∀ i : Fin 16, p.slots[i].state ≠ .filling → p.slots[i].waiters = []
  free    : ∀ i : Fin 16, p.slots[i].state ≠ .valid → p.slots[i].pins = 0 ∧ p.slots[i].held = false

/-- A page stands in a VALID slot. -/
def pageValid (p : Pca) (page : Nat) : Prop := ∃ i : Fin 16, p.slots[i].state = .valid ∧ p.slots[i].page = page

/-- The pins of a page: one for each face word whose started record names it, and one for the record in transfer that does (R183, R200). -/
def pinsOn (s : State) (page : Nat) : Nat :=
  ((indices 32).filter (fun f => s.fsc.words[f].started.any (fun r => r.page == page))).length
    + (match s.fsc.string with
      | some (.draw _ r) => if r.page = page then 1 else 0
      | _ => 0)

/-- How often a face word stands among the waiters of a page, in its slot and in the queue. -/
def waitsFor (p : Pca) (f : FaceIx) (page : Nat) : Nat :=
  ((indices 16).map (fun i => if p.slots[i].page = page then p.slots[i].waiters.count (.face f) else 0)).sum
    + (p.queue.map (fun e => if e.page = page then e.waiters.count (.face f) else 0)).sum

/-- What a face word holds of records: one that waits for its page, or one that is started, only with an active chain; ACTIVE means
that none waits (R171, R172, R183). -/
structure WordOk (w : FaceWord) : Prop where
  onlyOne : w.waiting.isSome = true → w.started = none
  chained : w.active = none → w.waiting = none ∧ w.started = none
  active  : w.state = .active → w.waiting = none
  page    : ∀ r, w.waiting = some r → r.page ≠ 0

/-- The cache and the face words agree: a VALID slot has one pin for each record that uses its page, such a record's page is VALID, and a
face word stands once among the waiters of the page it waits for and nowhere else. Until the FSC's profile load no face word holds
anything. -/
structure PinsOk (s : State) : Prop where
  cache   : CacheOk s.pca
  words   : ∀ f : FaceIx, WordOk s.fsc.words[f]
  pins    : ∀ i : Fin 16, s.pca.slots[i].state = .valid → s.pca.slots[i].page ≠ 0 →
              s.pca.slots[i].pins = pinsOn s s.pca.slots[i].page
  started : ∀ (f : FaceIx) (r : DrawRecord), s.fsc.words[f].started = some r → r.page ≠ 0 ∧ pageValid s.pca r.page
  drawn   : ∀ (f : FaceIx) (r : DrawRecord), s.fsc.string = some (.draw f r) → r.page = 0 ∨ pageValid s.pca r.page
  waiting : ∀ (f : FaceIx) (page : Nat), waitsFor s.pca f page = if s.fsc.words[f].waiting.any (fun r => r.page == page) then 1 else 0
  unread  : s.running = false ∨ .fscProfileLoad ∈ s.handoffs →
              s.fsc.string = none ∧ ∀ f : FaceIx, s.fsc.words[f] = FaceWord.initial
  load    : s.handoffs.count .fscProfileLoad ≤ 1 ∧ (s.running = false → .fscProfileLoad ∉ s.handoffs)

end Sys2Proof.Machine
end

