-- ==== Sys2Proof/Certificates/Slice0/Obligations.lean ====
section
/-! DEFINITION. The statements for the provers, rule by rule of spec/. -/

open Sys2Proof Sys2Proof.Machine

/-! ### The machine as a whole -/

/-- A step takes the command in front of the queue and runs it on the queue's rest (the form this phase asks for). With no command
waiting it takes the oldest event handed between blocks; with neither, the arbiter takes its choice, and with none of these a second of
the timebase passes, which is all the stand-down timer sees of it: one second less, down to its last (the model's choice, log 1, 7,
28). -/
def Obligations.StepRunsFrontCommand : Prop :=
  (∀ (c : Instr) (rest : List Instr) (s : State), s.pending = c :: rest → step s = exec c { s with pending := rest })
  ∧ ∀ s : State, s.pending = [] →
      (∀ e es, s.handoffs = e :: es → step s = exec e s)
      ∧ (s.handoffs = [] →
        (∀ c, s.choice = some c → step s = .next (s.takeCandidate c))
        ∧ (s.choice = none → step s
            = .next { s with muc := { s.muc with standDown := if s.muc.standDown ≤ 1 then s.muc.standDown else s.muc.standDown - 1 } }))

/-- Every command completes, whatever its operands and the state, and leaves the queue of commands as it is. That no command ends in a
stop is log 35. -/
def Obligations.EveryCommandCompletesAndKeepsQueue : Prop :=
  ∀ (i : Instr) (s : State), Completes (exec i s) (fun t => t.pending = s.pending)

/-- The limits of R1, R32, R66, R72, R101, R115, R127, R134, R176 and R215 are kept by every step: costs within the horizon, crowd
levels, relay memory, the PROGRAMME queues, closed zones, the stand-down timer, the clock's ranges, the programme list, the chain pool,
the notice queue. -/
def Obligations.LimitsKeptByEveryStep : Prop :=
  ∀ s t : State, Limits s → step s = .next t → Limits t

/-- R198 to R202: the cache and the face words agree, and every step keeps it so. Each VALID slot has one pin for each started record and
each record in transfer that uses its page; such a page is VALID; a face word in WAIT_PAGE stands once among the waiters of its page; no
page stands twice in slots and queue; a slot is FILLING exactly while the fetch on the port fills it; only a VALID slot is pinned or
held. -/
def Obligations.PinsAndWaitersKeptByEveryStep : Prop :=
  ∀ s t : State, PinsOk s → step s = .next t → PinsOk t

/-- The limits, and the agreement of the page cache with the face words, hold right after START. -/
def Obligations.LimitsAndPinsHoldAtReset : Prop := Limits State.reset ∧ PinsOk State.reset

/-- Right after START: the node STARTING with its profile read begun (R222), and the blocks at the start values of R3, R33, R60,
R86, R101, R127, R134, R151, R160, R171, R198, R211. The door levels are log 24. The demand sequence numbers (the count, and the one
in each face word) are 0 by the model's choice, log 25; the language index, the page id and order number of an EMPTY slot and the other
values log 25 names are left out. -/
def Obligations.ResetHoldsStartValues : Prop :=
  State.reset.pfl.node = .starting ∧ State.reset.pfl.reading = true
  ∧ (∀ (d : DestIx) (l : LegIx), State.reset.rtu.table[d].adv[l] = .unknown)
  ∧ (∀ d : DestIx, State.reset.rtu.table[d].best = .none ∧ State.reset.rtu.table[d].cost = .unknown
      ∧ State.reset.rtu.table[d].anchor = none ∧ State.reset.rtu.table[d].changedDA = false
      ∧ State.reset.rtu.table[d].changedDB = false)
  ∧ (∀ l : LegIx, State.reset.rtu.legs[l] = none)
  ∧ (∀ l : LegIx, State.reset.lgm.legs[l].fixed = none ∧ State.reset.lgm.legs[l].link = .unheard
      ∧ State.reset.lgm.legs[l].silenceRunning = false ∧ State.reset.lgm.legs[l].localDoor = false
      ∧ State.reset.lgm.legs[l].remoteDoor = false ∧ State.reset.lgm.legs[l].smoke = false
      ∧ State.reset.lgm.legs[l].crowd = 0 ∧ State.reset.lgm.legs[l].crowdRunning = false
      ∧ State.reset.lgm.legs[l].barred = false ∧ State.reset.lgm.legs[l].passable = false)
  ∧ State.reset.lgm.condSeq = 0
  ∧ (∀ p : Port, (State.reset.dlc.ports.get p).tx = .ready ∧ (State.reset.dlc.ports.get p).programme = []
      ∧ (State.reset.dlc.ports.get p).progInFlight = false
      ∧ (∀ l : LegIx, (State.reset.dlc.ports.get p).condLeg[l] = { inFlight := none, unsent := none })
      ∧ (∀ i : Fin 4, (State.reset.dlc.ports.get p).condRelay[i] = { inFlight := none, unsent := none })
      ∧ (State.reset.dlc.ports.get p).alarm = { inFlight := none, unsent := none }
      ∧ (State.reset.dlc.ports.get p).clock = { inFlight := none, unsent := none }
      ∧ (State.reset.adu.ports.get p).rotation = 0 ∧ (State.reset.adu.ports.get p).gapRunning = false
      ∧ (∀ b : BlockIx, (State.reset.adu.ports.get p).urgent[b] = false
          ∧ (State.reset.dlc.ports.get p).advert[b] = { inFlight := none, unsent := none }))
  ∧ State.reset.dlc.ring = [] ∧ State.reset.adu.tickRunning = false
  ∧ State.reset.muc = { epoch := none, phase := .quiet, origin := 0, zones := [], standDown := 0,
                        repeatRunning := false, held := none }
  ∧ State.reset.sck = { isSet := false, day := 0, minute := 0, second := 0, lastOrigin := 0, lastSeq := 0,
                        timerRunning := false, counter := 0 }
  ∧ State.reset.plu.items = []
  ∧ (∀ f : FaceIx, State.reset.fcu.faces[f].config = none ∧ (∀ i : Fin 6, State.reset.fcu.faces[f].snapshot[i] = none)
      ∧ State.reset.fsc.words[f] =
          { address := none, state := .idle, active := none, waiting := none, started := none, recordAged := false, pending := none
            demand := false, cls := none, demandSeq := 0, redirty := false, prefetch := none, stacked := none, attnStacked := false
            privacy := false, hostHeld := false, restateDue := false, retry := 0, poll := .stopped })
  ∧ State.reset.fcu.rotationRunning = false ∧ State.reset.fsc.seqCount = 0 ∧ State.reset.fsc.lastAck = none
  ∧ State.reset.fsc.lastPolled = 31 ∧ State.reset.fsc.string = none ∧ State.reset.fsc.poolUsed = 0
  ∧ (∀ i : Fin 16, State.reset.pca.slots[i].state = .empty ∧ State.reset.pca.slots[i].pins = 0
      ∧ State.reset.pca.slots[i].held = false ∧ State.reset.pca.slots[i].waiters = [])
  ∧ State.reset.pca.queue = [] ∧ State.reset.pca.completion = 0 ∧ State.reset.pca.holdPhase = none
  ∧ State.reset.pca.fetch = none ∧ State.reset.pca.holdPages = [] ∧ State.reset.pca.faulted = false
  ∧ State.reset.hpt.transaction = none ∧ State.reset.hpt.restart = false
  ∧ State.reset.hpt.notices = [] ∧ State.reset.hpt.musterChange = false ∧ State.reset.hpt.noticesLost = false
  ∧ State.reset.attentionLine = false

/-! ### Route Table Unit (01) -/

/-- R6 to R8: the pace factor of each kind, crowd level and smoke flag, and its bounds; the leg cost of a base length and a pace
factor, its bounds, and that nothing overflows; a base length from the profile lies in 1 to 1023. -/
def Obligations.PaceFactorAndLegCost : Prop :=
  (∀ (crowd : Nat) (smoke : Bool),
      paceFactor .corridor crowd smoke = 16 + 4 * crowd + (if smoke then 64 else 0)
      ∧ paceFactor .doorway crowd smoke = 20 + 4 * crowd + (if smoke then 64 else 0)
      ∧ paceFactor .outerDeck crowd smoke = 18 + 4 * crowd + (if smoke then 64 else 0)
      ∧ paceFactor .lift crowd smoke = 24 + 4 * crowd + (if smoke then 64 else 0)
      ∧ paceFactor .stairDown crowd smoke = 32 + 4 * crowd + (if smoke then 64 else 0)
      ∧ paceFactor .stairUp crowd smoke = 48 + 4 * crowd + (if smoke then 64 else 0))
  ∧ (∀ (k : LegKind) (crowd : Nat) (smoke : Bool), crowd ≤ 7 →
      16 ≤ paceFactor k crowd smoke ∧ paceFactor k crowd smoke ≤ 140)
  ∧ (∀ L p : Nat, 1 ≤ L → L ≤ 1023 → 16 ≤ p → p ≤ 140 →
      legCost L p = (L * p + 8) / 16 ∧ 1 ≤ legCost L p ∧ legCost L p ≤ 8951
      ∧ L * p ≤ 143220 ∧ L * p + 8 ≤ 143228 ∧ L * p + 8 < 2 ^ 18
      ∧ legCost 1 16 = 1 ∧ legCost 1023 140 = 8951)
  ∧ (∀ (bytes : List Byte) (l : LegIx) (f : LegStatic), (readProfile bytes).legs[l] = some f → 1 ≤ f.length ∧ f.length ≤ 1023)

/-- R12 and R13: the candidate via a leg, by the first step that applies, saturated at the horizon. -/
def Obligations.LegCandidateByFirstStep : Prop :=
  ∀ (horizon : Nat) (r : LegRecord) (p : LegPace) (a : Cost),
    ((r.fixed = none ∨ r.link = .silent ∨ r.barred = true ∨ (r.link = .up ∧ r.passable = false)) →
      legCandidate horizon r (some p) a = .unreachable)
    ∧ ((r.fixed.isSome = true ∧ r.barred = false ∧ (r.link = .unheard ∨ (r.link = .up ∧ r.passable = true))) →
      (a = .unknown → legCandidate horizon r (some p) a = .unknown)
      ∧ (a = .unreachable → legCandidate horizon r (some p) a = .unreachable)
      ∧ ∀ n, a = .finite n →
          (horizon < n + p.cost → legCandidate horizon r (some p) a = .unreachable)
          ∧ (n + p.cost ≤ horizon → legCandidate horizon r (some p) a = .finite (n + p.cost)))

/-- R15 to R17: with no finite candidate, NONE and the sentinel; else M displaces the current best leg only when its candidate is
not finite or is beaten by more than the margin. -/
def Obligations.BestSelectionKeepsCurrentWithinMargin : Prop :=
  ∀ (margin : Nat) (cands : Vector Cost 6) (anchor : Option Nat) (cur : WayOut),
    ((∀ w c, ¬ isWay cands anchor w c) →
      ((∃ l : LegIx, cands[l] = .unknown) → select margin cands anchor cur = (.none, .unknown))
      ∧ ((∀ l : LegIx, cands[l] = .unreachable) → select margin cands anchor cur = (.none, .unreachable)))
    ∧ ((∃ w c, isWay cands anchor w c) →
      ∃ w m, IsLowest cands anchor w m
        ∧ (m ≤ 60000 → margin ≤ 255 → m + margin ≤ 60255)
        ∧ ((∀ c, ¬ isWay cands anchor cur c) → select margin cands anchor cur = (w, .finite m))
        ∧ ∀ c, isWay cands anchor cur c →
            (m + margin < c → select margin cands anchor cur = (w, .finite m))
            ∧ (c ≤ m + margin → select margin cands anchor cur = (cur, .finite c)))

/-- R12 and R18 to R21. A recompute selects best leg and best cost by R15 to R17 from the candidates of R12; one that moves neither changes
nothing, any other writes them and sets both changed flags, and each destination that moved is reported to the ADU for each port and to
the FCU, in the order recomputed. An entry so recomputed has a best leg that is configured, not SILENT, not barred and passable (an
UNHEARD leg, its advertised costs UNKNOWN until it is heard, is none), or HERE with its anchor, or NONE with a sentinel. That reports
stand at the tail of one list of hand-offs is log 2. -/
def Obligations.RecomputeSelectsFlagsAndReports : Prop :=
  (∀ (env : RouteEnv) (paces : Vector (Option LegPace) 6) (e : Entry),
    let new := select env.margin (tabulate (fun l => legCandidate env.horizon env.legs[l] paces[l] e.adv[l])) e.anchor e.best
    reselect env paces e = new
    ∧ (new = (e.best, e.cost) → recomputeEntry env paces e = e)
    ∧ (new ≠ (e.best, e.cost) → recomputeEntry env paces e
        = { e with best := new.1, cost := new.2, changedDA := true, changedDB := true }))
  ∧ (∀ (s : State) (ds : List DestIx), ds.Nodup → ∃ table : Vector Entry 64,
      s.recompute ds = { s with
        rtu := { s.rtu with table := table }
        handoffs := s.handoffs ++ movedReports s.routeEnv s.rtu.legs (fun d => s.rtu.table[d]) ds }
      ∧ ∀ d : DestIx, table[d] = if d ∈ ds then recomputeEntry s.routeEnv s.rtu.legs s.rtu.table[d] else s.rtu.table[d])
  ∧ ∀ (env : RouteEnv) (paces : Vector (Option LegPace) 6) (e : Entry),
    (∃ l : LegIx, (recomputeEntry env paces e).best = .leg l
        ∧ env.legs[l].fixed.isSome = true ∧ env.legs[l].link ≠ .silent ∧ env.legs[l].barred = false
        ∧ (env.legs[l].passable = true ∨ (env.legs[l].link = .unheard ∧ e.adv[l] ≠ .unknown))
        ∧ (recomputeEntry env paces e).cost = legCandidate env.horizon env.legs[l] paces[l] e.adv[l])
    ∨ (∃ a, (recomputeEntry env paces e).best = .here ∧ (recomputeEntry env paces e).anchor = some a
        ∧ (recomputeEntry env paces e).cost = .finite a)
    ∨ ((recomputeEntry env paces e).best = .none
        ∧ ((recomputeEntry env paces e).cost = .unknown ∨ (recomputeEntry env paces e).cost = .unreachable))

/-- R10, R19 and R21, ADVERTISED_COST_WRITE: on a configured leg in RUNNING the value is stored by the table and the destination is
recomputed, with its reports when it moved; nothing else of the table changes. On an unconfigured leg nothing is acted on. -/
def Obligations.AdvertisedCostWriteStoresAndRecomputes : Prop :=
  ∀ (s : State) (l : LegIx) (d : DestIx) (v : Cost), s.running = true →
    let taken := s.handoffs.erase (.advertisedCostWrite l d v)
    (legReady s l →
      Completes (exec (.advertisedCostWrite l d v) s) (fun t => ∃ stored : Cost,
        storesAs s.pfl.profile.horizon v stored
        ∧ (let e : Entry := { s.rtu.table[d] with adv := setAt s.rtu.table[d].adv l stored }
           t.rtu.table[d] = recomputeEntry s.routeEnv s.rtu.legs e
           ∧ t.handoffs = taken ++ movedReports s.routeEnv s.rtu.legs (fun _ => e) [d])
        ∧ (∀ d' : DestIx, d' ≠ d → t.rtu.table[d'] = s.rtu.table[d'])
        ∧ t.rtu.legs = s.rtu.legs ∧ Frame.only [.rtu, .handoffs] s t))
    ∧ (s.lgm.legs[l].fixed = none →
      Completes (exec (.advertisedCostWrite l d v) s) (fun t => t.handoffs = taken ∧ Frame.only [.handoffs] s t))

/-- R9 and R11, LEG_REPORT for a configured leg in RUNNING: the leg cost is formed anew on a change of crowd or smoke; a SILENT leg's
advertised costs become UNKNOWN; a change of link state, passability or leg cost recomputes all 64 destinations in order, each that
moved reported (R20, R21), any other none. That
taking a hand-off removes it from the list is log 2. -/
def Obligations.LegReportFormsCostForgetsAndRecomputes : Prop :=
  ∀ (s : State) (r : LegReport) (f : LegStatic) (old : LegPace), s.running = true →
    s.lgm.legs[r.leg].fixed = some f → s.rtu.legs[r.leg] = some old →
    Completes (exec (.legReport r) s) (fun t =>
      let pace := paceFactor f.kind s.lgm.legs[r.leg].crowd s.lgm.legs[r.leg].smoke
      let new : LegPace := if r.conditions then { pace := pace, cost := legCost f.length pace } else old
      let kept : DestIx → Entry := fun d =>
        if r.link = some .silent then { s.rtu.table[d] with adv := setAt s.rtu.table[d].adv r.leg .unknown } else s.rtu.table[d]
      t.rtu.legs[r.leg] = some new
      ∧ (∀ l : LegIx, l ≠ r.leg → t.rtu.legs[l] = s.rtu.legs[l])
      ∧ ((r.link ≠ none ∨ r.passability = true ∨ new.cost ≠ old.cost) →
          (∀ d : DestIx, t.rtu.table[d] = recomputeEntry s.routeEnv t.rtu.legs (kept d))
          ∧ t.handoffs = s.handoffs.erase (.legReport r) ++ movedReports s.routeEnv t.rtu.legs kept (indices 64))
      ∧ (r.link = none → r.passability = false → new.cost = old.cost →
          (∀ d : DestIx, t.rtu.table[d] = kept d) ∧ t.handoffs = s.handoffs.erase (.legReport r))
      ∧ Frame.only [.rtu, .handoffs] s t)

/-- R4, RTU_PROFILE_LOAD after the LGM's: leg costs with crowd 0 and smoke clear, anchors in list order with the first for a destination
kept, and a full recompute. That the load waits for the LGM's is log 22. -/
def Obligations.RtuLoadFormsCostsAndInstallsAnchors : Prop :=
  ∀ s : State, s.running = true → .rtuProfileLoad ∈ s.handoffs → .lgmProfileLoad ∉ s.handoffs →
    (∀ d : DestIx, s.rtu.table[d].anchor = none) →
    Completes (exec .rtuProfileLoad s) (fun t =>
      (∀ l : LegIx, t.rtu.legs[l] = s.pfl.profile.legs[l].map (fun f =>
        { pace := paceFactor f.kind 0 false, cost := legCost f.length (paceFactor f.kind 0 false) }))
      ∧ (let given : DestIx → Entry := fun d =>
           { s.rtu.table[d] with anchor := (s.pfl.profile.anchors.find? (fun a => a.1 == d.val)).map (·.2) }
         (∀ d : DestIx, t.rtu.table[d] = recomputeEntry s.routeEnv t.rtu.legs (given d))
         ∧ t.handoffs = s.handoffs.erase .rtuProfileLoad ++ movedReports s.routeEnv t.rtu.legs given (indices 64))
      ∧ Frame.only [.rtu, .handoffs] s t)

/-! ### Leg Monitor (02) -/

/-- R45 and R46. A configured leg is barred by a closed door, and during ALERT, PROCEED or HOLD by being a LIFT or leading into a
closed zone; it is passable when it is UP and not barred; an unconfigured leg is neither (R32). An event makes a report of a leg
exactly when its link state, barred, passable, crowd level or smoke moved, and the report carries what moved. -/
def Obligations.LegEvaluationAndItsReport : Prop :=
  (∀ (s : State) (r : LegRecord),
      (r.fixed = none → s.evaluated r = { r with barred := false, passable := false })
      ∧ ∀ f : LegStatic, r.fixed = some f →
        ((s.evaluated r).barred = true ↔
          (r.localDoor = true ∨ r.remoteDoor = true)
            ∨ ((s.muc.phase = .alert ∨ s.muc.phase = .proceed ∨ s.muc.phase = .hold)
                ∧ (f.kind = .lift ∨ f.farZone ∈ s.muc.zones)))
        ∧ ((s.evaluated r).passable = true ↔ r.link = .up ∧ (s.evaluated r).barred = false)
        ∧ s.evaluated r = { r with barred := (s.evaluated r).barred, passable := (s.evaluated r).passable })
  ∧ ∀ (l : LegIx) (old new : LegRecord),
      (legChange l old new = none ↔
        new.link = old.link ∧ new.barred = old.barred ∧ new.passable = old.passable ∧ new.crowd = old.crowd ∧ new.smoke = old.smoke)
      ∧ ∀ r, legChange l old new = some r →
          r.leg = l ∧ (r.link = none ↔ new.link = old.link) ∧ (∀ k, r.link = some k → k = new.link)
          ∧ (r.passability = false ↔ new.barred = old.barred ∧ new.passable = old.passable)
          ∧ (r.conditions = false ↔ new.crowd = old.crowd ∧ new.smoke = old.smoke)

/-- R34, LGM_PROFILE_LOAD: the six legs installed UNHEARD with their doors sampled and evaluated without a report, and one door
CONDITION frame for each used door input, numbered in ascending leg index (the order among the legs is log 41). That the lines keep the
levels the outside gave them is log 24. -/
def Obligations.LgmLoadInstallsSamplesAndAnnounces : Prop :=
  ∀ s : State, s.running = true → .lgmProfileLoad ∈ s.handoffs →
    Completes (exec .lgmProfileLoad s) (fun t =>
      let used : LegIx → Bool := fun l => (s.pfl.profile.legs[l]).any (·.doorUsed)
      let me := s.pfl.profile.nodeId
      let number : LegIx → Word := fun l => BitVec.ofNat 16 (((indices 6).filter (fun j => used j && j ≤ l)).length)
      let door : LegIx → Byte → ConditionBody := fun l neighbour =>
        { origin := me, seq := s.lgm.condSeq + number l, end1 := me, end2 := neighbour, doorClosed := s.lgm.doors[l].closed,
          smoke := false, crowdValid := false, crowd := 0 }
      (∀ l : LegIx, t.lgm.legs[l] = s.evaluated { LegRecord.initial with
          fixed := s.pfl.profile.legs[l], localDoor := used l && s.lgm.doors[l].closed })
      ∧ (∀ l : LegIx, t.lgm.doors[l] = { closed := s.lgm.doors[l].closed, wait := false })
      ∧ t.lgm.condSeq = s.lgm.condSeq + BitVec.ofNat 16 (((indices 6).filter used).length)
      ∧ (∀ (l : LegIx) (f : LegStatic), s.pfl.profile.legs[l] = some f → f.doorUsed = true →
          ((t.dlc.ports.get f.port).condLeg[l].unsent.map (·.item))
            = some { hop := 0, sender := me, body := .condition (door l f.neighbour) })
      ∧ t.handoffs = s.handoffs.erase .lgmProfileLoad
      ∧ Frame.only [.lgm, .dlc, .handoffs] s t)

/-- R30, R35 to R37, R45 and R48, in RUNNING. ADVERT_ARRIVAL of a configured leg: an UP leg's silence timer starts again and nothing else
happens; any other comes UP, evaluated, its report in the arrival's own place among the hand-offs, ahead of the frame's writes, and one
that was SILENT gives a LEG_STATE notice. SILENCE_TIMER_EXPIRY of an UP leg: the leg becomes SILENT and not passable, barred evaluated
from the muster record (R45 against R36's "kept": log 43), the rest kept, with a LEG_STATE notice and a report ahead of an arrival not
yet taken and its writes. The places of the reports are log 3; that the expiry comes as a command is log 6. -/
def Obligations.ArrivalAndSilenceMoveTheLink : Prop :=
  (∀ (s : State) (l : LegIx) (f : LegStatic), s.running = true → s.lgm.legs[l].fixed = some f →
    Completes (exec (.advertArrival l) s) (fun t =>
      let old := s.lgm.legs[l]
      let heard : LegRecord := { old with link := .up, silenceRunning := true }
      (∀ l' : LegIx, l' ≠ l → t.lgm.legs[l'] = s.lgm.legs[l'])
      ∧ t.lgm.condSeq = s.lgm.condSeq ∧ t.lgm.doors = s.lgm.doors
      ∧ (old.link = .up → t.lgm.legs[l] = heard ∧ t.handoffs = s.handoffs.erase (.advertArrival l))
      ∧ (old.link ≠ .up → t.lgm.legs[l] = s.evaluated heard
          ∧ ∃ moved, (moved = true ↔ ¬ ((s.evaluated heard).barred = old.barred ∧ (s.evaluated heard).passable = old.passable))
              ∧ (let up := Instr.legReport { leg := l, link := some .up, passability := moved, conditions := false }
                 (.advertArrival l ∉ s.handoffs → t.handoffs = s.handoffs ++ [up])
                 ∧ ∀ pre post, .advertArrival l ∉ pre → s.handoffs = pre ++ .advertArrival l :: post →
                     t.handoffs = pre ++ up :: post))
      ∧ t.hpt = (if old.link = .silent then s.hpt.takeNotice (.legState l f.neighbour .up) else s.hpt)
      ∧ Frame.only [.lgm, .handoffs, .hpt] s t))
  ∧ ∀ (s : State) (l : LegIx) (f : LegStatic), s.running = true → s.lgm.legs[l].fixed = some f →
    s.lgm.legs[l].link = .up → s.lgm.legs[l].silenceRunning = true →
    Completes (exec (.silenceTimerExpiry l) s) (fun t =>
      let old := s.lgm.legs[l]
      t.lgm.legs[l] = { old with link := .silent, silenceRunning := false, barred := (s.evaluated old).barred, passable := false }
      ∧ (∀ l' : LegIx, l' ≠ l → t.lgm.legs[l'] = s.lgm.legs[l'])
      ∧ t.lgm.condSeq = s.lgm.condSeq ∧ t.lgm.doors = s.lgm.doors
      ∧ (∃ moved, (moved = true ↔ ¬ ((s.evaluated old).barred = old.barred ∧ old.passable = false))
          ∧ (let silent := Instr.legReport { leg := l, link := some .silent, passability := moved, conditions := false }
             (.advertArrival l ∉ s.handoffs → t.handoffs = s.handoffs ++ [silent])
             ∧ ∀ pre post, .advertArrival l ∉ pre → s.handoffs = pre ++ .advertArrival l :: post →
                 t.handoffs = pre ++ silent :: .advertArrival l :: post))
      ∧ t.hpt = s.hpt.takeNotice (.legState l f.neighbour .silent)
      ∧ Frame.only [.lgm, .handoffs, .hpt] s t)

/-- R38 to R40. DOOR_INPUT_CHANGE: a line that moves takes its level and, when its leg uses it in RUNNING, is waited for; one that does
not move changes nothing. DOOR_LEVEL_TAKEN of a used line that is waited for: a level equal to the local door only ends the wait;
another is taken, the leg evaluated and reported, and a door CONDITION frame with the next number waits in the leg's slot. That a line
that is not waited for keeps its level until it is used is log 24. -/
def Obligations.DoorInputIsWaitedForThenTaken : Prop :=
  (∀ (s : State) (l : LegIx) (closed : Bool),
      (s.lgm.doors[l].closed = closed → exec (.doorInputChange l closed) s = .next s)
      ∧ (s.lgm.doors[l].closed ≠ closed → Completes (exec (.doorInputChange l closed) s) (fun t =>
          t.lgm.doors[l].closed = closed
          ∧ (t.lgm.doors[l].wait = true ↔ s.running = true ∧ ∃ f, s.lgm.legs[l].fixed = some f ∧ f.doorUsed = true)
          ∧ (∀ l' : LegIx, l' ≠ l → t.lgm.doors[l'] = s.lgm.doors[l'])
          ∧ t.lgm.legs = s.lgm.legs ∧ t.lgm.condSeq = s.lgm.condSeq ∧ Frame.only [.lgm] s t)))
  ∧ ∀ (s : State) (l : LegIx) (f : LegStatic), s.running = true → s.lgm.legs[l].fixed = some f → f.doorUsed = true →
      s.lgm.doors[l].wait = true →
      Completes (exec (.doorLevelTaken l) s) (fun t =>
        let old := s.lgm.legs[l]
        let level := s.lgm.doors[l].closed
        let new := s.evaluated { old with localDoor := level }
        let body : ConditionBody :=
          { origin := s.pfl.profile.nodeId, seq := s.lgm.condSeq + 1, end1 := s.pfl.profile.nodeId, end2 := f.neighbour,
            doorClosed := level, smoke := old.smoke, crowdValid := false, crowd := 0 }
        (∀ l' : LegIx, t.lgm.doors[l'] = if l' = l then { closed := level, wait := false } else s.lgm.doors[l'])
        ∧ (∀ l' : LegIx, l' ≠ l → t.lgm.legs[l'] = s.lgm.legs[l'])
        ∧ (old.localDoor = level → t.lgm.legs = s.lgm.legs ∧ t.lgm.condSeq = s.lgm.condSeq ∧ Frame.only [.lgm] s t)
        ∧ (old.localDoor ≠ level → t.lgm.legs[l] = new ∧ t.lgm.condSeq = s.lgm.condSeq + 1
            ∧ (t.dlc.ports.get f.port).condLeg[l].unsent.map (·.item)
                = some { hop := 0, sender := s.pfl.profile.nodeId, body := .condition body }
            ∧ .condition s.pfl.profile.nodeId (s.lgm.condSeq + 1) ∈ t.dlc.ring
            ∧ t.dlc.ports.get (otherPort f.port) = s.dlc.ports.get (otherPort f.port)
            ∧ t.handoffs = s.handoffs ++ ((legChange l old new).map Instr.legReport).toList
            ∧ Frame.only [.lgm, .dlc, .handoffs] s t))

/-- R41, CONDITION_APPLY in RUNNING: a report of another origin sets remote door, smoke and, when valid, crowd and its timer on
each leg between its two ends, with one report for each leg it moved (their order is log 44); a report of this node's own changes no
leg. -/
def Obligations.ConditionAppliesToLegsBetweenItsEnds : Prop :=
  ∀ (s : State) (c : ConditionBody), s.running = true →
    (c.origin ≠ s.pfl.profile.nodeId → Completes (exec (.conditionApply c) s) (fun t =>
      let me := s.pfl.profile.nodeId
      let meets : LegRecord → Bool := fun r => r.fixed.any (fun f =>
        c.end1 != c.end2 && ((c.end1 == me && c.end2 == f.neighbour) || (c.end2 == me && c.end1 == f.neighbour)))
      let applied : LegRecord → LegRecord := fun r => s.evaluated { r with
        remoteDoor := c.doorClosed, smoke := c.smoke
        crowd := if c.crowdValid then min 7 c.crowd.toNat else r.crowd, crowdRunning := c.crowdValid || r.crowdRunning }
      (∀ l : LegIx, t.lgm.legs[l] = if meets s.lgm.legs[l] then applied s.lgm.legs[l] else s.lgm.legs[l])
      ∧ t.lgm.condSeq = s.lgm.condSeq ∧ t.lgm.doors = s.lgm.doors
      ∧ t.handoffs = s.handoffs.erase (.conditionApply c) ++ (indices 6).filterMap (fun l =>
          if meets s.lgm.legs[l] then (legChange l s.lgm.legs[l] (applied s.lgm.legs[l])).map Instr.legReport else none)
      ∧ Frame.only [.lgm, .handoffs] s t))
    ∧ (c.origin = s.pfl.profile.nodeId → Completes (exec (.conditionApply c) s) (fun t => Frame.only [.handoffs] s t))

/-- R43, R45, R46 and R116, in RUNNING. CROWD_LIFETIME_EXPIRY of a configured leg whose timer runs: crowd level 0 and the timer stopped,
with a crowd change report only when the level was above 0. MUSTER_REPORT_LGM and RETURN_TO_QUIET_LGM: every configured leg is evaluated
again from the muster record, with one report for each leg that moved, in ascending leg index (the order of the legs is log 44). -/
def Obligations.CrowdExpiryAndMusterEventsChangeLegs : Prop :=
  (∀ (s : State) (l : LegIx), s.running = true → s.lgm.legs[l].fixed.isSome = true → s.lgm.legs[l].crowdRunning = true →
    Completes (exec (.crowdLifetimeExpiry l) s) (fun t =>
      t.lgm.legs[l] = { s.lgm.legs[l] with crowd := 0, crowdRunning := false }
      ∧ (∀ l' : LegIx, l' ≠ l → t.lgm.legs[l'] = s.lgm.legs[l'])
      ∧ t.lgm.condSeq = s.lgm.condSeq ∧ t.lgm.doors = s.lgm.doors
      ∧ t.handoffs = s.handoffs ++ (if 0 < s.lgm.legs[l].crowd then
          [.legReport { leg := l, link := none, passability := false, conditions := true }] else [])
      ∧ Frame.only [.lgm, .handoffs] s t))
  ∧ ∀ (s : State) (i : Instr), s.running = true → (i = .musterReportLgm ∨ i = .returnToQuietLgm) →
    Completes (exec i s) (fun t =>
      let new : LegRecord → LegRecord := fun r => if r.fixed.isSome then s.evaluated r else r
      (∀ l : LegIx, t.lgm.legs[l] = new s.lgm.legs[l])
      ∧ t.lgm.condSeq = s.lgm.condSeq ∧ t.lgm.doors = s.lgm.doors
      ∧ t.handoffs = s.handoffs.erase i ++ (indices 6).filterMap (fun l =>
          (legChange l s.lgm.legs[l] (new s.lgm.legs[l])).map Instr.legReport)
      ∧ Frame.only [.lgm, .handoffs] s t)

/-! ### Deck Link Controller (03) -/

/-- R61 to R63 and R79: the bytes of every kind of frame with its check behind them, the fields an arrival is read as, the check bit by
bit, the fields of a LINK_DROP notice; and a frame of any kind, with hop 0 to 15, at most 8 zones and 16 entries, is read back as sent. -/
def Obligations.DeckLinkFrameLayouts : Prop :=
  let bit : Bool → Nat → Nat := fun b n => if b then n else 0
  (∀ (hop : Nat) (sender : Byte),
    let sent : FloodBody → List Byte := fun body => Frame.bytes { hop := hop, sender := sender, body := body }
    (∀ c, sent (.condition c) = withCheck ([2, natByte hop, sender, c.origin] ++ wordBytes c.seq ++ [c.end1, c.end2,
        natByte (bit c.doorClosed 1 + bit c.smoke 2 + bit c.crowdValid 4), c.crowd]))
    ∧ (∀ a, sent (.alarm a) = withCheck ([3, natByte hop, sender] ++ wordBytes a.epoch
        ++ [a.phaseCode, a.origin, natByte a.zones.length] ++ a.zones))
    ∧ (∀ c, sent (.clock c) = withCheck ([4, natByte hop, sender, c.origin] ++ wordBytes c.seq ++ [c.day] ++ wordBytes c.minute
        ++ [c.second]))
    ∧ (∀ g, sent (.programme g) = withCheck ([5, natByte hop, sender, g.origin] ++ wordBytes g.offer.id ++ [g.offer.revision]
        ++ wordBytes g.target ++ wordBytes g.mask ++ [g.offer.day] ++ wordBytes g.offer.start ++ wordBytes g.offer.stop
        ++ [g.offer.venue] ++ wordBytes g.offer.titlePage ++ [natByte (bit g.offer.cancelled 1 + bit g.offer.moved 2)])))
  ∧ (∀ f : AdvertFrame, advertFrameBytes f
      = withCheck ([1, 0, f.sender, f.block] ++ f.entries.flatMap (fun e => wordBytes e.cost ++ [e.via])))
  ∧ (∀ (b : List Byte) (f : AdvertFrame), readFrame b = some (.advert f) →
      f.sender = byteAt b 2 ∧ f.block = byteAt b 3 ∧ f.entries.length = 16
      ∧ ∀ i : Fin 16, f.entries[i.val]? = some { cost := wordAt b (4 + 3 * i.val), via := byteAt b (6 + 3 * i.val) })
  ∧ (∀ (b : List Byte) (f : Frame), readFrame b = some (.flooded f) →
      let byte : Nat → Byte := byteAt b
      let condition : ConditionBody :=
        { origin := byte 3, seq := wordAt b 4, end1 := byte 6, end2 := byte 7, doorClosed := (byte 8).getLsbD 0,
          smoke := (byte 8).getLsbD 1, crowdValid := (byte 8).getLsbD 2, crowd := byte 9 }
      let alarm : AlarmBody :=
        { epoch := wordAt b 3, phaseCode := byte 5, origin := byte 6, zones := (b.drop 8).take (byte 7).toNat }
      let clock : ClockBody := { origin := byte 3, seq := wordAt b 4, day := byte 6, minute := wordAt b 7, second := byte 9 }
      let offer : Offer :=
        { id := wordAt b 4, revision := byte 6, day := byte 11, start := wordAt b 12, stop := wordAt b 14, venue := byte 16,
          titlePage := wordAt b 17, cancelled := (byte 19).getLsbD 0, moved := (byte 19).getLsbD 1 }
      f.hop = (byte 1).toNat ∧ f.sender = byte 2 ∧ (byte 0 = 2 → f.body = .condition condition)
      ∧ (byte 0 = 3 → f.body = .alarm alarm) ∧ (byte 0 = 4 → f.body = .clock clock)
      ∧ (byte 0 = 5 → f.body = .programme { origin := byte 3, target := wordAt b 7, mask := wordAt b 9, offer := offer }))
  ∧ (∀ (b : List Byte) (x : Byte) (w : Word),
      wordBytes w = [(w >>> 8).setWidth 8, w.setWidth 8] ∧ withCheck b = b ++ wordBytes (crc16 b) ∧ crc16 [] = 0xFFFF#16
      ∧ crc16 (b ++ [x]) = [7, 6, 5, 4, 3, 2, 1, 0].foldl
          (fun (r : Word) i => if r.msb != x.getLsbD i then (r <<< 1) ^^^ 0x1021#16 else r <<< 1) (crc16 b)
      ∧ (checkGood b = true ↔ 2 ≤ b.length ∧ wordAt b (b.length - 2) = crc16 (b.take (b.length - 2))))
  ∧ (∀ (p : Port) (k : DropCause) (f : Frame), dropNotice p k f = match f.body with
      | .condition c => .linkDrop p 2 k c.origin c.seq
      | .alarm a => .linkDrop p 3 k a.origin a.epoch
      | .clock c => .linkDrop p 4 k c.origin c.seq
      | .programme g => .linkDrop p 5 k g.origin g.offer.id)
  ∧ (∀ f : Frame, f.hop ≤ 15 → (∀ a, f.body = .alarm a → a.zones.length ≤ 8) → readFrame f.bytes = some (.flooded f))
  ∧ ∀ f : AdvertFrame, f.entries.length = 16 → readFrame (advertFrameBytes f) = some (.advert f)

/-- R63 and R64, FRAME_ARRIVAL: a frame that fails its check, is short, of another kind or length, above hop 15, or that arrives in
STARTING is discarded with no effect. Any other is read, and in RUNNING is discarded as this node's own when it was heard while
sending, when its sender is this node, or when it is flooded, no ALARM, and of this node's origin; an ALARM of this node's origin
goes to the MUC. That hearing its own transmission is an operand is log 23. -/
def Obligations.ArrivalDiscardsBadAndOwnFrames : Prop :=
  ∀ (s : State) (p : Port) (whileSending : Bool) (b : List Byte),
    let kind := (byteAt b 0).toNat
    let count := (byteAt b 7).toNat
    let wrongLength := (kind = 1 ∧ b.length ≠ 54) ∨ ((kind = 2 ∨ kind = 4) ∧ b.length ≠ 12)
      ∨ (kind = 3 ∧ (b.length ≠ 10 + count ∨ 8 < count)) ∨ (kind = 5 ∧ b.length ≠ 22)
    let bad := checkGood b = false ∨ b.length < 6 ∨ kind < 1 ∨ 5 < kind ∨ wrongLength ∨ 15 < (byteAt b 1).toNat
    (bad ∨ s.pfl.node = .starting → exec (.frameArrival p whileSending b) s = .next s)
    ∧ (¬ bad → ∃ a, readFrame b = some a
        ∧ (s.pfl.node = .fallback → exec (.frameArrival p whileSending b) s = .next (s.arriveFallback p whileSending a))
        ∧ (s.pfl.node = .running →
            exec (.frameArrival p whileSending b) s = .next (s.arriveRunning p whileSending a)
            ∧ (whileSending = true ∨ byteAt b 2 = s.pfl.profile.nodeId → s.arriveRunning p whileSending a = s)
            ∧ ∀ f, a = .flooded f →
                (f.body.isAlarm = false → floodOrigin f.body = s.pfl.profile.nodeId → s.arriveRunning p whileSending a = s)
                ∧ (∀ m, f.body = .alarm m → whileSending = false → byteAt b 2 ≠ s.pfl.profile.nodeId →
                    s.arriveRunning p whileSending a = s.handOff (.alarmReceipt p f.hop m))))

/-- R65 to R68 and R71, FRAME_ARRIVAL in RUNNING of a frame of another node: an ADVERT goes to the ADU; a CONDITION, CLOCK or PROGRAMME
whose key is in relay memory is discarded; a new one has its key entered, goes to its owner (a PROGRAMME when target and zone address
agree wherever the mask has a 1), and is placed on the other port with hop h + 1 and this node as sender when the relay limit allows.
The key is the kind, the origin and the sequence, or the item id and revision. That hearing its own transmission is an operand is log 23. -/
def Obligations.ArrivalIsDispatchedAndRelayed : Prop :=
  (∀ (c : ConditionBody) (k : ClockBody) (g : ProgrammeBody), floodKey (.condition c) = .condition c.origin c.seq
    ∧ floodKey (.clock k) = .clock k.origin k.seq ∧ floodKey (.programme g) = .programme g.origin g.offer.id g.offer.revision)
  ∧ ∀ (s : State) (p : Port) (b : List Byte), s.pfl.node = .running →
    (∀ f : AdvertFrame, readFrame b = some (.advert f) → f.sender ≠ s.pfl.profile.nodeId →
      exec (.frameArrival p false b) s = .next (s.handOff (.advertReceipt p f)))
    ∧ ∀ f : Frame, readFrame b = some (.flooded f) → f.body.isAlarm = false → f.sender ≠ s.pfl.profile.nodeId →
        floodOrigin f.body ≠ s.pfl.profile.nodeId →
      (floodKey f.body ∈ s.dlc.ring → exec (.frameArrival p false b) s = .next s)
      ∧ (floodKey f.body ∉ s.dlc.ring → Completes (exec (.frameArrival p false b) s) (fun t =>
          let copy : Frame := { hop := f.hop + 1, sender := s.pfl.profile.nodeId, body := f.body }
          let placed := (s.dlc.ports.get (otherPort p)).place .flood copy s.dlc.stamp
          t.dlc.ring = (if s.dlc.ring.length < 16 then s.dlc.ring else s.dlc.ring.tail) ++ [floodKey f.body]
          ∧ (∀ c, f.body = .condition c → t.handoffs = s.handoffs ++ [.conditionApply c])
          ∧ (∀ c, f.body = .clock c → t.handoffs = s.handoffs ++ [.clockFrameReceipt c])
          ∧ (∀ g, f.body = .programme g →
              ((∀ i, i < 16 → g.mask.getLsbD i = true → g.target.getLsbD i = s.pfl.profile.zone.getLsbD i) →
                t.handoffs = s.handoffs ++ [.programmeOffer g.offer])
              ∧ ((∃ i, i < 16 ∧ g.mask.getLsbD i = true ∧ g.target.getLsbD i ≠ s.pfl.profile.zone.getLsbD i) →
                t.handoffs = s.handoffs))
          ∧ t.dlc.ports.get p = s.dlc.ports.get p
          ∧ (f.hop + 1 ≤ s.pfl.profile.relayLimit → t.dlc.ports.get (otherPort p) = placed.1
              ∧ t.hpt = (match placed.2 with
                  | some out => s.hpt.takeNotice (dropNotice (otherPort p) .displaced out)
                  | none => s.hpt))
          ∧ (s.pfl.profile.relayLimit < f.hop + 1 → t.dlc.ports = s.dlc.ports ∧ t.hpt = s.hpt)
          ∧ Frame.only [.dlc, .handoffs, .hpt] s t))

/-- R66 and R80, FRAME_ARRIVAL in FALLBACK: an ADVERT, a frame heard while sending, and a flooded frame whose key is present change
nothing; any other, an ALARM too (its key: origin, epoch, phase), has its key entered, goes to no owner, and is placed on the other port
with sender 0 when h + 1 is at most 8, with no notice. That hearing its own transmission is an operand is log 23. -/
def Obligations.FallbackRelaysAndTellsNoOwner : Prop :=
  (∀ a : AlarmBody, floodKey (.alarm a) = .alarm a.origin a.epoch a.phaseCode)
  ∧ ∀ (s : State) (p : Port) (b : List Byte), s.pfl.node = .fallback →
    (∀ a, readFrame b = some a → exec (.frameArrival p true b) s = .next s)
    ∧ (∀ f : AdvertFrame, readFrame b = some (.advert f) → exec (.frameArrival p false b) s = .next s)
    ∧ ∀ f : Frame, readFrame b = some (.flooded f) →
      (floodKey f.body ∈ s.dlc.ring → exec (.frameArrival p false b) s = .next s)
      ∧ (floodKey f.body ∉ s.dlc.ring → Completes (exec (.frameArrival p false b) s) (fun t =>
          t.dlc.ring = (if s.dlc.ring.length < 16 then s.dlc.ring else s.dlc.ring.tail) ++ [floodKey f.body]
          ∧ t.dlc.ports.get p = s.dlc.ports.get p
          ∧ (f.hop + 1 ≤ 8 → t.dlc.ports.get (otherPort p)
              = ((s.dlc.ports.get (otherPort p)).place .flood { hop := f.hop + 1, sender := 0, body := f.body } s.dlc.stamp).1)
          ∧ (8 < f.hop + 1 → t.dlc.ports = s.dlc.ports)
          ∧ Frame.only [.dlc] s t))

/-- R72, R73 and R75: a frame placed in a slot of its own stands unsent with count 0, at the waiting position of the unsent frame it
replaces or of the frame in flight it stands behind; the PROGRAMME queue takes it at the tail, and with 8 held loses the oldest unsent;
in the CONDITION relay slots it replaces the unsent frame of the same origin and endpoints, else stands behind such a frame in flight,
else takes an empty slot, and with all four unsent the longest waiting is lost. That a frame with only such a frame in flight stands
behind it, and the empty slot taken, are the model's reading (log 12, 13). -/
def Obligations.PlacingReplacesWaitsOrDisplaces : Prop :=
  (∀ (sl : Slot Frame) (fr : Frame) (fresh : Nat),
    (sl.place fr fresh).inFlight = sl.inFlight
    ∧ (∀ w, sl.unsent = some w → (sl.place fr fresh).unsent = some { item := fr, attempts := 0, pos := w.pos })
    ∧ (∀ w, sl.unsent = none → sl.inFlight = some w →
        (sl.place fr fresh).unsent = some { item := fr, attempts := 0, pos := w.pos })
    ∧ (sl.unsent = none → sl.inFlight = none →
        (sl.place fr fresh).unsent = some { item := fr, attempts := 0, pos := fresh }))
  ∧ (∀ (q : List (Held Frame)) (flying : Bool) (fr : Frame) (fresh : Nat),
    let new : Held Frame := { item := fr, attempts := 0, pos := fresh }
    (q.length < 8 → placeQueue q flying fr fresh = (q ++ [new], none))
    ∧ (q.length = 8 → ∀ h, q.head? = some h →
        (flying = false → placeQueue q flying fr fresh = (q.tail ++ [new], some h.item))
        ∧ (flying = true → ∀ o, q.tail.head? = some o → placeQueue q flying fr fresh = (h :: q.tail.tail ++ [new], some o.item))))
  ∧ ∀ (v : Vector (Slot Frame) 4) (c : ConditionBody) (fr : Frame) (fresh : Nat),
    let same : Option (Held Frame) → Bool := fun w => w.any (fun h => match h.item.body with
      | .condition d => d.origin == c.origin && ((d.end1 == c.end1 && d.end2 == c.end2) || (d.end1 == c.end2 && d.end2 == c.end1))
      | _ => false)
    let goesTo : Fin 4 → Prop := fun i => placeRelay v c fr fresh = (setAt v i (v[i].place fr fresh), none)
    ((∃ i : Fin 4, same v[i].unsent = true) → ∃ i : Fin 4, same v[i].unsent = true ∧ goesTo i)
    ∧ ((∀ i : Fin 4, same v[i].unsent = false) →
      ((∃ i : Fin 4, v[i].unsent = none ∧ same v[i].inFlight = true) →
        ∃ i : Fin 4, v[i].unsent = none ∧ same v[i].inFlight = true ∧ goesTo i)
      ∧ ((∀ i : Fin 4, v[i].unsent = none → same v[i].inFlight = false) →
        ((∃ i : Fin 4, v[i] = Slot.vacant) → ∃ i : Fin 4, v[i] = Slot.vacant ∧ goesTo i)
        ∧ ((∀ i : Fin 4, v[i].unsent.isSome = true) →
          ∃ (i : Fin 4) (w : Held Frame), v[i].unsent = some w
            ∧ (∀ (j : Fin 4) (x : Held Frame), v[j].unsent = some x → w.pos ≤ x.pos)
            ∧ (placeRelay v c fr fresh).2 = some w.item
            ∧ (∀ j : Fin 4, j ≠ i → (placeRelay v c fr fresh).1[j] = v[j])
            ∧ ((placeRelay v c fr fresh).1[i].unsent.map (·.item)) = some fr)))

/-- R76 and R89: the transmit choice is a slot with an eligible frame of the first row that has one, an urgent ADVERT only while the gap
timer does not run: the longest waiting among CONDITION slots and among periodic ADVERT slots, the lowest block among urgent ones. There
is none exactly when no slot may be chosen. That waiting positions are numbers of placing is log 14. -/
def Obligations.TransmitChoiceIsFirstRow : Prop :=
  ∀ (lp : LinkPort) (gap : Bool),
    (lp.choose gap = none ↔ ∀ n, ¬ lp.maySend gap n)
    ∧ ∀ n, lp.choose gap = some n →
        lp.maySend gap n
        ∧ ∀ m, lp.maySend gap m →
            lp.row n ≤ lp.row m
            ∧ (lp.row m = lp.row n → lp.row n = 2 ∨ lp.row n = 6 →
                ∀ x y, lp.eligiblePos n = some x → lp.eligiblePos m = some y → x ≤ y)
            ∧ (lp.row m = lp.row n → lp.row n = 4 → ∀ b c, n = .advert b → m = .advert c → b ≤ c)

/-- R76, R75, R62 and R90, TRANSMISSION_START: a READY transmitter sends the chosen slot's frame, which goes in flight with its check;
an ADVERT block is built from the route table as it stands, and its changed flags and urgent flag for the port are cleared and the gap
timer started. Every other slot of the port keeps what it holds. With no choice, or a transmitter that is not READY, nothing changes.
That the line is idle is the sender's to say (log 30). -/
def Obligations.TransmissionStartSendsTheChoice : Prop :=
  ∀ (s : State) (p : Port),
    let lp := s.dlc.ports.get p
    let choice := lp.choose (s.adu.ports.get p).gapRunning
    (lp.tx ≠ .ready ∨ choice = none → exec (.transmissionStart p) s = .next s)
    ∧ ∀ n, lp.tx = .ready → choice = some n → Completes (exec (.transmissionStart p) s) (fun t =>
        let new := t.dlc.ports.get p
        t.dlc.ports.get (otherPort p) = s.dlc.ports.get (otherPort p) ∧ t.dlc.ring = s.dlc.ring ∧ otherSlots n lp new
        ∧ (isFloodSlot n → ∀ w, (lp.floodSlot n).unsent = some w →
            new.tx = .sending n w.item.bytes ∧ new.floodSlot n = { inFlight := some w, unsent := none } ∧ Frame.only [.dlc] s t)
        ∧ (n = .programme → ∀ w, lp.programme.head? = some w →
            new.tx = .sending n w.item.bytes ∧ new.programme = lp.programme ∧ new.progInFlight = true ∧ Frame.only [.dlc] s t)
        ∧ (∀ k, n = .advert k →
            (∃ f : AdvertFrame, new.tx = .sending n (advertFrameBytes f) ∧ f.sender = s.pfl.profile.nodeId
              ∧ f.block = natByte k.val ∧ f.entries.length = 16
              ∧ ∀ i : Fin 16, f.entries[i.val]? = some
                  { cost := costWord s.rtu.table[blockDest k i].cost, via := viaNode s.lgm.legs s.rtu.table[blockDest k i].best })
            ∧ new.advert[k] = { inFlight := lp.advert[k].unsent, unsent := none }
            ∧ (t.adu.ports.get p).urgent[k] = false ∧ (t.adu.ports.get p).gapRunning = true
            ∧ t.adu.ports.get (otherPort p) = s.adu.ports.get (otherPort p)
            ∧ (∀ d : DestIx, t.rtu.table[d] = if d.val / 16 = k.val then clearChanged p s.rtu.table[d] else s.rtu.table[d])
            ∧ t.rtu.legs = s.rtu.legs ∧ Frame.only [.dlc, .adu, .rtu] s t))

/-- R75, R77, R79 and R91, COLLISION in RUNNING of the frame a transmitter is sending. With a newer frame behind it the slot keeps that
one, with no notice (the backoff's count is then a free value, log 8). Else the frame returns with its count raised, and the backoff is
the class base plus (node id × 7 + count × 13) mod 16; at count 16 it is dropped with a LINK_DROP notice, and an ADVERT is requested
again as urgent. A backoff of 0 slots leaves the transmitter READY. In FALLBACK, where every flooded kind but no ADVERT is sent (R80,
R94), the frame goes the same way with no notice, after a backoff whose node id is a free value (log 9). Every other slot of the port
keeps what it holds. The mark of an ADVERT request standing behind a collided one is log 33. -/
def Obligations.CollisionReturnsAbandonsOrDrops : Prop :=
  (classBase .alarm = 0 ∧ (∀ l, classBase (.condLeg l) = 4) ∧ (∀ i, classBase (.condRelay i) = 4) ∧ classBase .clock = 4
    ∧ (∀ b, classBase (.advert b) = 8) ∧ classBase .programme = 8)
  ∧ (∀ (s : State) (p : Port) (n : SlotName) (bytes : List Byte), s.pfl.node = .fallback → (s.dlc.ports.get p).tx = .sending n bytes →
    (∀ k, n ≠ .advert k) →
    Completes (exec (.collision p) s) (fun t =>
      let lp := s.dlc.ports.get p
      let new := t.dlc.ports.get p
      t.dlc.ports.get (otherPort p) = s.dlc.ports.get (otherPort p) ∧ t.dlc.ring = s.dlc.ring ∧ otherSlots n lp new
      ∧ Frame.only [.dlc, .freeCount] s t
      ∧ (new.tx = .ready ∨ ∃ k, new.tx = .backoff k ∧ classBase n ≤ k ∧ k ≤ classBase n + 15)
      ∧ (isFloodSlot n → ∀ w, (lp.floodSlot n).inFlight = some w →
          (∀ x, (lp.floodSlot n).unsent = some x → new.floodSlot n = { inFlight := none, unsent := some x })
          ∧ ((lp.floodSlot n).unsent = none → new.floodSlot n =
              { inFlight := none, unsent := if w.attempts + 1 < 16 then some { w with attempts := w.attempts + 1 } else none }))
      ∧ (n = .programme → ∀ w rest, lp.programme = w :: rest → new.progInFlight = false
          ∧ new.programme = if w.attempts + 1 < 16 then { w with attempts := w.attempts + 1 } :: rest else rest)))
  ∧ ∀ (s : State) (p : Port) (n : SlotName) (bytes : List Byte), s.pfl.node = .running → (s.dlc.ports.get p).tx = .sending n bytes →
    Completes (exec (.collision p) s) (fun t =>
      let lp := s.dlc.ports.get p
      let new := t.dlc.ports.get p
      let after : Nat → Prop := fun a =>
        let slots := classBase n + (s.pfl.profile.nodeId.toNat * 7 + a * 13) % 16
        (slots = 0 → new.tx = .ready) ∧ (0 < slots → new.tx = .backoff slots)
      t.dlc.ports.get (otherPort p) = s.dlc.ports.get (otherPort p) ∧ t.dlc.ring = s.dlc.ring ∧ otherSlots n lp new
      ∧ Frame.only [.dlc, .hpt, .adu, .freeCount] s t
      ∧ (isFloodSlot n →
          (∀ w x, (lp.floodSlot n).inFlight = some w → (lp.floodSlot n).unsent = some x →
            new.floodSlot n = { inFlight := none, unsent := some x } ∧ t.hpt = s.hpt ∧ t.adu = s.adu
            ∧ (new.tx = .ready ∨ ∃ k, new.tx = .backoff k ∧ classBase n ≤ k ∧ k ≤ classBase n + 15))
          ∧ ∀ w, (lp.floodSlot n).inFlight = some w → (lp.floodSlot n).unsent = none →
            after (w.attempts + 1) ∧ t.adu = s.adu
            ∧ (w.attempts + 1 < 16 →
                new.floodSlot n = { inFlight := none, unsent := some { w with attempts := w.attempts + 1 } } ∧ t.hpt = s.hpt)
            ∧ (16 ≤ w.attempts + 1 → new.floodSlot n = { inFlight := none, unsent := none }
                ∧ t.hpt = s.hpt.takeNotice (dropNotice p .attempts w.item)))
      ∧ (n = .programme → ∀ w rest, lp.programme = w :: rest →
          after (w.attempts + 1) ∧ new.progInFlight = false ∧ t.adu = s.adu
          ∧ (w.attempts + 1 < 16 → new.programme = { w with attempts := w.attempts + 1 } :: rest ∧ t.hpt = s.hpt)
          ∧ (16 ≤ w.attempts + 1 → new.programme = rest ∧ t.hpt = s.hpt.takeNotice (dropNotice p .attempts w.item)))
      ∧ (∀ k, n = .advert k →
          (∀ w x, lp.advert[k].inFlight = some w → lp.advert[k].unsent = some x →
            new.advert[k] = { inFlight := none, unsent := some x } ∧ t.hpt = s.hpt ∧ t.adu = s.adu)
          ∧ ∀ w, lp.advert[k].inFlight = some w → lp.advert[k].unsent = none →
            after (w.attempts + 1)
            ∧ (w.attempts + 1 < 16 → t.hpt = s.hpt ∧ t.adu = s.adu
                ∧ new.advert[k] = { inFlight := none, unsent := some { w with attempts := w.attempts + 1 } })
            ∧ (16 ≤ w.attempts + 1 → (t.adu.ports.get p).urgent[k] = true
                ∧ (∃ x, new.advert[k] = { inFlight := none, unsent := some { item := true, attempts := 0, pos := x } })
                ∧ t.hpt = s.hpt.takeNotice
                    (.linkDrop p 1 .attempts s.pfl.profile.nodeId (BitVec.ofNat 16 k.val)))))

/-- R77 and R78. BACKOFF_EXPIRY: a transmitter in BACKOFF becomes READY and nothing else changes. TRANSMISSION_COMPLETE: the frame in
flight leaves its slot, which keeps a frame placed meanwhile, and the transmitter becomes READY. That in any other transmitter state each
changes nothing is the model's choice: an expiry acts when its timer runs (log 6), and the end of a transmission is the sender's to say
(log 30). -/
def Obligations.BackoffEndsAndTransmissionCompletes : Prop :=
  ∀ (s : State) (p : Port),
    let lp := s.dlc.ports.get p
    (∀ k, lp.tx = .backoff k → Completes (exec (.backoffExpiry p) s) (fun t =>
      t.dlc.ports.get p = { lp with tx := .ready } ∧ t.dlc.ports.get (otherPort p) = s.dlc.ports.get (otherPort p)
      ∧ t.dlc.ring = s.dlc.ring ∧ t.dlc.stamp = s.dlc.stamp ∧ Frame.only [.dlc] s t))
    ∧ ((∀ k, lp.tx ≠ .backoff k) → exec (.backoffExpiry p) s = .next s)
    ∧ ((∀ n b, lp.tx ≠ .sending n b) → exec (.transmissionComplete p) s = .next s)
    ∧ ∀ n b, lp.tx = .sending n b → Completes (exec (.transmissionComplete p) s) (fun t =>
        let new := t.dlc.ports.get p
        new.tx = .ready ∧ t.dlc.ports.get (otherPort p) = s.dlc.ports.get (otherPort p)
        ∧ t.dlc.ring = s.dlc.ring ∧ t.dlc.stamp = s.dlc.stamp ∧ Frame.only [.dlc] s t
        ∧ (∀ m, isFloodSlot m → new.floodSlot m =
            if m = n then { inFlight := none, unsent := (lp.floodSlot m).unsent } else lp.floodSlot m)
        ∧ (∀ k : BlockIx, new.advert[k] =
            if n = .advert k then { inFlight := none, unsent := lp.advert[k].unsent } else lp.advert[k])
        ∧ (n = .programme → new.programme = lp.programme.tail ∧ new.progInFlight = false)
        ∧ (n ≠ .programme → new.programme = lp.programme ∧ new.progInFlight = lp.progInFlight))

/-! ### Advert Unit (04) -/

/-- R93: the conversion of an entry's cost and via node id, by the first row that applies. -/
def Obligations.AdvertEntryConversion : Prop :=
  ∀ (me via : Byte) (c : Word),
    (60001 ≤ c.toNat → c.toNat ≤ 65533 → convertEntry me { cost := c, via := via } = .unreachable)
    ∧ ((c.toNat ≤ 60000 ∨ 65534 ≤ c.toNat) →
      (via = me → convertEntry me { cost := c, via := via } = .unreachable)
      ∧ (via ≠ me →
        (c.toNat = 65534 → convertEntry me { cost := c, via := via } = .unknown)
        ∧ (c.toNat = 65535 → convertEntry me { cost := c, via := via } = .unreachable)
        ∧ (c.toNat ≤ 60000 → convertEntry me { cost := c, via := via } = .finite c.toNat)))

/-- R92 and R35, ADVERT_RECEIPT in RUNNING: a block byte above 3, or a sender that is no neighbour on the port, discards the frame;
else the arrival is handed to the LGM for the lowest matching leg, then the 16 converted entries to the RTU in entry order. -/
def Obligations.AdvertReceiptHandsArrivalThenSixteenWrites : Prop :=
  ∀ (s : State) (p : Port) (f : AdvertFrame), s.running = true →
    let matching : LegIx → Prop := fun l => ∃ g, s.lgm.legs[l].fixed = some g ∧ g.port = p ∧ g.neighbour = f.sender
    ((3 < f.block.toNat ∨ ∀ l, ¬ matching l) →
      Completes (exec (.advertReceipt p f) s) (fun t =>
        t.handoffs = s.handoffs.erase (.advertReceipt p f) ∧ Frame.only [.handoffs] s t))
    ∧ ∀ (k : BlockIx) (l : LegIx), f.block.toNat = k.val → f.entries.length = 16 → matching l → (∀ j, matching j → l ≤ j) →
      Completes (exec (.advertReceipt p f) s) (fun t =>
        ∃ writes : List Instr, writes.length = 16
          ∧ (∀ (i : Fin 16) (e : AdvertEntry), f.entries[i.val]? = some e →
              writes[i.val]? = some (.advertisedCostWrite l (blockDest k i) (convertEntry s.pfl.profile.nodeId e)))
          ∧ t.handoffs = s.handoffs.erase (.advertReceipt p f) ++ .advertArrival l :: writes
          ∧ Frame.only [.handoffs] s t)

/-- R86 to R89. ADU_PROFILE_LOAD: the tick timer starts, and each block with a changed flag set for a port has its urgent flag set
and an urgent request waiting on that port. CHANGED_FLAG_REPORT: a clear urgent flag is set and an urgent request placed, a set one
changes nothing. GAP_TIMER_EXPIRY: the port's gap timer is elapsed. ADVERT_TICK (R87, R72 note 2): on each port a request waits for the
block at the rotation position (a waiting one keeps its mark, count and position), and the rotation advances, from block 3 to block 0. -/
def Obligations.AdvertRequestsFollowFlagsAndTick : Prop :=
  (∀ s : State, s.running = true → .aduProfileLoad ∈ s.handoffs →
    Completes (exec .aduProfileLoad s) (fun t =>
      t.adu.tickRunning = true
      ∧ (∀ (p : Port) (b : BlockIx), (t.adu.ports.get p).urgent[b] = true ↔
          (s.adu.ports.get p).urgent[b] = true ∨ ∃ d : DestIx, d.val / 16 = b.val ∧ (s.rtu.table[d]).changed p = true)
      ∧ (∀ (p : Port) (b : BlockIx), (∃ d : DestIx, d.val / 16 = b.val ∧ (s.rtu.table[d]).changed p = true) →
          ∃ w, (t.dlc.ports.get p).advert[b].unsent = some w ∧ w.item = true)
      ∧ (∀ p : Port, (t.adu.ports.get p).rotation = (s.adu.ports.get p).rotation
          ∧ (t.adu.ports.get p).gapRunning = (s.adu.ports.get p).gapRunning)
      ∧ t.handoffs = s.handoffs.erase .aduProfileLoad ∧ Frame.only [.adu, .dlc, .handoffs] s t))
  ∧ (∀ (s : State) (p : Port) (d : DestIx) (b : BlockIx), s.running = true → s.adu.tickRunning = true → d.val / 16 = b.val →
    Completes (exec (.changedFlagReport p d) s) (fun t =>
      t.handoffs = s.handoffs.erase (.changedFlagReport p d)
      ∧ ((s.adu.ports.get p).urgent[b] = true → Frame.only [.handoffs] s t)
      ∧ ((s.adu.ports.get p).urgent[b] = false →
          (t.adu.ports.get p).urgent = setAt (s.adu.ports.get p).urgent b true
          ∧ t.adu.ports.get (otherPort p) = s.adu.ports.get (otherPort p)
          ∧ t.dlc.ports.get (otherPort p) = s.dlc.ports.get (otherPort p)
          ∧ (t.dlc.ports.get p).advert[b].inFlight = (s.dlc.ports.get p).advert[b].inFlight
          ∧ (∃ w, (t.dlc.ports.get p).advert[b].unsent = some w ∧ w.item = true
              ∧ ∀ x, (s.dlc.ports.get p).advert[b].unsent = some x → w.pos = x.pos ∧ w.attempts = x.attempts)
          ∧ Frame.only [.adu, .dlc, .handoffs] s t)))
  ∧ (∀ (s : State) (p : Port), Completes (exec (.gapTimerExpiry p) s) (fun t =>
      t.adu.ports.get p = { s.adu.ports.get p with gapRunning := false }
      ∧ t.adu.ports.get (otherPort p) = s.adu.ports.get (otherPort p) ∧ t.adu.tickRunning = s.adu.tickRunning
      ∧ Frame.only [.adu] s t))
  ∧ ∀ s : State, s.running = true → s.adu.tickRunning = true →
    Completes (exec .advertTick s) (fun t =>
      (∀ p : Port,
        let b := (s.adu.ports.get p).rotation
        (t.adu.ports.get p).rotation.val = (b.val + 1) % 4
        ∧ (t.adu.ports.get p).urgent = (s.adu.ports.get p).urgent
        ∧ (t.adu.ports.get p).gapRunning = (s.adu.ports.get p).gapRunning
        ∧ (∀ w, (s.dlc.ports.get p).advert[b].unsent = some w → t.dlc.ports.get p = s.dlc.ports.get p)
        ∧ ((s.dlc.ports.get p).advert[b].unsent = none →
            (∃ w, (t.dlc.ports.get p).advert[b].unsent = some w ∧ w.item = false ∧ w.attempts = 0)
            ∧ (t.dlc.ports.get p).advert[b].inFlight = (s.dlc.ports.get p).advert[b].inFlight
            ∧ ∀ c : BlockIx, c ≠ b → (t.dlc.ports.get p).advert[c] = (s.dlc.ports.get p).advert[c]))
      ∧ t.adu.tickRunning = true ∧ t.dlc.ring = s.dlc.ring ∧ Frame.only [.adu, .dlc] s t)

/-! ### Muster Controller (05) -/

/-- R106: serial order of epochs. -/
def Obligations.EpochSerialOrder : Prop :=
  ∀ e1 e2 : Word,
    (epochNewer e2 e1 = true ↔ 1 ≤ (e2 - e1).toNat ∧ (e2 - e1).toNat ≤ 32767)
    ∧ (epochNewer e1 e2 = true ↔ 32769 ≤ (e2 - e1).toNat)
    ∧ ((e2 - e1).toNat = 0 ↔ e2 = e1)
    ∧ ((e2 - e1).toNat = 32768 → epochNewer e2 e1 = false ∧ epochNewer e1 e2 = false ∧ e2 ≠ e1)
    ∧ (∀ m : Muc, m.epoch = some e1 → (e2 - e1).toNat = 32768 → ∀ o, m.adopts e2 o = false)

/-- R69 and R107 to R111, ALARM_RECEIPT in RUNNING: a frame of no phase code, and one the adoption rule does not take, change
nothing; one it takes is written whole with its timers, sets the muster-change flag, is reported to the LGM, the FCU and the FSC,
moves the page holds, and is relayed with hop + 1 when the limit allows. -/
def Obligations.AlarmReceiptAdoptsOrIgnores : Prop :=
  ∀ (s : State) (p : Port) (hop : Nat) (a : AlarmBody), s.running = true →
    let adopt := s.muc.epoch = none ∨ ∃ e, s.muc.epoch = some e ∧
      ((1 ≤ (a.epoch - e).toNat ∧ (a.epoch - e).toNat ≤ 32767) ∨ (a.epoch = e ∧ a.origin.toNat < s.muc.origin.toNat))
    let taken := s.handoffs.erase (.alarmReceipt p hop a)
    ((phaseOfCode a.phaseCode = none ∨ ¬ adopt) →
      Completes (exec (.alarmReceipt p hop a) s) (fun t => t.handoffs = taken ∧ Frame.only [.handoffs] s t))
    ∧ ∀ ph, phaseOfCode a.phaseCode = some ph → adopt → Completes (exec (.alarmReceipt p hop a) s) (fun t =>
        t.muc = { epoch := some a.epoch, phase := ph, origin := a.origin, zones := a.zones,
                  standDown := if ph = .standDown then 60 else 0, repeatRunning := true, held := some ph }
        ∧ t.hpt = { s.hpt with musterChange := true }
        ∧ t.handoffs = taken ++ [.musterReportLgm, .musterReportFcu, .musterAdoptionFsc]
            ++ (if s.muc.held = some ph then []
                else (s.muc.held.toList.map Instr.releaseRequest) ++ [.holdRequest ph])
        ∧ t.dlc.ring = s.dlc.ring ∧ t.dlc.ports.get p = s.dlc.ports.get p
        ∧ (s.pfl.profile.relayLimit < hop + 1 → t.dlc.ports = s.dlc.ports)
        ∧ (hop + 1 ≤ s.pfl.profile.relayLimit → (t.dlc.ports.get (otherPort p)).alarm
            = (s.dlc.ports.get (otherPort p)).alarm.place
                { hop := hop + 1, sender := s.pfl.profile.nodeId, body := .alarm a } s.dlc.stamp)
        ∧ Frame.only [.muc, .hpt, .handoffs, .dlc] s t)

/-- R104, R112, R114 and R116. MUC_PROFILE_LOAD with a kept phase: the ALARM waits on both ports with hop 0, the repeat timer runs, a
kept STAND_DOWN's timer runs, and the phase's pages are asked held; in QUIET nothing. REPEAT_TIMER_EXPIRY of a running timer places
the ALARM on both ports. STAND_DOWN_TIMER_EXPIRY in STAND_DOWN returns to QUIET, keeps epoch, origin and zones, sets the
muster-change flag and tells the LGM, the FCU and the PCA; in STARTING it tells none of them. -/
def Obligations.MusterLoadRepeatAndStandDown : Prop :=
  ∀ s : State,
    let current : Word → FloodBody := fun e =>
      .alarm { epoch := e, phaseCode := natByte (phaseCode s.muc.phase), origin := s.muc.origin, zones := s.muc.zones }
    let alarmOn : Word → State → Prop := fun e t => ∀ q : Port,
      (t.dlc.ports.get q).alarm.inFlight = (s.dlc.ports.get q).alarm.inFlight
      ∧ (t.dlc.ports.get q).alarm.unsent.map (·.item) = some { hop := 0, sender := s.pfl.profile.nodeId, body := current e }
    (s.running = true → .mucProfileLoad ∈ s.handoffs → ∀ e, s.muc.epoch = some e → s.muc.phase ≠ .quiet →
      Completes (exec .mucProfileLoad s) (fun t =>
        alarmOn e t ∧ t.muc = { s.muc with
          repeatRunning := true, held := some s.muc.phase,
          standDown := if s.muc.phase = .standDown ∧ s.muc.standDown = 0 then 60 else s.muc.standDown }
        ∧ t.handoffs = s.handoffs.erase .mucProfileLoad ++ [.holdRequest s.muc.phase]
        ∧ t.dlc.ring = s.dlc.ring ∧ Frame.only [.muc, .dlc, .handoffs] s t))
    ∧ (s.running = true → s.muc.phase = .quiet →
        Completes (exec .mucProfileLoad s) (fun t => Frame.only [.handoffs] s t))
    ∧ (s.running = true → s.muc.repeatRunning = true → ∀ e, s.muc.epoch = some e → s.muc.phase ≠ .quiet →
        Completes (exec .repeatTimerExpiry s) (fun t => alarmOn e t ∧ t.dlc.ring = s.dlc.ring ∧ Frame.only [.dlc] s t))
    ∧ (s.pfl.node = .starting → exec .repeatTimerExpiry s = .next s)
    ∧ (0 < s.muc.standDown → s.muc.phase = .standDown → Completes (exec .standDownTimerExpiry s) (fun t =>
        t.muc = { s.muc with phase := .quiet, standDown := 0, repeatRunning := false, held := none }
        ∧ t.hpt = { s.hpt with musterChange := true }
        ∧ (s.running = true → t.handoffs = s.handoffs ++ [.returnToQuietLgm, .returnToQuietFcu]
            ++ s.muc.held.toList.map Instr.releaseRequest)
        ∧ (s.running = false → t.handoffs = s.handoffs) ∧ Frame.only [.muc, .hpt, .handoffs] s t))

/-! ### Ship Clock and Programme List Unit (06) -/

/-- R128 to R131. SECONDS_TIMER_EXPIRY of a SET clock: one second on, over the minute and the day, held at day 255, minute 1439,
second 59; a minute event where the minute moves, to the PLU and the FCU in RUNNING, to none in FALLBACK, and in STARTING to the PLU
alone (the model's reading of R128 and R130, log 34). CLOCK_FRAME_RECEIPT in RUNNING: a frame out of range, of no node, or of the pair
last adopted is ignored; any other is adopted whole, and a minute event follows when the clock was UNSET or the absolute minute moved. -/
def Obligations.ClockAdvancesAndTakesFrames : Prop :=
  (∀ s : State, s.sck.isSet = true → s.sck.timerRunning = true → clockOk s.sck →
    Completes (exec .secondsTimerExpiry s) (fun t =>
      let c := s.sck
      let now := c.day * 1440 + c.minute
      let events : Nat → List Instr := fun new => match s.pfl.node with
        | .running => [.minuteEventPlu (some now) new, .minuteEventFcu (some now) new]
        | .starting => [.minuteEventPlu (some now) new]
        | .fallback => []
      (c.second < 59 → t.sck = { c with second := c.second + 1 } ∧ t.handoffs = s.handoffs)
      ∧ (c.second = 59 → c.minute < 1439 →
          t.sck = { c with second := 0, minute := c.minute + 1 } ∧ t.handoffs = s.handoffs ++ events (now + 1))
      ∧ (c.second = 59 → c.minute = 1439 → c.day < 255 →
          t.sck = { c with second := 0, minute := 0, day := c.day + 1 } ∧ t.handoffs = s.handoffs ++ events (now + 1))
      ∧ (c.second = 59 → c.minute = 1439 → c.day = 255 → t.sck = c ∧ t.handoffs = s.handoffs)
      ∧ Frame.only [.sck, .handoffs] s t))
  ∧ ∀ (s : State) (c : ClockBody), s.running = true →
    let ignored := 1439 < c.minute.toNat ∨ 59 < c.second.toNat ∨ c.origin = 0 ∨ c.origin = 255
      ∨ (s.sck.isSet = true ∧ c.origin = s.sck.lastOrigin ∧ c.seq = s.sck.lastSeq)
    let taken := s.handoffs.erase (.clockFrameReceipt c)
    (ignored → Completes (exec (.clockFrameReceipt c) s) (fun t => t.handoffs = taken ∧ Frame.only [.handoffs] s t))
    ∧ (¬ ignored → Completes (exec (.clockFrameReceipt c) s) (fun t =>
        let old := s.sck.day * 1440 + s.sck.minute
        let new := c.day.toNat * 1440 + c.minute.toNat
        t.sck = { isSet := true, day := c.day.toNat, minute := c.minute.toNat, second := c.second.toNat, lastOrigin := c.origin,
                  lastSeq := c.seq, timerRunning := true, counter := s.sck.counter }
        ∧ (s.sck.isSet = false → t.handoffs = taken ++ [.minuteEventPlu none new, .minuteEventFcu none new])
        ∧ (s.sck.isSet = true → old ≠ new → t.handoffs = taken ++ [.minuteEventPlu (some old) new, .minuteEventFcu (some old) new])
        ∧ (s.sck.isSet = true → old = new → t.handoffs = taken)
        ∧ Frame.only [.sck, .handoffs] s t))

/-- R133, R141 and R142, MINUTE_EVENT_PLU in RUNNING and STARTING: each item is kept, begun or removed by the new minute, and in
RUNNING each change is reported in list order, none in STARTING. -/
def Obligations.MinuteEventBeginsAndEndsItems : Prop :=
  ∀ (s : State) (old : Option Nat) (now : Nat), s.pfl.node ≠ .fallback →
    Completes (exec (.minuteEventPlu old now) s) (fun t =>
      let start : Item → Nat := fun i => i.day * 1440 + i.start
      let stop : Item → Nat := fun i => start i + (if (i.stop + 1440 - i.start) % 1440 = 0 then 1 else (i.stop + 1440 - i.start) % 1440)
      t.plu.items = s.plu.items.filterMap (fun i =>
        if stop i ≤ now then none else if i.running then some i else some { i with running := decide (start i ≤ now) })
      ∧ (s.running = true → t.handoffs = s.handoffs.erase (.minuteEventPlu old now) ++ s.plu.items.filterMap (fun i =>
          if stop i ≤ now then some (.programmeReport i.venue i.id (if i.running then .ended else .skipped))
          else if i.running = false ∧ start i ≤ now then some (.programmeReport i.venue i.id .started) else none))
      ∧ (s.running = false → t.handoffs = s.handoffs.erase (.minuteEventPlu old now))
      ∧ Frame.only [.plu, .handoffs] s t)

/-- R133 to R138 and R144, PROGRAMME_OFFER in RUNNING: refused out of range or under a held revision as high; not stored when already
over, and then a held item of its id is ended; else it replaces the held item or, as a new one, enters in list order; at 96 items the
last of the 97 is dropped with a PROGRAMME_FULL notice. It is judged against the clock's minute, or against the minute held before the
oldest minute event the PLU has not taken yet. The outcome a LOAD ITEM is answered by is named in each case. -/
def Obligations.OfferIsRefusedEndedReplacedOrStored : Prop :=
  ∀ (s : State) (o : Offer), s.running = true → itemsOk s.plu.items →
    Completes (exec (.programmeOffer o) s) (fun t =>
      let taken := s.handoffs.erase (.programmeOffer o)
      let dur := (o.stop.toNat + 1440 - o.start.toNat) % 1440
      let start := o.day.toNat * 1440 + o.start.toNat
      let stop := start + (if dur = 0 then 1 else dur)
      let waiting := s.handoffs.findSome? (fun i => match i with
        | .minuteEventPlu old _ => some old
        | _ => none)
      let judged : Option Nat := match waiting with
        | some old => old
        | none => if s.sck.isSet then some (s.sck.day * 1440 + s.sck.minute) else none
      let outcome := (s.offer o).2
      let new : Item := { id := o.id.toNat, revision := o.revision.toNat, day := o.day.toNat, start := o.start.toNat,
                          stop := o.stop.toNat, venue := o.venue.toNat, titlePage := o.titlePage.toNat, cancelled := o.cancelled,
                          moved := o.moved, running := judged.any (fun now => decide (start ≤ now)) }
      let inRange := o.id.toNat ≠ 0 ∧ o.start.toNat ≤ 1439 ∧ o.stop.toNat ≤ 1439 ∧ o.venue.toNat ≤ 63
        ∧ o.titlePage.toNat ≠ 0 ∧ o.titlePage.toNat ≤ 4095
      let stale := ∃ i ∈ s.plu.items, i.id = o.id.toNat ∧ o.revision.toNat ≤ i.revision
      let pastEnd := ∃ now, judged = some now ∧ stop ≤ now
      (¬ inRange ∨ stale → t.plu = s.plu ∧ t.handoffs = taken ∧ t.hpt = s.hpt)
      ∧ (¬ inRange → outcome = .outOfRange)
      ∧ (inRange → ∀ i ∈ s.plu.items, i.id = o.id.toNat → o.revision.toNat ≤ i.revision → outcome = .heldRevision i.revision)
      ∧ (inRange → ¬ stale → pastEnd →
          (∀ i, i ∈ t.plu.items ↔ i ∈ s.plu.items ∧ i.id ≠ o.id.toNat) ∧ t.hpt = s.hpt ∧ outcome = .expired
          ∧ (∀ i ∈ s.plu.items, i.id = o.id.toNat → t.handoffs = taken ++ [.programmeReport i.venue i.id .ended])
          ∧ ((∀ i ∈ s.plu.items, i.id ≠ o.id.toNat) → t.handoffs = taken))
      ∧ (inRange → ¬ stale → ¬ pastEnd →
          (∀ i ∈ s.plu.items, i.id = o.id.toNat →
            (∀ j, j ∈ t.plu.items ↔ j = new ∨ (j ∈ s.plu.items ∧ j.id ≠ o.id.toNat)) ∧ t.hpt = s.hpt ∧ outcome = .replaced
            ∧ t.handoffs = taken ++ .programmeReport new.venue new.id .replaced
                :: (if i.venue = new.venue then [] else [.programmeReport i.venue new.id .replaced]))
          ∧ ((∀ i ∈ s.plu.items, i.id ≠ o.id.toNat) →
            (s.plu.items.length < 96 → (∀ j, j ∈ t.plu.items ↔ j = new ∨ j ∈ s.plu.items) ∧ t.hpt = s.hpt ∧ outcome = .stored
              ∧ t.handoffs = taken ++ [.programmeReport new.venue new.id .stored])
            ∧ (s.plu.items.length = 96 → ∀ last, s.plu.items.getLast? = some last →
              (itemOrder last new → t.plu = s.plu ∧ t.handoffs = taken ∧ outcome = .dropped
                ∧ t.hpt = s.hpt.takeNotice (.programmeFull new.id start))
              ∧ (itemOrder new last → (∀ j, j ∈ t.plu.items ↔ j = new ∨ (j ∈ s.plu.items ∧ j ≠ last)) ∧ outcome = .stored
                ∧ t.handoffs = taken ++ [.programmeReport last.venue last.id .dropped, .programmeReport new.venue new.id .stored]
                ∧ t.hpt = s.hpt.takeNotice (.programmeFull last.id (last.day * 1440 + last.start))))))
      ∧ itemsOk t.plu.items ∧ Frame.only [.plu, .handoffs, .hpt] s t)

/-! ### Face Content Unit (07) -/

/-- R152 and R154 to R159, with R24 and R25: the value of each part of an enabled face, by its kind, its current language and the phase;
the language is the one at the language index of a SIGN face, and a DOOR face's own. -/
def Obligations.FaceContentByKindAndPhase : Prop :=
  ∀ (s : State) (f : FaceIx) (c : FaceConfig),
    ∀ lang : Nat, lang = (match s.fcu.faces[f].config.map FaceConfig.kind with
      | some (.sign langs _ _) => langs.getD s.fcu.faces[f].langIx 0
      | some (.door l _ _) => l
      | none => 0) →
    let ph := s.muc.phase
    let arrow : WayOut → Option Byte := fun w => match w with
      | .leg l => if c.glyphs[l] = 0#8 then none else some c.glyphs[l]
      | _ => none
    let field : Cost → Field := fun x => match x with
      | .finite n => if n = 0 then .present else .minutes (min 99 ((n + 719) / 720))
      | .unknown => .pending
      | .unreachable => .closed
    let destination : DestIx → LineValue := fun d =>
      { ident := .dest d, page := s.pfl.profile.destBase + d.val * 16 + lang, arrow := arrow s.rtu.table[d].best,
        field := some (field s.rtu.table[d].cost), status := none, language := lang }
    let number : Nat := match ph with
      | .quiet => 0 | .alert => 1 | .proceed => 2 | .hold => 3 | .standDown => 4
    let musterPage := if s.pca.faulted then 0
      else s.pfl.profile.musterBase + number * 16 + (if lang < s.pfl.profile.musterLangs then lang else 0)
    let lines : List LineValue → Fin 4 → PartValue := fun vs n => match vs[n.val]? with
      | some v => .line v
      | none => .blank
    (ph ≠ .quiet → partValue s f c .header = .header musterPage lang ph)
    ∧ (∀ langs mode ms, c.kind = .sign langs mode ms →
        (ph = .quiet → partValue s f c .header = .header 0 lang .quiet)
        ∧ (∀ ds, ph = .quiet → mode = .wayfind ds → ∀ n : Fin 4, partValue s f c (.line n) = lines (ds.map destination) n)
        ∧ (ph = .proceed → ∀ n : Fin 4, partValue s f c (.line n) = lines (ms.map (fun st => destination (stationDest st))) n)
        ∧ (ph = .alert ∨ ph = .hold ∨ ph = .standDown → ∀ n : Fin 4, partValue s f c (.line n) = .blank)
        ∧ ∀ vs, ph = .quiet → mode = .programme vs →
            let shown := s.plu.items.filter (fun i => (match vs with | .all => true | .only ds => ds.any (fun d => d.val == i.venue))
              && !(i.cancelled && s.sck.isSet && decide (i.startAbs + 30 ≤ s.sck.now)))
            let status : Item → Status := fun i =>
              if i.cancelled then .cancelled else if i.running then .now
              else if s.sck.isSet = true ∧ s.sck.now + 1 ≤ i.startAbs ∧ i.startAbs ≤ s.sck.now + 15 then .soon i.moved
              else .startsAt i.start i.moved
            let line : Item → LineValue := fun i =>
              { ident := .item i.id, page := i.titlePage, arrow := arrow s.rtu.table[venueDest i.venue].best,
                field := some (field s.rtu.table[venueDest i.venue].cost), status := some (status i), language := lang }
            ∀ n : Fin 4, partValue s f c (.line n)
              = lines (((shown.filter (·.running) ++ shown.filter (fun i => !i.running)).take 3).map line) n)
    ∧ ∀ l page st, c.kind = .door l page st →
        (ph = .quiet → partValue s f c .header = .header page lang .quiet ∧ partValue s f c (.line 0) = .blank
          ∧ partValue s f c .privacy = .privacy (if s.fsc.words[f].privacy then .on else .off))
        ∧ (ph ≠ .quiet → partValue s f c .privacy = .privacy .none)
        ∧ (ph = .proceed → partValue s f c (.line 0) = .line { destination (stationDest st) with field := none })
        ∧ (ph = .alert ∨ ph = .hold ∨ ph = .standDown → partValue s f c (.line 0) = .blank)

/-- R161 to R163 and R167, R179, R206: the events that make the FCU recompute faces raise one demand for each face concerned that
has a part in view differing from its snapshot, of class CONTENT in QUIET and MUSTER otherwise, and change nothing else. -/
def Obligations.RecomputeEventsRaiseDemands : Prop :=
  ∀ s : State, s.running = true →
    let raises : Instr → (FaceIx → FaceConfig → Bool) → Prop := fun i which =>
      exec i s = .next { s with handoffs := s.handoffs.erase i ++ demandsFor s which }
    let lists : Nat → Venues → Bool := fun v vs => match vs with
      | .all => true
      | .only ds => ds.any (fun d => d.val == v)
    (∀ d : DestIx, raises (.changedDestinationReport d) (fun _ c => match c.kind with
        | .sign _ (.wayfind ds) ms => ds.contains d || ms.any (fun st => 56 + st.val == d.val)
        | .sign _ (.programme vs) ms => lists d.val vs || ms.any (fun st => 56 + st.val == d.val)
        | .door _ _ st => 56 + st.val == d.val))
    ∧ (∀ v id k, raises (.programmeReport v id k) (fun _ c => match c.kind with
        | .sign _ (.programme vs) _ => lists v vs
        | _ => false))
    ∧ (∀ old new, raises (.minuteEventFcu old new) (fun _ c => match c.kind with
        | .sign _ (.programme _) _ => true
        | _ => false))
    ∧ raises .musterReportFcu (fun _ _ => true)
    ∧ raises .heldPageFaultReport (fun _ _ => true)
    ∧ (∀ f : FaceIx, raises (.privacyChange f) (fun g _ => g == f) ∧ raises (.suppliedChainEnded f) (fun g _ => g == f))
    ∧ ∀ (f : FaceIx) (c : FaceConfig) (p : Part), s.fcu.faces[f].config = some c →
        (p ∈ differingParts s f ↔ p ∈ partsOf c.kind ∧ s.fcu.faces[f].snapshot[partIx p] ≠ some (partValue s f c p)
          ∧ (s.fsc.words[f].hostHeld = true → s.muc.phase = .quiet → p = .privacy))

/-- R151, R152 and R164 to R166. FCU_PROFILE_LOAD installs the profile's face records with language index 0 and starts the rotation
timer; RETURN_TO_QUIET_FCU clears every host-held flag and every snapshot; FACE_BACK_ONLINE clears the face's snapshot;
LANGUAGE_ROTATION_EXPIRY advances the language index of each face of several languages. Each then recomputes the faces it changed.
RECORD_COMPLETED and RECORD_NOT_COMPLETED (R160, R169): a completed part is written to the snapshot, one that did not complete becomes
absent; a supplied picture leaves header and lines absent; no demand is raised. These two reports as commands of their own are log 4. -/
def Obligations.FaceRecordsAndSnapshotsFollowEvents : Prop :=
  (∀ s : State, s.running = true →
    let becomes : Instr → State → (FaceIx → FaceConfig → Bool) → Prop := fun i u which =>
      exec i s = .next { u with handoffs := s.handoffs.erase i ++ demandsFor u which }
    let blank : FaceState → FaceState := fun fs => { fs with snapshot := Vector.replicate 6 none }
    (.fcuProfileLoad ∈ s.handoffs → ∃ faces : Vector FaceState 32,
      (∀ f : FaceIx, faces[f] = { config := s.pfl.profile.faces[f], langIx := 0, snapshot := s.fcu.faces[f].snapshot })
      ∧ becomes .fcuProfileLoad { s with fcu := { faces := faces, rotationRunning := true } } (fun _ _ => true))
    ∧ (∃ (faces : Vector FaceState 32) (words : Vector FaceWord 32),
      (∀ f : FaceIx, faces[f] = blank s.fcu.faces[f]) ∧ (∀ f : FaceIx, words[f] = { s.fsc.words[f] with hostHeld := false })
      ∧ becomes .returnToQuietFcu
          { s with fcu := { s.fcu with faces := faces }, fsc := { s.fsc with words := words } } (fun _ _ => true))
    ∧ (∀ f : FaceIx, becomes (.faceBackOnline f)
        { s with fcu := { s.fcu with faces := setAt s.fcu.faces f (blank s.fcu.faces[f]) } } (fun g _ => g == f))
    ∧ (s.fcu.rotationRunning = true → ∃ faces : Vector FaceState 32,
      (∀ f : FaceIx, faces[f] = match s.fcu.faces[f].config with
        | some { kind := .sign langs _ _, .. } =>
          if 2 ≤ langs.length then { s.fcu.faces[f] with langIx := (s.fcu.faces[f].langIx + 1) % langs.length }
          else s.fcu.faces[f]
        | _ => s.fcu.faces[f])
      ∧ ∃ u : State, u = { s with fcu := { s.fcu with faces := faces } }
        ∧ exec .languageRotationExpiry s = .next { u with handoffs := s.handoffs ++ demandsFor u (fun _ c => match c.kind with
          | .sign langs _ _ => 2 ≤ langs.length
          | .door _ _ _ => false) }))
  ∧ ∀ (s : State) (f : FaceIx), s.running = true → s.fcu.faces[f].config.isSome = true →
    let writes : Instr → Vector (Option PartValue) 6 → Prop := fun i snapshot =>
      exec i s = .next { s with
        handoffs := s.handoffs.erase i
        fcu := { s.fcu with faces := setAt s.fcu.faces f { s.fcu.faces[f] with snapshot := snapshot } } }
    let old := s.fcu.faces[f].snapshot
    let forgets : Instr → Prop := fun i => ∃ v : Vector (Option PartValue) 6,
      v[5] = old[5] ∧ (∀ j : Fin 6, j ≠ 5 → v[j] = none) ∧ writes i v
    (∀ p v, writes (.recordCompleted f (.part p v)) (setAt old (partIx p) (some v)))
    ∧ (∀ p, writes (.recordNotCompleted f (.part p)) (setAt old (partIx p) none))
    ∧ forgets (.recordCompleted f .picture) ∧ forgets (.recordNotCompleted f .picture)
    ∧ partIx .header = 0 ∧ (∀ n : Fin 4, (partIx (.line n)).val = n.val + 1) ∧ partIx .privacy = 5

/-! ### Face String Controller (08) -/

/-- R180. The candidates: a demand with no active chain, a record of an ACTIVE word's chain, a due poll, with class and number; aged
supplied records and polls rank as CONTENT. Outside RUNNING, with an exchange on the string or with no candidate the arbiter changes
nothing; else it takes a candidate of the first class that has one and, where the numbers of that class lie within half the range of
some number, the oldest of them, and picks again. With nothing else waiting a step is one pick. That the arbiter picks when no event
waits is log 28, the count of picks log 36. -/
def Obligations.ArbiterTakesOldestOfFirstClass : Prop :=
  (∀ (w : FaceWord) (f : FaceIx) (c : Candidate), c ∈ w.candidates f ↔
    (w.demand = true ∧ w.active = none ∧ w.state = .idle
      ∧ c = { rank := if w.cls = some .muster then 0 else 1, seq := w.demandSeq, face := f, pick := .demand })
    ∨ (∃ a, w.active = some a ∧ w.state = .active
      ∧ c = { rank := match a.body with
                | .generated .muster _ => 0
                | .generated .content _ => 1
                | .supplied _ _ _ => if w.recordAged then 1 else 2
              seq := a.seq, face := f, pick := .record })
    ∨ ∃ n aged, w.poll = .due n aged ∧ w.state ≠ .waitPage ∧ w.state ≠ .transfer
      ∧ c = { rank := if aged then 1 else 3, seq := n, face := f, pick := .poll })
  ∧ (∀ (n : Nat) (s : State), State.pickUpTo 0 s = s
      ∧ (∀ c, s.choice = some c → State.pickUpTo (n + 1) s = State.pickUpTo n (s.takeCandidate c))
      ∧ (s.choice = none → State.pickUpTo (n + 1) s = s))
  ∧ ∀ s : State,
    let all := (indices 32).flatMap (fun f => s.fsc.words[f].candidates f)
    (s.running = false ∨ s.fsc.string.isSome = true ∨ all = [] → s.choice = none ∧ s.arbitrate = s)
    ∧ (s.running = true → s.fsc.string = none → all ≠ [] → ∃ c, c ∈ all
        ∧ (∀ x ∈ all, c.rank ≤ x.rank)
        ∧ (∀ base : Count32, (∀ x ∈ all, (x.seq - base).toNat < 2 ^ 31) →
            ∀ x ∈ all, x.rank = c.rank → (c.seq - base).toNat ≤ (x.seq - base).toNat)
        ∧ s.choice = some c ∧ s.arbitrate = State.pickUpTo 127 (s.takeCandidate c)
        ∧ (s.pending = [] → s.handoffs = [] → step s = .next (s.takeCandidate c)))

/-- R174, R182 and R186 to R188: what a pick does, in RUNNING. A demand with nothing to draw is cleared; else its generated chain is
formed and its first record prepared. A supplied record in a muster ends its chain HALTED; a started record, one of page 0 and one whose
page is VALID (now pinned) begin transfer, with a PROGRESS notice for NOTIFY and a prefetch of the next record's page; any other waits
for its page. A poll carries attention allowed, unless stacked with more than 16 notices held, and restate. That the noted prefetch page
stays when the next record asks for none is log 20. That a chain's end releases the pin of a started record before it withdraws the
prefetch mark is log 47. -/
def Obligations.PickStartsChainRecordOrPoll : Prop :=
  ∀ (s : State) (f : FaceIx) (rank : Nat) (seq : Count32), s.running = true →
    let w := s.fsc.words[f]
    let taken : Pick → State := fun k => s.takeCandidate { rank := rank, seq := seq, face := f, pick := k }
    let parts := differingParts s f
    (parts = [] → taken .demand = withFaceWord s f { w with demand := false, cls := none })
    ∧ (parts ≠ [] →
        let c : ActiveChain :=
          { body := .generated (if w.cls = some .muster then .muster else .content) parts, index := 0, seq := w.demandSeq }
        taken .demand = (withFaceWord s f
          { w with demand := false, cls := none, active := some c, state := .active, recordAged := false }).prepare f c)
    ∧ (∀ c, w.active = some c → taken .record = s.prepare f c)
    ∧ (let stacked : Bool := w.attnStacked && decide (16 < s.hpt.notices.length)
       let offline : Bool := w.state == .offline
       let allowed := offline || !stacked
       taken .poll = { s with fsc := { s.fsc with
         words := setAt s.fsc.words f
           { w with attnStacked := stacked, retry := 0, poll := .underway, state := if offline then .offline else .transfer }
         lastPolled := f, string := some (.poll f allowed (!offline && w.restateDue && allowed)) } })
    ∧ ∀ c : ActiveChain,
      let built := s.buildRecord f c
      let later : Nat := if c.index + 1 < c.body.total then (s.buildRecord f { c with index := c.index + 1 }).page else 0
      let notify : Bool := match c.body with
        | .supplied rs _ _ => (rs[c.index]?).any (·.notify)
        | .generated _ _ => false
      let isSupplied : Prop := ∃ rs done halt, c.body = .supplied rs done halt
      let begins : Pca → DrawRecord → State := fun p r => { s with
        fsc := { s.fsc with
          string := some (.draw f r)
          words := setAt s.fsc.words f { w with
            state := .transfer, retry := 0, started := none, waiting := none, recordAged := false
            prefetch := if later = 0 then w.prefetch else some later } }
        pca := if later = 0 then p else p.prefetchRequest f later
        hpt := if notify then s.hpt.takeNotice (.progress f c.index c.body.total) else s.hpt }
      (∀ cls ps p cfg, c.body = .generated cls ps → ps[c.index]? = some p → s.fcu.faces[f].config = some cfg →
        built = { content := .part p (partValue s f cfg p), chain := decide (c.index + 1 < ps.length), phase := s.muc.phase
                  language := s.fcu.faces[f].language }
        ∧ built.page = match partValue s f cfg p with
          | .header page _ _ => page
          | .line v => v.page
          | .blank => 0
          | .privacy _ => 0)
      ∧ (∀ rs done halt r, c.body = .supplied rs done halt → rs[c.index]? = some r →
        built = { content := .picture r.page, chain := decide (c.index + 1 < rs.length), phase := .quiet
                  language := s.fcu.faces[f].language }
        ∧ built.page = r.page)
      ∧ (isSupplied → s.muc.phase ≠ .quiet → s.prepare f c = chainEnded s f .halted)
      ∧ (¬ isSupplied ∨ s.muc.phase = .quiet →
        (∀ r, w.started = some r → s.prepare f c = begins s.pca r)
        ∧ (w.started = none → built.page = 0 → s.prepare f c = begins s.pca built)
        ∧ (w.started = none → built.page ≠ 0 →
          let asked := s.pca.faceRequest f built.page
          (asked.2 = true → s.prepare f c = begins asked.1 built)
          ∧ (asked.2 = false → s.prepare f c
              = { withFaceWord s f { w with waiting := some built, state := .waitPage } with pca := asked.1 })))

/-- R171, R173 and R181, FSC_PROFILE_LOAD: every face word is installed from the profile, an enabled one IDLE with restate due and its
poll due, the polls numbered from 0 in face order beginning after the last polled face; the FCU's recompute raises its demands. -/
def Obligations.FscLoadMakesEveryPollDue : Prop :=
  ∀ s : State, s.running = true → .fscProfileLoad ∈ s.handoffs → Completes (exec .fscProfileLoad s) (fun u =>
    (let place : FaceIx → Nat := fun f => (f.val + 31 - s.fsc.lastPolled.val) % 32
       let earlier : FaceIx → Nat := fun f =>
         ((indices 32).filter (fun g => s.pfl.profile.faces[g].isSome && place g < place f)).length
       (∀ f : FaceIx, u.fsc.words[f] = match s.pfl.profile.faces[f] with
         | some c => { FaceWord.initial with address := some c.address, restateDue := true, poll := .due (BitVec.ofNat 32 (earlier f)) false }
         | none => FaceWord.initial)
       ∧ u.fsc.seqCount = BitVec.ofNat 32 ((indices 32).filter (fun g => s.pfl.profile.faces[g].isSome)).length)
    ∧ u.fsc.lastPolled = s.fsc.lastPolled ∧ u.fsc.string = s.fsc.string ∧ u.fsc.lastAck = s.fsc.lastAck
    ∧ u.handoffs = s.handoffs.erase .fscProfileLoad ++ demandsFor u (fun _ _ => true)
    ∧ Frame.only [.fsc, .handoffs] s u)

/-- R173, R180 and R181. DEMAND in RUNNING: not held by a disabled or OFFLINE word; re-dirty under a generated chain; a clear flag is
set with a new number; a set one keeps its number; MUSTER stays and raises. CANDIDATE_AGING makes a supplied record off the string, or a
due poll, rank as CONTENT. POLL_DUE gives the waiting faces named their numbers, in face order after the last polled. That POLL_DUE
names a list of faces is log 37. -/
def Obligations.DemandsAgesAndDuePolls : Prop :=
  (∀ (s : State) (f : FaceIx) (k : DemandClass), s.running = true → Completes (exec (.demand f k) s) (fun u =>
    (let w := s.fsc.words[f]
       let v := u.fsc.words[f]
       let raised : Option DemandClass := if w.cls = some .muster then some .muster else some k
       u.handoffs = s.handoffs.erase (.demand f k) ∧ otherWords f s u ∧ u.fsc.string = s.fsc.string ∧ Frame.only [.fsc, .handoffs] s u
       ∧ (w.address = none ∨ w.state = .offline → v = w ∧ u.fsc.seqCount = s.fsc.seqCount)
       ∧ (w.address.isSome = true → w.state ≠ .offline →
          (w.generatedActive = true → v = { w with redirty := true, cls := raised } ∧ u.fsc.seqCount = s.fsc.seqCount)
          ∧ (w.generatedActive = false → w.demand = true → v = { w with cls := raised } ∧ u.fsc.seqCount = s.fsc.seqCount)
          ∧ (w.generatedActive = false → w.demand = false →
              v = { w with demand := true, cls := some k, demandSeq := s.fsc.seqCount } ∧ u.fsc.seqCount = s.fsc.seqCount + 1)))))
  ∧ (∀ (s : State) (f : FaceIx),
    (s.fsc.words[f].suppliedActive = true → s.drawing f = false → exec (.candidateAging f .record) s
      = .next (withFaceWord s f { s.fsc.words[f] with recordAged := true }))
    ∧ (∀ n a, s.fsc.words[f].poll = .due n a → exec (.candidateAging f .poll) s
      = .next (withFaceWord s f { s.fsc.words[f] with poll := .due n true })))
  ∧ ∀ (s : State) (fs : List FaceIx), Completes (exec (.pollDue fs) s) (fun u =>
      (let waits : FaceIx → Bool := fun f => fs.contains f && s.fsc.words[f].address.isSome
           && (s.fsc.words[f].poll == .wait2s || s.fsc.words[f].poll == .wait10s)
         let place : FaceIx → Nat := fun f => (f.val + 31 - s.fsc.lastPolled.val) % 32
         let earlier : FaceIx → Nat := fun f => ((indices 32).filter (fun g => waits g && place g < place f)).length
         (∀ f : FaceIx, u.fsc.words[f] = if waits f then
             { s.fsc.words[f] with poll := .due (s.fsc.seqCount + BitVec.ofNat 32 (earlier f)) false } else s.fsc.words[f])
         ∧ u.fsc.seqCount = s.fsc.seqCount + BitVec.ofNat 32 ((indices 32).filter waits).length)
      ∧ u.fsc.string = s.fsc.string ∧ u.fsc.lastPolled = s.fsc.lastPolled ∧ Frame.only [.fsc] s u)

/-- R190 and R196: the bytes of a DRAW record by what it shows, of a POLL and of an ACK record, each with its check behind it; what stands
on the string, a page that is VALID with its bytes; and the replies that count as valid. -/
def Obligations.FaceStringRecordLayouts : Prop :=
  let bit : Bool → Nat → Nat := fun b n => if b then n else 0
  (∀ (address : Byte) (r : DrawRecord) (bytes : List Byte),
    let line : Option LineValue := match r.content with
      | .part _ (.line v) => some v
      | _ => none
    let part : Nat := match r.content with
      | .part .header _ => 0
      | .part (.line n) _ => n.val + 1
      | .part .privacy _ => 5
      | .picture _ => 6
    let page : Nat := match r.content with
      | .part _ (.header n _ _) => n
      | .part _ (.line v) => v.page
      | .part _ .blank => 0
      | .part _ (.privacy _) => 0
      | .picture n => n
    let indicator : Byte := match r.content with
      | .part _ (.privacy .on) => 1
      | .part _ (.privacy .off) => 2
      | _ => 0
    let field : Byte × Nat := match line.bind LineValue.field with
      | none => (0, 0)
      | some (.minutes n) => (1, n)
      | some .present => (2, 0)
      | some .pending => (3, 0)
      | some .closed => (4, 0)
    let status : Byte × Nat × Bool := match line.bind LineValue.status with
      | none => (0, 0, false)
      | some .now => (1, 0, false)
      | some (.soon moved) => (2, 0, moved)
      | some (.startsAt minute moved) => (3, minute, moved)
      | some .cancelled => (4, 0, false)
    let arrow := line.bind LineValue.arrow
    let phase : Byte := match r.phase with
      | .quiet => 0 | .alert => 1 | .proceed => 2 | .hold => 3 | .standDown => 4
    r.page = page
    ∧ drawBytes address r bytes = withCheck ([address, 1, natByte part,
        natByte (bit r.chain 1 + bit status.2.2 2 + bit arrow.isSome 4), phase, natByte r.language, arrow.getD 0, field.1,
        natByte field.2, status.1] ++ natBytes2 status.2.1 ++ [indicator] ++ natBytes2 page ++ natBytes2 bytes.length ++ bytes))
  ∧ (∀ (address : Byte) (allowed restate : Bool),
    pollBytes address allowed restate = withCheck [address, 2, natByte (bit allowed 1 + bit restate 2)]
    ∧ ackBytes address .taken = withCheck [address, 3, 1] ∧ ackBytes address .keep = withCheck [address, 3, 2])
  ∧ (∀ (s : State) (f : FaceIx),
    let address := s.fsc.words[f].address.getD 0
    (s.fsc.string = none → s.stringBytes = [])
    ∧ (∀ allowed restate, s.fsc.string = some (.poll f allowed restate) → s.stringBytes = pollBytes address allowed restate)
    ∧ ∀ r, s.fsc.string = some (.draw f r) →
      (r.page = 0 → s.stringBytes = drawBytes address r [])
      ∧ ∀ i : Fin 16, CacheOk s.pca → r.page ≠ 0 → s.pca.slots[i].state = .valid → s.pca.slots[i].page = r.page →
        s.stringBytes = drawBytes address r s.pca.slots[i].bytes)
  ∧ ∀ (address : Byte) (isDraw : Bool) (b : List Byte) (reply : Reply),
    readReply address isDraw b = some reply ↔
      b.length = 5 ∧ wordAt b 3 = crc16 (b.take 3) ∧ byteAt b 0 = address
      ∧ ((isDraw = true ∧ byteAt b 1 = 1 ∧ reply = .done)
        ∨ (byteAt b 1 = 2 ∧ reply = .fault (byteAt b 2))
        ∨ (isDraw = false ∧ byteAt b 1 = 3 ∧ reply = .nothing)
        ∨ (isDraw = false ∧ byteAt b 1 = 4 ∧ 1 ≤ (byteAt b 2).toNat ∧ (byteAt b 2).toNat ≤ 3 ∧ reply = .attention (byteAt b 2)))

/-- R160, R175, R179, R184 and R185, FACE_REPLY to a record in transfer, in RUNNING. DONE frees the string, releases the page, writes
the snapshot and advances the chain, which goes on, or at its total ends COMPLETE, or HALTED when a halt was requested. FAULT ends the
chain FACE_FAULT, and a supplied picture leaves header and lines absent. A reply that is not valid changes nothing. That the record's
report is taken inside the exchange's end is log 4. That a chain's end releases the pin of a started record before it withdraws the
prefetch mark is log 47. -/
def Obligations.RecordRepliesAdvanceOrEndTheChain : Prop :=
  ∀ (s : State) (f : FaceIx) (r : DrawRecord) (bytes : List Byte), s.pfl.node = .running → s.fsc.string = some (.draw f r) →
    let w := s.fsc.words[f]
    let reply := readReply (w.address.getD 0) true bytes
    let off := recordOff s r
    let drawn : State := match r.content with
      | .part p v =>
        let written := { s.fcu.faces[f] with snapshot := setAt s.fcu.faces[f].snapshot (partIx p) (some v) }
        { off with fcu := { s.fcu with faces := setAt s.fcu.faces f written } }
      | .picture _ => withoutPicture off f
    let goesOn : ActiveChain → State := fun k => withFaceWord drawn f { w with
      active := some k
      state := if w.state = .offline then .offline else if w.waiting.isSome then .waitPage else .active }
    (∀ k, w.active = some k → reply = some .done →
      (∀ cls parts, k.body = .generated cls parts →
        (k.index + 1 < parts.length → exec (.faceReply bytes) s = .next (goesOn { k with index := k.index + 1 }))
        ∧ (parts.length ≤ k.index + 1 → exec (.faceReply bytes) s = .next (generatedEnded drawn f cls .complete none)))
      ∧ (∀ rs done halt, k.body = .supplied rs done halt →
        (halt = true → exec (.faceReply bytes) s = .next (suppliedEnded drawn f rs (done + 1) .halted))
        ∧ (halt = false → k.index + 1 < rs.length → exec (.faceReply bytes) s
            = .next (goesOn { k with index := k.index + 1, body := .supplied rs (done + 1) false }))
        ∧ (halt = false → rs.length ≤ k.index + 1 →
            exec (.faceReply bytes) s = .next (suppliedEnded drawn f rs (done + 1) .complete))))
    ∧ (∀ code, reply = some (.fault code) → exec (.faceReply bytes) s = .next (chainEnded (pictureLost off f r) f .faceFault))
    ∧ (reply = none → exec (.faceReply bytes) s = .next s)

/-- R181, R184, R186 to R188: FACE_REPLY to a poll, and REPLY_WAIT_EXPIRY, in RUNNING. Any valid reply ends the poll, the next one due
in 2 s; an OFFLINE face comes back first, with its notice and the FCU told. NOTHING clears restate due when the poll carried restate;
FAULT gives a FACE_STATE notice; ATTENTION is applied, acknowledged and noticed. A first silence sends again; a second one takes the
face OFFLINE, a record's page released and a supplied picture lost; an OFFLINE poll's silence leaves it OFFLINE. That the face word is
settled so after a poll is log 18, that a poll due while a record goes silent is lost is log 27; which part's DRAW_FAULT a poll's
silence gives for a generated chain between two records is log 29. That a chain's end releases the pin of a started record before it
withdraws the prefetch mark is log 47. -/
def Obligations.PollRepliesAndSilences : Prop :=
  ∀ (s : State) (f : FaceIx), s.pfl.node = .running →
    let w := s.fsc.words[f]
    let sentAgain : State := withFaceWord s f { w with retry := 1 }
    (∀ allowed restate, s.fsc.string = some (.poll f allowed restate) →
      let back : Bool := w.state == .offline
      let v : FaceWord := if back then { w with state := .idle, restateDue := true } else w
      let ended : FaceWord → Hpt → List Instr → Option (FaceIx × AckAnswer) → State := fun u h es ack => { s with
        fsc := { s.fsc with
          words := setAt s.fsc.words f { u with
            poll := .wait2s
            state := if v.waiting.isSome then .waitPage else if v.active.isSome then .active else .idle }
          string := none, lastAck := ack }
        hpt := h, handoffs := s.handoffs ++ es }
      let h := if back then s.hpt.takeNotice (.faceState f .online 0) else s.hpt
      let es : List Instr := if back then [.faceBackOnline f] else []
      (∀ bytes,
        let reply := readReply (w.address.getD 0) false bytes
        (reply = none → exec (.faceReply bytes) s = .next s)
        ∧ (reply = some .nothing → exec (.faceReply bytes) s
            = .next (ended { v with restateDue := !restate && v.restateDue } h es s.fsc.lastAck))
        ∧ (∀ code, reply = some (.fault code) → exec (.faceReply bytes) s
            = .next (ended v (h.takeNotice (.faceState f .fault code)) es s.fsc.lastAck))
        ∧ (∀ code, reply = some (.attention code) →
          let privacy : Bool := code == 1#8 || code == 2#8
          let x : FaceWord := if privacy then { v with privacy := code == 1#8, restateDue := false } else v
          let told := es ++ (if privacy then [.privacyChange f] else [])
          (s.pfl.profile.hostPresent = false → exec (.faceReply bytes) s = .next (ended x h told (some (f, .taken))))
          ∧ (s.pfl.profile.hostPresent = true → h.notices.length < 32 → exec (.faceReply bytes) s
              = .next (ended x { h with notices := h.notices ++ [.attention f code] } told (some (f, .taken))))
          ∧ (s.pfl.profile.hostPresent = true → 32 ≤ h.notices.length → exec (.faceReply bytes) s
              = .next (ended { x with attnStacked := true } h told (some (f, .keep))))))
      ∧ (w.state = .offline → exec .replyWaitExpiry s = .next { s with
          fsc := { s.fsc with words := setAt s.fsc.words f { w with poll := .wait10s }, string := none } })
      ∧ (w.state ≠ .offline → w.retry = 0 → exec .replyWaitExpiry s = .next sentAgain)
      ∧ (w.state ≠ .offline → w.retry ≠ 0 →
          exec .replyWaitExpiry s = .next (wentOffline { s with fsc := { s.fsc with string := none } } f)))
    ∧ ∀ r, s.fsc.string = some (.draw f r) →
      (w.retry = 0 → exec .replyWaitExpiry s = .next sentAgain)
      ∧ (w.retry ≠ 0 → exec .replyWaitExpiry s = .next (wentOffline (pictureLost (recordOff s r) f r) f))

/-- R189, MUSTER_ADOPTION_FSC in RUNNING: on every enabled face, in ascending index, a supplied record in transfer gets halt-requested
and any other supplied chain ends HALTED; a pending one is discarded with 0 records done, and the prefetch page with it (R179); and a
MUSTER demand is taken by the rules of R173. A disabled word is untouched. That a chain's end releases the pin of a started record
before it withdraws the prefetch mark is log 47. -/
def Obligations.MusterAdoptionHaltsSuppliedAndDemands : Prop :=
  ∀ s : State, s.running = true →
    let halted : State → FaceIx → State := fun u f => match u.fsc.words[f].active with
      | some { body := .supplied rs done _, index := i, seq := n } =>
        if u.drawing f then
          withFaceWord u f { u.fsc.words[f] with active := some { body := .supplied rs done true, index := i, seq := n } }
        else chainEnded u f .halted
      | _ => u
    let discarded : State → FaceIx → State := fun u f => match u.fsc.words[f].pending with
      | some rs =>
        let e : ChainEnding := { condition := .halted, done := 0, total := rs.length }
        { withFaceWord u f { u.fsc.words[f] with
            pending := none, prefetch := none, stacked := stackedEnding u.hpt u.fsc.words[f].stacked e } with
          pca := u.pca.withdrawPrefetch f, hpt := notedEnding u.hpt f e }
      | none => u
    let face : State → FaceIx → State := fun u f =>
      if u.fsc.words[f].address.isSome then (discarded (halted u f) f).takeDemand f .muster else u
    exec .musterAdoptionFsc s = .next ((indices 32).foldl face { s with handoffs := s.handoffs.erase .musterAdoptionFsc })

/-! ### Page Cache (09) -/

/-- R183, R197, R202 to R204 and R206. FETCH_HEADER_READ: a good header (marker, length 4 to 512) lets the body be read; any other, and
FETCH_NO_ANSWER, empty the slot and tell its waiters in the order they joined (a face word's chain ends PAGE_FAULT, a hold mark faults
the hold set), then the queue's head is tried. FETCH_END_GOOD: the slot is VALID with the page's bytes, a new order number, one pin for
each face waiting and held for a hold mark, the head is tried, and each waiting record is started. The slot a fetch takes is the lowest
EMPTY one, else the VALID one not pinned nor held with the lowest order number. That the bytes read are the operand is log 11, that the
port is free once the waiters are told is log 38. That a chain's end releases the pin of a started record before it withdraws the
prefetch mark is log 47. -/
def Obligations.FetchesFillOrEmptyTheSlot : Prop :=
  (∀ (s : State) (i : Fin 16), s.running = true → s.pca.fetch = some { slot := i, header := none } →
    (∀ marker kind hi lo : Byte,
      let length := (hi ++ lo).toNat
      let good := marker = 0x5C#8 ∧ 4 ≤ length ∧ length ≤ 512
      (good → exec (.fetchHeaderRead marker kind hi lo) s
        = .next { s with pca := { s.pca with fetch := some { slot := i, header := some [marker, kind, hi, lo] } } })
      ∧ (¬ good → exec (.fetchHeaderRead marker kind hi lo) s = exec .fetchNoAnswer s))
    ∧ (let told : State := s.pca.slots[i].waiters.foldl waiterTold
         { s with pca := { s.pca with slots := setAt s.pca.slots i CacheSlot.vacant } }
       exec .fetchNoAnswer s = .next { told with pca := { told.pca with fetch := none }.tryFetch }))
  ∧ (∀ (s : State) (i : Fin 16) (h body : List Byte), s.pca.fetch = some { slot := i, header := some h } →
    body.length + 4 = (wordAt h 2).toNat → Completes (exec (.fetchEndGood body) s) (fun u =>
      let faces := s.pca.slots[i].waiters.filterMap (fun x => match x with
        | .face f => some f
        | _ => none)
      let order := s.pca.completion + 1
      let filled : CacheSlot :=
        { state := .valid, page := s.pca.slots[i].page, pins := faces.length, held := s.pca.slots[i].waiters.contains .hold
          order := order, waiters := [], bytes := h ++ body }
      u.pca = { s.pca with slots := setAt s.pca.slots i filled, completion := order, fetch := none }.tryFetch
      ∧ (faces.Nodup → ∀ f : FaceIx,
          let w := s.fsc.words[f]
          u.fsc.words[f] = if f ∈ faces then { w with
            started := w.waiting, waiting := none
            state := emptyWordState w (s.onString f) w.active.isSome } else w)
      ∧ u.fsc.string = s.fsc.string ∧ u.fsc.seqCount = s.fsc.seqCount ∧ u.fsc.lastPolled = s.fsc.lastPolled
      ∧ Frame.only [.pca, .fsc] s u))
  ∧ ∀ p : Pca,
      let free : Fin 16 → Prop := fun i => p.slots[i].state = .valid ∧ p.slots[i].pins = 0 ∧ p.slots[i].held = false
      (∀ i, p.chooseSlot = some i →
        (p.slots[i].state = .empty ∧ ∀ j : Fin 16, p.slots[j].state = .empty → i ≤ j)
        ∨ ((∀ j : Fin 16, p.slots[j].state ≠ .empty) ∧ free i
            ∧ ∀ j : Fin 16, free j → p.slots[i].order.toNat ≤ p.slots[j].order.toNat))
      ∧ (p.chooseSlot = none ↔ ∀ j : Fin 16, p.slots[j].state ≠ .empty ∧ ¬ free j)

/-- R199 to R202, for a cache that holds no page twice. A face request pins a VALID page at once; else, as a prefetch request does, it
joins the page's FILLING slot, its queue entry or a new entry at the tail, and the queue's head is tried; a prefetch request first takes
the word's earlier mark away. Marks and face waiters are taken off wherever they stand, and an entry left with none goes. A pin released
lowers the count by 1. The head is the earliest entry of the first class: hold, face, prefetch; while the port is free and it has a slot
to take, it leaves the queue and its slot is FILLING. -/
def Obligations.CacheRequestsPinsAndQueue : Prop :=
  (∀ p : Pca,
    let rank : QueueEntry → Nat := fun e =>
      if e.waiters.contains .hold then 0 else if e.waiters.any (fun w => match w with | .face _ => true | _ => false) then 1 else 2
    (p.queue = [] → p.head = none)
    ∧ (p.queue ≠ [] → ∃ pre e post, p.queue = pre ++ e :: post ∧ p.head = some e
        ∧ (∀ x ∈ pre, rank e < rank x) ∧ ∀ x ∈ post, rank e ≤ rank x)
    ∧ (p.fetch.isSome = true ∨ p.head = none ∨ p.chooseSlot = none → p.tryFetch = p)
    ∧ ∀ e i, p.fetch = none → p.head = some e → p.chooseSlot = some i → p.tryFetch = { p with
        slots := setAt p.slots i
          { state := .filling, page := e.page, pins := 0, held := false, order := p.slots[i].order, waiters := e.waiters, bytes := [] }
        queue := p.queue.filter (fun x => x.page != e.page)
        fetch := some { slot := i, header := none } })
  ∧ (∀ (p : Pca) (page : Nat) (f : FaceIx), CacheOk p →
    let unmarked : Waiter → Pca := fun x => { p with
      slots := tabulate (fun i => { p.slots[i] with waiters := p.slots[i].waiters.filter (fun y => y != x) })
      queue := (p.queue.map (fun e => { e with waiters := e.waiters.filter (fun y => y != x) })).filter (fun e => !e.waiters.isEmpty) }
    p.withdrawPrefetch f = (unmarked (.prefetch f)).tryFetch ∧ p.dropFace f = (unmarked (.face f)).tryFetch
    ∧ (∀ i : Fin 16, p.slots[i].state = .valid → p.slots[i].page = page →
        p.faceRequest f page = ({ p with slots := setAt p.slots i { p.slots[i] with pins := p.slots[i].pins + 1 } }, true)
        ∧ p.releasePin page = Pca.tryFetch { p with slots := setAt p.slots i { p.slots[i] with pins := p.slots[i].pins - 1 } }
        ∧ p.prefetchRequest f page = (unmarked (.prefetch f)).tryFetch)
    ∧ (∀ i : Fin 16, p.slots[i].state = .filling → p.slots[i].page = page →
        p.faceRequest f page = (Pca.tryFetch
          { p with slots := setAt p.slots i { p.slots[i] with waiters := p.slots[i].waiters ++ [.face f] } }, false))
    ∧ ((∀ i : Fin 16, p.slots[i].state = .empty ∨ p.slots[i].page ≠ page) →
        ((∃ e ∈ p.queue, e.page = page) → p.faceRequest f page = (Pca.tryFetch
          { p with queue := p.queue.map (fun e => if e.page = page then { e with waiters := e.waiters ++ [.face f] } else e) }, false))
        ∧ ((∀ e ∈ p.queue, e.page ≠ page) → p.faceRequest f page = (Pca.tryFetch
          { p with queue := p.queue ++ [{ page := page, waiters := [.face f] }] }, false)))
    ∧ ((∀ i : Fin 16, p.slots[i].state ≠ .valid ∨ p.slots[i].page ≠ page) →
        let q := unmarked (.prefetch f)
        (∀ i : Fin 16, q.slots[i].state = .filling → q.slots[i].page = page → p.prefetchRequest f page = Pca.tryFetch
          { q with slots := setAt q.slots i { q.slots[i] with waiters := q.slots[i].waiters ++ [.prefetch f] } })
        ∧ ((∀ i : Fin 16, q.slots[i].state = .empty ∨ q.slots[i].page ≠ page) →
          ((∃ e ∈ q.queue, e.page = page) → p.prefetchRequest f page = Pca.tryFetch
            { q with queue := q.queue.map (fun e => if e.page = page then { e with waiters := e.waiters ++ [.prefetch f] } else e) })
          ∧ ((∀ e ∈ q.queue, e.page ≠ page) → p.prefetchRequest f page = Pca.tryFetch
            { q with queue := q.queue ++ [{ page := page, waiters := [.prefetch f] }] }))))

/-- R198, R205 and R206. PCA_PROFILE_LOAD leaves the cache as it is. HOLD_REQUEST in RUNNING, for a cache that holds no page twice: the
phase's pages are the hold set, none is faulted; a VALID slot of one of them is held, a FILLING slot and a queue entry take a hold mark
(the entry's class is then hold), and each page that stands nowhere enters the queue with one. RELEASE_REQUEST in RUNNING: the hold set is
empty, no slot of the phase's pages is held or marked, the queue entries lose their hold marks, and one left without a waiter goes. Then
the head is tried. That it is tried once, after all pages, is log 21. -/
def Obligations.HoldAndReleaseRequestsMoveTheHoldSet : Prop :=
  (∀ s : State, Completes (exec .pcaProfileLoad s) (fun t =>
    t.handoffs = s.handoffs.erase .pcaProfileLoad ∧ Frame.only [.handoffs] s t))
  ∧ ∀ (s : State) (ph : Phase), s.running = true →
    let pages := (List.range s.pfl.profile.musterLangs).map (phasePage s.pfl.profile ph)
    let marked : List Waiter → List Waiter := fun ws => if ws.contains .hold then ws else ws ++ [.hold]
    let unmarked : List Waiter → List Waiter := fun ws => ws.filter (fun x => x != .hold)
    let absent : Nat → Bool := fun n =>
      (indices 16).all (fun i => s.pca.slots[i].state == .empty || s.pca.slots[i].page != n) && s.pca.queue.all (fun e => e.page != n)
    (CacheOk s.pca → Completes (exec (.holdRequest ph) s) (fun t =>
      t.pca = Pca.tryFetch { s.pca with
        slots := tabulate (fun i =>
          let c := s.pca.slots[i]
          if c.page ∈ pages then
            match c.state with
            | .valid => { c with held := true }
            | .filling => { c with waiters := marked c.waiters }
            | .empty => c
          else c)
        queue := s.pca.queue.map (fun e => if e.page ∈ pages then { e with waiters := marked e.waiters } else e)
          ++ (pages.filter absent).map (fun n => { page := n, waiters := [.hold] })
        holdPhase := some ph, holdPages := pages, faulted := false }
      ∧ t.handoffs = s.handoffs.erase (.holdRequest ph) ∧ Frame.only [.pca, .handoffs] s t))
    ∧ Completes (exec (.releaseRequest ph) s) (fun t =>
      t.pca = Pca.tryFetch { s.pca with
        slots := tabulate (fun i =>
          let c := s.pca.slots[i]
          if c.page ∈ pages then { c with held := false, waiters := unmarked c.waiters } else c)
        queue := (s.pca.queue.map (fun e => if e.page ∈ pages then { e with waiters := unmarked e.waiters } else e)).filter
          (fun e => !e.waiters.isEmpty)
        holdPhase := none, holdPages := [], faulted := false }
      ∧ t.handoffs = s.handoffs.erase (.releaseRequest ph) ∧ Frame.only [.pca, .handoffs] s t)


/-! ### Host Port (10) -/

/-- R209: the first byte of a transaction is the command's code, the second the number of its parameter bytes; a transaction cut short
before the last of them brings only its release; from the marker on the part returns the response, and 0x00 behind it and while none is
formed. R210 steps 1 to 4, for a command that meets no open transaction: an unknown code is INVALID in every state; in STARTING
every command is BUSY with reason STARTING; in FALLBACK all but STATUS and RESTART are NOT_OPERATIONAL; then a wrong parameter length is
INVALID. The command so answered does nothing else. -/
def Obligations.HostChecksDecideInOrder : Prop :=
  let codes : List Byte := [0x01, 0x02, 0x03, 0x04, 0x05, 0x06, 0x10, 0x11, 0x12, 0x13, 0x20, 0x21, 0x22, 0x30, 0x31, 0x3F]
  (∀ (code m : Byte) (params rest : List Byte),
    readCommand [] = none ∧ readCommand [code] = none
    ∧ (rest.length < m.toNat → readCommand (code :: m :: rest) = none)
    ∧ (params.length = m.toNat → readCommand (code :: m :: (params ++ rest)) = some (commandOf code params))
    ∧ codes.map (fun c => commandOf c params) = (hostTable params).map (·.1)
    ∧ (code ∉ codes → commandOf code params = .unknownCommand code params))
  ∧ (∀ (bytes : List Byte) (clocked : Nat),
    (readCommand bytes = none → transactionCommands bytes clocked = [.selectRelease clocked])
    ∧ ∀ i, readCommand bytes = some i → transactionCommands bytes clocked = [i, .selectRelease clocked])
  ∧ (∀ (h : Hpt) (k : Nat), (h.transaction = none → h.output k = 0)
    ∧ ∀ x, h.transaction = some x → (x.response.length ≤ k → h.output k = 0) ∧ ∀ y, x.response[k]? = some y → h.output k = y)
  ∧ ∀ (s : State) (params : List Byte), s.hpt.transaction = none →
    let turned : Instr → Nat → Nat → Prop := fun i code reason => Completes (exec i s) (fun t =>
      answers t code reason [] ∧ t.hpt = { s.hpt with transaction := t.hpt.transaction } ∧ Frame.only [.hpt] s t)
    (∀ code, turned (.unknownCommand code params) 5 0)
    ∧ ∀ x ∈ hostTable params,
      (s.pfl.node = .starting → turned x.1 3 1)
      ∧ (s.pfl.node = .fallback → x.2.1 = false → turned x.1 4 0)
      ∧ (s.pfl.node = .running ∨ (s.pfl.node = .fallback ∧ x.2.1 = true) → x.2.2 = false → turned x.1 5 0)

/-- R118, R212, R213, R215 and R217. STATUS returns 13 bytes and clears notices-lost, set again by a cut that returned it set; in FALLBACK
it returns the node state, the node id read and zeros (its response code there is a free value, log 10). READ NOTICE removes and returns
the head notice, laid out by its kind in 8 bytes, or answers EMPTY. READ MUSTER returns 16 bytes, the seconds the stand-down timer has
left among them, and clears the muster-change flag; a cut sets it, whether or not it was set before (log 16). The epoch bytes of READ
MUSTER while the epoch is absent are log 46. -/
def Obligations.StatusNoticeAndMusterReads : Prop :=
  ∀ s : State, s.hpt.transaction = none →
    let cut : State → Option CutAction := fun t => t.hpt.transaction.map (·.cut)
    let bit : Bool → Nat → Nat := fun b n => if b then n else 0
    let ix : FaceIx → Byte := fun f => natByte f.val
    let condition : Condition → Byte := fun c => match c with
      | .complete => 1 | .halted => 2 | .faceFault => 3 | .pageFault => 4 | .faceSilent => 5
    let laidOut : Notice → List Byte := fun n => match n with
      | .chainEnd f e => [1, ix f, condition e.condition, natByte e.done, natByte e.total, 0, 0, 0]
      | .progress f i total => [2, ix f, natByte i, natByte total, 0, 0, 0, 0]
      | .attention f code => [3, ix f, code, 0, 0, 0, 0, 0]
      | .faceState f r code => [4, ix f, (match r with | .offline => 1 | .online => 2 | .fault => 3), code, 0, 0, 0, 0]
      | .drawFault f k c p => [5, ix f, (match k with | .muster => 1 | .content => 2), condition c,
          natByte (match p with | .header => 0 | .line i => i.val + 1 | .privacy => 5), 0, 0, 0]
      | .legState l neighbour st =>
          [6, natByte l.val, neighbour, (match st with | .unheard => 0 | .up => 1 | .silent => 2), 0, 0, 0, 0]
      | .linkDrop p kind c origin identity =>
          [7, (match p with | .da => 0 | .db => 1), kind, (match c with | .attempts => 1 | .displaced => 2), origin]
            ++ wordBytes identity ++ [0]
      | .programmeFull id start => [8] ++ natBytes2 id ++ [natByte (start / 65536)] ++ natBytes2 start ++ [0, 0]
    (s.pfl.node = .running → Completes (exec (.status []) s) (fun t =>
      answers t 1 0 ([2, s.pfl.profile.nodeId, natByte s.hpt.notices.length,
          natByte (bit s.hpt.noticesLost 1 + bit s.hpt.musterChange 2 + bit s.sck.isSet 4 + bit s.muc.epoch.isSome 8),
          natByte (phaseCode s.muc.phase)] ++ wordBytes (s.muc.epoch.getD 0)
        ++ (if s.sck.isSet then [natByte s.sck.day] ++ natBytes2 s.sck.minute ++ [natByte s.sck.second] else [0, 0, 0, 0])
        ++ [natByte s.plu.items.length, natByte (64 - s.fsc.poolUsed)])
      ∧ cut t = some (if s.hpt.noticesLost then .setNoticesLost else .nothing)
      ∧ t.hpt = { s.hpt with noticesLost := false, transaction := t.hpt.transaction } ∧ Frame.only [.hpt] s t))
    ∧ (s.pfl.node = .fallback → Completes (exec (.status []) s) (fun t =>
      (∃ code, code ∈ [1, 2, 4, 5, 6, 7] ∧ answers t code 0 ([3, s.pfl.readId] ++ List.replicate 11 (0 : Byte)))
      ∧ t.hpt = { s.hpt with transaction := t.hpt.transaction } ∧ Frame.only [.hpt, .freeCount] s t))
    ∧ (s.pfl.node = .running →
      (s.hpt.notices = [] → Completes (exec (.readNotice []) s) (fun t =>
        answers t 7 0 [] ∧ t.hpt = { s.hpt with transaction := t.hpt.transaction } ∧ Frame.only [.hpt] s t))
      ∧ (∀ n rest, s.hpt.notices = n :: rest → Completes (exec (.readNotice []) s) (fun t =>
        answers t 1 0 (laidOut n) ∧ (laidOut n).length = 8 ∧ cut t = some .setNoticesLost
        ∧ t.hpt = { s.hpt with notices := rest, transaction := t.hpt.transaction } ∧ Frame.only [.hpt] s t))
      ∧ Completes (exec (.readMuster []) s) (fun t =>
        answers t 1 0 ([(if s.muc.epoch.isSome then 1 else 0 : Byte)] ++ wordBytes (s.muc.epoch.getD 0)
            ++ [natByte (phaseCode s.muc.phase), s.muc.origin, natByte s.muc.zones.length]
            ++ (s.muc.zones ++ List.replicate (8 - s.muc.zones.length) (0 : Byte))
            ++ [natByte s.muc.standDown, natByte (match s.muc.held with | some h => phaseCode h | none => 0)])
        ∧ cut t = some .setMusterChange
        ∧ t.hpt = { s.hpt with musterChange := false, transaction := t.hpt.transaction }
        ∧ Frame.only [.hpt] s t))
    ∧ [Phase.quiet, .alert, .proceed, .hold, .standDown].map phaseCode = [0, 1, 2, 3, 4]

/-- R23, R47, R191 and R214, in RUNNING: READ ROUTE, READ LEG and READ FACE answer INVALID out of range; else they return the entry,
the leg (zeros when unconfigured) or the face word (zeros but the pool's free slots when disabled), and READ FACE clears the stacked
ending it returns. -/
def Obligations.RouteLegAndFaceReads : Prop :=
  ∀ (s : State) (b : Byte), s.hpt.transaction = none → s.pfl.node = .running →
    let reads : Instr → List Byte → Prop := fun i data => Completes (exec i s) (fun t =>
      answers t 1 0 data ∧ t.hpt = { s.hpt with transaction := t.hpt.transaction } ∧ Frame.only [.hpt] s t)
    let bit : Bool → Nat → Nat := fun b n => if b then n else 0
    let costBytes : Cost → List Byte := fun c => match c with
      | .finite n => natBytes2 n | .unknown => natBytes2 65534 | .unreachable => natBytes2 65535
    let refuses : Instr → Prop := fun i => Completes (exec i s) (fun t =>
      answers t 5 0 [] ∧ t.hpt = { s.hpt with transaction := t.hpt.transaction } ∧ Frame.only [.hpt] s t)
    (63 < b.toNat → refuses (.readRoute [b])) ∧ (5 < b.toNat → refuses (.readLeg [b])) ∧ (31 < b.toNat → refuses (.readFace [b]))
    ∧ (∀ d : DestIx, d.val = b.toNat →
        let e := s.rtu.table[d]
        reads (.readRoute [b]) ([(match e.best with | .leg l => natByte l.val | .here => 6 | .none => 7)] ++ costBytes e.cost
          ++ [(if e.anchor.isSome then 1 else 0 : Byte), natByte (e.anchor.getD 0)]
          ++ costBytes e.adv[0] ++ costBytes e.adv[1] ++ costBytes e.adv[2] ++ costBytes e.adv[3] ++ costBytes e.adv[4]
          ++ costBytes e.adv[5] ++ [natByte (bit e.changedDA 1 + bit e.changedDB 2)]))
    ∧ (∀ l : LegIx, l.val = b.toNat →
        (s.lgm.legs[l].fixed = none → reads (.readLeg [b]) (List.replicate 12 0))
        ∧ ∀ f p, s.lgm.legs[l].fixed = some f → s.rtu.legs[l] = some p →
          let r := s.lgm.legs[l]
          let kind : Byte := match f.kind with
            | .corridor => 1 | .doorway => 2 | .outerDeck => 3 | .lift => 4 | .stairDown => 5 | .stairUp => 6
          reads (.readLeg [b]) ([f.neighbour, (match f.port with | .da => 0 | .db => 1), f.farZone, kind] ++ natBytes2 f.length
            ++ [(match r.link with | .unheard => 0 | .up => 1 | .silent => 2),
                natByte (bit f.doorUsed 1 + bit r.localDoor 2 + bit r.remoteDoor 4 + bit (r.localDoor || r.remoteDoor) 8 + bit r.smoke 16
                  + bit r.barred 32 + bit r.passable 64), natByte r.crowd, natByte p.pace]
            ++ natBytes2 p.cost))
    ∧ ∀ f : FaceIx, f.val = b.toNat →
        let w := s.fsc.words[f]
        let free := natByte (64 - s.fsc.poolUsed)
        (w.address = none → reads (.readFace [b]) (List.replicate 8 (0 : Byte) ++ [free, 0, 0, 0]))
        ∧ (w.address.isSome = true → Completes (exec (.readFace [b]) s) (fun t =>
            let cls : DemandClass → Byte := fun k => match k with
              | .muster => 1 | .content => 2
            answers t 1 0 ([(match w.state with | .idle => 1 | .active => 2 | .waitPage => 3 | .transfer => 4 | .offline => 5 : Byte)]
              ++ (match w.active with
                | some { body := .generated k parts, index := i, .. } => [cls k, natByte i, natByte parts.length]
                | some { body := .supplied rs _ _, index := i, .. } => [3, natByte i, natByte rs.length]
                | none => [0, 0, 0])
              ++ [(match w.pending with | some rs => natByte rs.length | none => 0), (match w.cls with | some k => cls k | none => 0),
                  natByte ((match w.active with | some { body := .supplied _ _ true, .. } => 1 | _ => 0)
                    + bit w.redirty 2 + bit w.attnStacked 4 + bit w.privacy 8 + bit w.hostHeld 16), natByte w.retry, free]
              ++ (match w.stacked with
                | some e => [(match e.condition with
                    | .complete => 1 | .halted => 2 | .faceFault => 3 | .pageFault => 4 | .faceSilent => 5 : Byte), natByte e.done, natByte e.total]
                | none => [0, 0, 0]))
            ∧ t.fsc.words[f] = { w with stacked := none } ∧ otherWords f s t ∧ t.fsc.string = s.fsc.string
            ∧ t.hpt = { s.hpt with transaction := t.hpt.transaction } ∧ Frame.only [.hpt, .fsc] s t))

/-- R152, R166 and R177 to R179, in RUNNING: START FACE CHAIN, HALT FACE, RELEASE FACE and SET FACE LANGUAGE are INVALID on a face above
31; else each goes by the first row of its table that applies, START FACE CHAIN after its list's marks and pages. That a chain's end
releases the pin of a started record before it withdraws the prefetch mark is log 47. -/
def Obligations.FaceCommandsByFirstRow : Prop :=
  ∀ (s : State) (f : FaceIx), s.hpt.transaction = none → s.pfl.node = .running →
    let w := s.fsc.words[f]
    let face := natByte f.val
    let only : Instr → Nat → Nat → Prop := fun i code reason => Completes (exec i s) (fun t =>
      answers t code reason [] ∧ t.hpt = { s.hpt with transaction := t.hpt.transaction } ∧ Frame.only [.hpt] s t)
    let noted : Hpt → ChainEnding → Hpt := fun h e => if h.notices.length < 32 then { h with notices := h.notices ++ [.chainEnd f e] } else h
    let stackedBy : ChainEnding → Option ChainEnding := fun e => if s.hpt.notices.length < 32 then w.stacked else some e
    (∀ b : Byte, 31 < b.toNat → only (.haltFace [b]) 5 0 ∧ only (.releaseFace [b]) 5 0 ∧ (∀ l, only (.setFaceLanguage [b, l]) 5 0)
      ∧ ∀ params, 2 ≤ params.length → params.length = 2 + 3 * (byteAt params 1).toNat → byteAt params 0 = b →
        only (.startFaceChain params) 5 0)
    ∧ (∀ params, params.length = 2 + 3 * (byteAt params 1).toNat → byteAt params 0 = face →
      let rs := readSuppliedList params
      let field : Nat → Nat := fun k => (byteAt params k).toNat
      (rs.length = field 1 ∧ ∀ i, i < field 1 → rs[i]? = some
        { page := field (2 + 3 * i) * 256 + field (3 + 3 * i), chain := (byteAt params (4 + 3 * i)).getLsbD 0
          notify := (byteAt params (4 + 3 * i)).getLsbD 1, hold := (byteAt params (4 + 3 * i)).getLsbD 2 }) ∧
      let ok := 1 ≤ rs.length ∧ rs.length ≤ 8 ∧ ∀ (i : Nat) (r : SuppliedRecord), rs[i]? = some r →
        r.page ≤ 4095 ∧ (r.chain = true ↔ i + 1 < rs.length) ∧ (r.hold = true → i + 1 = rs.length)
      let i := Instr.startFaceChain params
      let busyFace := w.suppliedActive = true ∨ w.pending.isSome = true ∨ w.stacked.isSome = true
      (¬ ok → only i 5 0)
      ∧ (ok → w.address = none → only i 4 0)
      ∧ (ok → w.address.isSome = true → s.muc.phase ≠ .quiet → only i 3 2)
      ∧ (ok → w.address.isSome = true → s.muc.phase = .quiet →
        (busyFace → only i 3 3)
        ∧ (¬ busyFace → 64 - s.fsc.poolUsed < rs.length → only i 3 4)
        ∧ (¬ busyFace → rs.length ≤ 64 - s.fsc.poolUsed →
          (w.state = .offline → Completes (exec i s) (fun t =>
            let e : ChainEnding := { condition := .faceSilent, done := 0, total := rs.length }
            answers t 2 0 [] ∧ t.hpt = { noted s.hpt e with transaction := t.hpt.transaction }
            ∧ t.fsc.words[f] = { w with stacked := stackedBy e } ∧ otherWords f s t ∧ Frame.only [.hpt, .fsc] s t))
          ∧ (w.state ≠ .offline → w.generatedActive = true → Completes (exec i s) (fun t =>
            answers t 1 0 [] ∧ t.hpt = { s.hpt with transaction := t.hpt.transaction }
            ∧ t.fsc.words[f] = { w with pending := some rs } ∧ otherWords f s t ∧ Frame.only [.hpt, .fsc] s t))
          ∧ (w.state ≠ .offline → w.generatedActive = false → Completes (exec i s) (fun t =>
            let chain : ActiveChain := { body := .supplied rs 0 false, index := 0, seq := s.fsc.seqCount }
            let v : FaceWord := { w with
              active := some chain, recordAged := false
              state := if s.onString f then .transfer else if w.waiting.isSome then .waitPage else .active }
            answers t 1 0 [] ∧ t = { s with
              fsc := { s.fsc with words := setAt s.fsc.words f v, seqCount := s.fsc.seqCount + 1 }
              hpt := { s.hpt with transaction := t.hpt.transaction } })))))
    ∧ (w.address = none → only (.haltFace [face]) 4 0)
    ∧ (w.address.isSome = true →
      (∀ rs, w.pending = some rs → Completes (exec (.haltFace [face]) s) (fun t =>
        let e : ChainEnding := { condition := .halted, done := 0, total := rs.length }
        answers t 2 0 [] ∧ t.hpt = { noted s.hpt e with transaction := t.hpt.transaction }
        ∧ t.fsc.words[f] = { w with pending := none, prefetch := none, stacked := stackedBy e } ∧ otherWords f s t
        ∧ t.pca = s.pca.withdrawPrefetch f ∧ Frame.only [.hpt, .fsc, .pca] s t))
      ∧ (w.pending = none → ∀ rs done halt i n, w.active = some { body := .supplied rs done halt, index := i, seq := n } →
        (s.drawing f = true → Completes (exec (.haltFace [face]) s) (fun t =>
          answers t 1 0 [] ∧ t.hpt = { s.hpt with transaction := t.hpt.transaction }
          ∧ t.fsc.words[f] = { w with active := some { body := .supplied rs done true, index := i, seq := n } }
          ∧ otherWords f s t ∧ Frame.only [.hpt, .fsc] s t))
        ∧ (s.drawing f = false → Completes (exec (.haltFace [face]) s) (fun t =>
          let u := suppliedEnded s f rs done .halted
          answers t 2 0 [] ∧ t = { u with hpt := { u.hpt with transaction := t.hpt.transaction } })))
      ∧ (w.pending = none → w.suppliedActive = false → only (.haltFace [face]) 7 0))
    ∧ (s.fcu.faces[f].config = none →
        only (.releaseFace [face]) 4 0 ∧ ∀ l : Byte, l.toNat ≤ 15 → only (.setFaceLanguage [face, l]) 4 0)
    ∧ (∀ l : Byte, 15 < l.toNat → only (.setFaceLanguage [face, l]) 5 0)
    ∧ (s.fcu.faces[f].config.isSome = true → Completes (exec (.releaseFace [face]) s) (fun t =>
        answers t 1 0 [] ∧ t.hpt = { s.hpt with transaction := t.hpt.transaction }
        ∧ t.fsc.words[f] = { w with hostHeld := false } ∧ otherWords f s t
        ∧ t.handoffs = s.handoffs ++ demandsFor t (fun g _ => g == f) ∧ Frame.only [.hpt, .fsc, .handoffs] s t))
    ∧ (∀ (c : FaceConfig) (l : Byte), s.fcu.faces[f].config = some c → l.toNat ≤ 15 →
        (∀ langs mode ms, c.kind = .sign langs mode ms → only (.setFaceLanguage [face, l]) 5 0)
        ∧ ∀ old page st, c.kind = .door old page st → Completes (exec (.setFaceLanguage [face, l]) s) (fun t =>
            answers t 1 0 [] ∧ t.hpt = { s.hpt with transaction := t.hpt.transaction }
            ∧ t.fcu.faces[f] = { s.fcu.faces[f] with config := some { c with kind := .door l.toNat page st } }
            ∧ (∀ g : FaceIx, g ≠ f → t.fcu.faces[g] = s.fcu.faces[g])
            ∧ t.handoffs = s.handoffs ++ demandsFor t (fun g _ => g == f) ∧ Frame.only [.hpt, .fcu, .handoffs] s t))

/-- R139 and R140, in RUNNING. LOAD ITEM is the offer of its fields taken without the zone filter; it is answered by the offer's
outcome, and one that is stored, replaced or dropped for room has its PROGRAMME frame originated on both ports. WITHDRAW ITEM answers
EMPTY with no item of the id and INVALID at revision 255; else it is the LOAD ITEM of the item held with its revision one higher and
CANCELLED set. The data byte 255 of the answer at revision 255 is the model's choice (log 15). -/
def Obligations.LoadAndWithdrawOfferAndOriginate : Prop :=
  ∀ (s : State) (params : List Byte), s.hpt.transaction = none → s.pfl.node = .running →
    let loads : Instr → Offer → Word → Word → Prop := fun i o target mask => Completes (exec i s) (fun t =>
      let u := (s.offer o).1
      let body : ProgrammeBody := { origin := s.pfl.profile.nodeId, offer := o, target := target, mask := mask }
      let frame : Frame := { hop := 0, sender := s.pfl.profile.nodeId, body := .programme body }
      let sent := .programme s.pfl.profile.nodeId o.id o.revision ∈ t.dlc.ring
        ∧ ∀ q : Port, ((t.dlc.ports.get q).programme.getLast?.map (·.item)) = some frame
      t.plu = u.plu ∧ t.handoffs = u.handoffs ∧ Frame.only [.hpt, .plu, .handoffs, .dlc] s t
      ∧ ((s.offer o).2 = .outOfRange → answers t 5 0 [] ∧ t.dlc = s.dlc)
      ∧ (∀ r, (s.offer o).2 = .heldRevision r → answers t 5 0 [natByte r] ∧ t.dlc = s.dlc)
      ∧ ((s.offer o).2 = .expired → answers t 6 0 [] ∧ t.dlc = s.dlc)
      ∧ ((s.offer o).2 = .stored → answers t 1 0 [1] ∧ sent)
      ∧ ((s.offer o).2 = .replaced → answers t 1 0 [2] ∧ sent)
      ∧ ((s.offer o).2 = .dropped → answers t 1 0 [3] ∧ sent))
    let only : Instr → Nat → List Byte → Prop := fun i code data => Completes (exec i s) (fun t =>
      answers t code 0 data ∧ t.hpt = { s.hpt with transaction := t.hpt.transaction } ∧ Frame.only [.hpt] s t)
    (params.length = 16 → loads (.loadItem params)
      { id := wordAt params 0, revision := byteAt params 2, day := byteAt params 3, start := wordAt params 4, stop := wordAt params 6,
        venue := byteAt params 8, titlePage := wordAt params 9, cancelled := (byteAt params 11).getLsbD 0,
        moved := (byteAt params 11).getLsbD 1 } (wordAt params 12) (wordAt params 14))
    ∧ (params.length = 6 →
      (s.plu.find (wordAt params 0).toNat = none → only (.withdrawItem params) 7 [])
      ∧ ∀ i, s.plu.find (wordAt params 0).toNat = some i →
        (i.revision = 255 → only (.withdrawItem params) 5 [255])
        ∧ (i.revision ≠ 255 → loads (.withdrawItem params)
            { id := BitVec.ofNat 16 i.id, revision := natByte (i.revision + 1), day := natByte i.day, start := BitVec.ofNat 16 i.start,
              stop := BitVec.ofNat 16 i.stop, venue := natByte i.venue, titlePage := BitVec.ofNat 16 i.titlePage, cancelled := true,
              moved := i.moved } (wordAt params 2) (wordAt params 4)))

/-- R44, R113 and R132, in RUNNING, with the command's number of bytes. SET CLOCK out of range, RAISE PHASE with a bad phase or zone
list and SET CONDITION with bad ends are INVALID. Else SET CLOCK adopts the time under a new number, RAISE PHASE adopts the next epoch
with this node as origin, and SET CONDITION reports under a new number (the order of the legs' reports is log 44); each is ACCEPTED and
its frame waits on both ports. -/
def Obligations.ClockMusterAndConditionCommands : Prop :=
  ∀ (s : State) (params : List Byte), s.hpt.transaction = none → s.pfl.node = .running →
    let me := s.pfl.profile.nodeId
    let b : Nat → Byte := byteAt params
    let invalidly : Instr → Prop := fun i => Completes (exec i s) (fun t =>
      answers t 5 0 [] ∧ t.hpt = { s.hpt with transaction := t.hpt.transaction } ∧ Frame.only [.hpt] s t)
    (params.length = 4 →
      let minute := (wordAt params 1).toNat
      let second := (b 3).toNat
      ((1439 < minute ∨ 59 < second) → invalidly (.setClock params))
      ∧ (minute ≤ 1439 → second ≤ 59 → Completes (exec (.setClock params) s) (fun t =>
          let n := s.sck.counter + 1
          let old := s.sck.day * 1440 + s.sck.minute
          let new := (b 0).toNat * 1440 + minute
          let body : FloodBody := .clock { origin := me, seq := n, day := b 0, minute := wordAt params 1, second := b 3 }
          answers t 1 0 [] ∧ t.hpt = { s.hpt with transaction := t.hpt.transaction }
          ∧ t.sck = { isSet := true, day := (b 0).toNat, minute := minute, second := second, lastOrigin := me, lastSeq := n,
                      timerRunning := true, counter := n }
          ∧ t.handoffs = s.handoffs ++ (if s.sck.isSet = true ∧ old = new then [] else
              let was := if s.sck.isSet then some old else none
              [.minuteEventPlu was new, .minuteEventFcu was new])
          ∧ .clock me n ∈ t.dlc.ring
          ∧ (∀ q : Port, (t.dlc.ports.get q).clock.unsent.map (·.item) = some { hop := 0, sender := me, body := body })
          ∧ Frame.only [.hpt, .sck, .handoffs, .dlc] s t)))
    ∧ (params.length = 2 + (b 1).toNat →
      let zones := params.drop 2
      let bad := phaseOfCode (b 0) = none ∨ 8 < zones.length ∨ ∃ z ∈ zones, z = 0 ∨ 63 < z.toNat
      (bad → invalidly (.raisePhase params))
      ∧ ∀ ph, ¬ bad → phaseOfCode (b 0) = some ph → Completes (exec (.raisePhase params) s) (fun t =>
          let epoch := match s.muc.epoch with
            | some e => e + 1
            | none => 1
          let body : FloodBody := .alarm { epoch := epoch, phaseCode := natByte (phaseCode ph), origin := me, zones := zones }
          answers t 1 0 [] ∧ t.hpt = { s.hpt with musterChange := true, transaction := t.hpt.transaction }
          ∧ t.muc = { epoch := some epoch, phase := ph, origin := me, zones := zones, standDown := if ph = .standDown then 60 else 0,
                      repeatRunning := true, held := some ph }
          ∧ t.handoffs = s.handoffs ++ [.musterReportLgm, .musterReportFcu, .musterAdoptionFsc]
              ++ (if s.muc.held = some ph then [] else s.muc.held.toList.map Instr.releaseRequest ++ [.holdRequest ph])
          ∧ t.dlc.ring = s.dlc.ring
          ∧ (∀ q : Port, (t.dlc.ports.get q).alarm.unsent.map (·.item) = some { hop := 0, sender := me, body := body })
          ∧ Frame.only [.hpt, .muc, .handoffs, .dlc] s t))
    ∧ (params.length = 4 →
      let bad := b 0 = 0 ∨ b 0 = 255 ∨ b 1 = 0 ∨ b 1 = 255 ∨ b 0 = b 1
      (bad → invalidly (.setCondition params))
      ∧ (¬ bad → Completes (exec (.setCondition params) s) (fun t =>
          let n := s.lgm.condSeq + 1
          let c : ConditionBody := { origin := me, seq := n, end1 := b 0, end2 := b 1, doorClosed := (b 2).getLsbD 0,
                                     smoke := (b 2).getLsbD 1, crowdValid := (b 2).getLsbD 2, crowd := natByte (min 7 (b 3).toNat) }
          let meets : LegRecord → Bool := fun r => r.fixed.any (fun f =>
            (c.end1 == me && c.end2 == f.neighbour) || (c.end2 == me && c.end1 == f.neighbour))
          let applied : LegRecord → LegRecord := fun r => s.evaluated { r with
            remoteDoor := c.doorClosed, smoke := c.smoke
            crowd := if c.crowdValid then min 7 (b 3).toNat else r.crowd, crowdRunning := c.crowdValid || r.crowdRunning }
          answers t 1 0 [] ∧ t.lgm.condSeq = n ∧ t.lgm.doors = s.lgm.doors
          ∧ (∀ l : LegIx, t.lgm.legs[l] = if meets s.lgm.legs[l] then applied s.lgm.legs[l] else s.lgm.legs[l])
          ∧ t.handoffs = s.handoffs ++ (indices 6).filterMap (fun l =>
              if meets s.lgm.legs[l] then (legChange l s.lgm.legs[l] (applied s.lgm.legs[l])).map Instr.legReport else none)
          ∧ .condition me n ∈ t.dlc.ring
          ∧ (∀ q : Port, ∃ i : Fin 4, (t.dlc.ports.get q).condRelay[i].unsent.map (·.item)
              = some { hop := 0, sender := me, body := .condition c })
          ∧ Frame.only [.hpt, .lgm, .handoffs, .dlc] s t)))

/-- R209, R211 and R218. RESTART is answered ACCEPTED in RUNNING and FALLBACK and changes nothing else until select is released, which
carries it out whole: STARTING with the profile read begun, the counters, clock, list and muster record kept. SELECT_RELEASE with no
RESTART ends the transaction; a response not clocked out whole is cut short. The attention line stands exactly while a notice is held or
the muster-change flag is set. That outstanding hand-offs but the minute events of the PLU are dropped is log 5, that the door lines keep
their levels is log 24, and the values of the profile, the node id read and the placing counter until the profile read ends are log 25. -/
def Obligations.RestartReleaseAndAttentionLine : Prop :=
  ∀ s : State,
    (s.attentionLine = true ↔ s.hpt.notices ≠ [] ∨ s.hpt.musterChange = true)
    ∧ (s.hpt.transaction = none → s.pfl.node ≠ .starting → Completes (exec (.restart []) s) (fun t =>
        answers t 1 0 [] ∧ t.hpt = { s.hpt with restart := true, transaction := t.hpt.transaction } ∧ Frame.only [.hpt] s t))
    ∧ ∀ clocked : Nat,
      (s.hpt.restart = false → Completes (exec (.selectRelease clocked) s) (fun t =>
        Frame.only [.hpt] s t
        ∧ (s.hpt.transaction = none → t.hpt = s.hpt)
        ∧ ∀ x, s.hpt.transaction = some x →
          (x.response.length ≤ clocked ∨ x.cut = .nothing → t.hpt = { s.hpt with transaction := none })
          ∧ (clocked < x.response.length → x.cut = .setNoticesLost → t.hpt = { s.hpt with transaction := none, noticesLost := true })
          ∧ (clocked < x.response.length → x.cut = .setMusterChange → t.hpt = { s.hpt with transaction := none, musterChange := true })))
      ∧ (s.hpt.restart = true → s.hpt.transaction.any (fun x => x.cut != .nothing) = false →
        Completes (exec (.selectRelease clocked) s) (fun t =>
          t.pfl = State.reset.pfl ∧ t.rtu = State.reset.rtu ∧ t.adu = State.reset.adu ∧ t.dlc = State.reset.dlc
          ∧ t.fcu = State.reset.fcu ∧ t.fsc = State.reset.fsc ∧ t.pca = State.reset.pca
          ∧ t.lgm.legs = State.reset.lgm.legs ∧ t.lgm.condSeq = s.lgm.condSeq
          ∧ (∀ l : LegIx, t.lgm.doors[l] = { closed := s.lgm.doors[l].closed, wait := false })
          ∧ t.sck = s.sck ∧ t.plu = s.plu ∧ t.muc = { s.muc with held := none }
          ∧ t.hpt = { notices := [], musterChange := s.hpt.musterChange && s.muc.phase != .quiet, noticesLost := false,
                      transaction := none, restart := false }
          ∧ (∀ e ∈ t.handoffs, ∃ old new, e = .minuteEventPlu old new)
          ∧ t.freeCount = s.freeCount ∧ t.pending = s.pending))

/-! ### Profile Loader (11) -/

/-- R223 and R224: the fields of the profile at their byte positions, each brought into its range; a timing field takes its default under
its bit of the mask; list entries beyond a count are not taken; a leg or face with a field that allows no value is unconfigured or
disabled, as is a face whose address a lower enabled face has. Anchors are kept as listed; R4 skips those above destination 63. -/
def Obligations.ProfileFieldsAndRanges : Prop :=
  ∀ b : List Byte, b.length = 2048 →
    let p := readProfile b
    let byte : Nat → Nat := fun k => (b[k]?.getD 0).toNat
    let word : Nat → Nat := fun k => byte k * 256 + byte (k + 1)
    let flag : Nat → Nat → Bool := fun k i => (b[k]?.getD 0).getLsbD i
    let timing : Nat → Nat → Nat → Nat → Nat → Nat := fun bit deflt low high read => if flag 11 bit then deflt else max low (min high read)
    let items : Nat → Nat → Nat → List Nat := fun k count high => (List.range count).map (fun i => min high (byte (k + i)))
    (p.nodeId.toNat = byte 0 ∧ p.zone.toNat = word 1 ∧ p.hostPresent = flag 3 0
      ∧ p.advertTick = timing 0 500 100 2000 (word 4) ∧ p.silenceLimit = timing 1 8 4 32 (byte 6)
      ∧ p.horizon = timing 2 30000 1000 60000 (word 7) ∧ p.switchMargin = timing 3 20 0 255 (byte 9)
      ∧ p.relayLimit = timing 4 8 1 15 (byte 10)
      ∧ p.destBase = min 3072 (word 12) ∧ p.musterBase = min 4016 (word 14) ∧ p.musterLangs = max 1 (min 4 (byte 16))
      ∧ p.anchors = (List.range (min 16 (byte 17))).map (fun j => (byte (18 + 2 * j), byte (19 + 2 * j))))
    ∧ (∀ l : LegIx,
      let a := 50 + 7 * l.val
      let bad := byte a = 0 ∨ byte a = 255 ∨ 1 < byte (a + 1) ∨ byte (a + 2) = 0 ∨ 63 < byte (a + 2) ∨ byte (a + 3) = 0 ∨ 6 < byte (a + 3)
      (bad → p.legs[l] = none)
      ∧ ∀ kind, ¬ bad → [LegKind.corridor, .doorway, .outerDeck, .lift, .stairDown, .stairUp][byte (a + 3) - 1]? = some kind →
        p.legs[l] = some { port := if byte (a + 1) = 0 then .da else .db, neighbour := natByte (byte a), farZone := natByte (byte (a + 2)),
                           kind := kind, length := max 1 (min 1023 (word (a + 4))), doorUsed := flag (a + 6) 0 })
    ∧ ∀ f : FaceIx,
      let a := 96 + 32 * f.val
      let isSign := byte a = 1
      let isDoor := byte a = 2
      let fields := byte (a + 1) ≠ 0 ∧ byte (a + 1) ≠ 255 ∧ ((isSign ∧ (byte (a + 2) = 1 ∨ byte (a + 2) = 2)) ∨ isDoor)
      let twin := ∃ (g : FaceIx) (c : FaceConfig), g < f ∧ p.faces[g] = some c ∧ c.address.toNat = byte (a + 1)
      (p.faces[f].isSome = true ↔ fields ∧ ¬ twin)
      ∧ ∀ c, p.faces[f] = some c → c.address.toNat = byte (a + 1) ∧ (∀ l : LegIx, c.glyphs[l].toNat = byte (a + 7 + l.val))
        ∧ (isSign → ∃ mode muster, c.kind = .sign (items (a + 4) (max 1 (min 3 (byte (a + 3)))) 15) mode muster
          ∧ muster.map (·.val) = items (a + 28) (min 4 (byte (a + 27))) 7
          ∧ (byte (a + 2) = 1 → ∃ ds, mode = .wayfind ds ∧ ds.map (·.val) = items (a + 14) (min 4 (byte (a + 13))) 63)
          ∧ (byte (a + 2) = 2 → if byte (a + 18) = 0 ∨ byte (a + 18) = 255 then mode = .programme .all else
              ∃ ds, mode = .programme (.only ds) ∧ ds.map (·.val) = items (a + 19) (min 8 (byte (a + 18))) 63))
        ∧ (isDoor → ∃ station, c.kind = .door (min 15 (byte (a + 4))) (if word (a + 14) ≤ 4095 then word (a + 14) else 0) station
          ∧ station.val = min 7 (byte (a + 16)))

/-- R222 to R225. START puts every block at its start values in any state. The profile read's end enters RUNNING with the profile
installed and the seven load events handed out, the LGM's before the RTU's, when the sum of the first 1023 words is the last word and
the node id is 1 to 254; else, as when a frame is not ready, it enters FALLBACK: slots, notices and list emptied, muster timers stopped,
page 5 read, the node id byte 0 as read, or 0 with no page memory (operand none). The end of that read broadcasts its picture, or a blank
one, to address 255. That outstanding hand-offs are dropped is log 5, that missing page bytes read 255 is log 11, that the door lines keep
their levels is log 24, the reset values the spec does not state are log 25, that START drops an open host transaction is log 40, and the
node id 0 when byte 0 was not read is log 42. -/
def Obligations.StartProfileReadAndFallback : Prop :=
  ∀ s : State,
    let fallsBack : Instr → Byte → Prop := fun i id => Completes (exec i s) (fun t =>
      t.pfl = { s.pfl with node := .fallback, reading := false, page5Reading := true, readId := id }
      ∧ t.dlc = State.reset.dlc ∧ t.fcu = State.reset.fcu ∧ t.fsc = State.reset.fsc ∧ t.pca = State.reset.pca ∧ t.plu.items = []
      ∧ t.muc = { s.muc with standDown := 0, repeatRunning := false, held := none }
      ∧ t.hpt = { s.hpt with notices := [], musterChange := false, noticesLost := false }
      ∧ t.handoffs = [] ∧ Frame.only [.pfl, .dlc, .fcu, .fsc, .pca, .plu, .muc, .hpt, .handoffs] s t)
    Completes (exec .start s) (fun t =>
      (∀ l : LegIx, t.lgm.doors[l] = { closed := s.lgm.doors[l].closed, wait := false })
      ∧ t = { State.reset with lgm := { State.reset.lgm with doors := t.lgm.doors }, freeCount := s.freeCount, pending := s.pending })
    ∧ (s.pfl.node = .starting → s.pfl.reading = true →
      fallsBack (.profileReadEnd none) 0 ∧ fallsBack (.profileFrameNotReady none) 0
      ∧ (∀ bytes : List Byte, bytes.length = 2048 →
        let sum := ((List.range 1023).map (fun k => (wordAt bytes (2 * k)).toNat)).sum % 65536
        let good := sum = (wordAt bytes 2046).toNat ∧ byteAt bytes 0 ≠ 0 ∧ byteAt bytes 0 ≠ 255
        (good → Completes (exec (.profileReadEnd (some bytes)) s) (fun t =>
          t.pfl = { s.pfl with node := .running, reading := false, readId := byteAt bytes 0, profile := readProfile bytes }
          ∧ t.handoffs = s.handoffs ++ [.lgmProfileLoad, .rtuProfileLoad, .aduProfileLoad, .mucProfileLoad, .fcuProfileLoad,
              .fscProfileLoad, .pcaProfileLoad]
          ∧ Frame.only [.pfl, .handoffs] s t))
        ∧ (¬ good → fallsBack (.profileReadEnd (some bytes)) (byteAt bytes 0)))
      ∧ (∀ bytes : List Byte, fallsBack (.profileFrameNotReady (some bytes)) (bytes.headD 0)))
    ∧ (s.pfl.page5Reading = true →
      let shows : Option (List Byte) → List Byte → Prop := fun frame record => Completes (exec (.fallbackPageReadEnd frame) s) (fun t =>
        t.pfl = { s.pfl with page5Reading := false, broadcast := some (withCheck record) } ∧ Frame.only [.pfl] s t)
      let head : List Byte := [255, 1, 6, 0, 0, 0, 0, 0, 0, 0, 0, 0, 0]
      shows none (head ++ [0, 0, 0, 0])
      ∧ ∀ frame : List Byte, frame.length = 512 →
        let length := (wordAt frame 2).toNat
        ((byteAt frame 0 ≠ 0x5C#8 ∨ length < 4 ∨ 512 < length) → shows (some frame) (head ++ [0, 0, 0, 0]))
        ∧ (byteAt frame 0 = 0x5C#8 → 4 ≤ length → length ≤ 512 →
          shows (some frame) (head ++ [0, 5] ++ natBytes2 length ++ frame.take length)))
end

