-- ==== Sys2Proof/Laws/Bytes.lean ====
section
/-! SUPPORT. The frame check: bytes followed by their check pass it. -/

namespace Sys2Proof.Machine

/-- A word is its two bytes, most significant first. -/
theorem wordBytes_word (w : Word) : (w >>> 8).setWidth 8 ++ w.setWidth 8 = w := by
  apply BitVec.eq_of_getLsbD_eq
  intro i hi
  rw [BitVec.getLsbD_append]
  by_cases h : i < 8
  · simp [h]
  · have h8 : i - 8 < 8 := by omega
    have e : 8 + (i - 8) = i := by omega
    simp [h, h8, e]

/-- The word behind some bytes, read back. -/
theorem wordAt_append (b : List Byte) (w : Word) : wordAt (b ++ wordBytes w) b.length = w := by
  have h1 : byteAt (b ++ wordBytes w) b.length = (w >>> 8).setWidth 8 := by
    simp [byteAt, wordBytes, List.getD_eq_getElem?_getD]
  have h2 : byteAt (b ++ wordBytes w) (b.length + 1) = w.setWidth 8 := by
    simp [byteAt, wordBytes, List.getD_eq_getElem?_getD]
  unfold wordAt
  rw [h1, h2]
  exact wordBytes_word w

/-- Bytes followed by their check pass it (R62). -/
theorem checkGood_withCheck (b : List Byte) : checkGood (withCheck b) = true := by
  have hl : (withCheck b).length - 2 = b.length := by simp [withCheck, wordBytes]
  have h2 : 2 ≤ (withCheck b).length := by simp [withCheck, wordBytes]
  have ht : (withCheck b).take b.length = b := by simp [withCheck]
  unfold checkGood
  simp only [hl, ht, h2]
  simp [withCheck, wordAt_append]

/-- A frame with its check is read by its length, hop and kind alone (R63). -/
theorem readFrame_withCheck (b : List Byte) (hb : 4 ≤ b.length) (hop : (byteAt (withCheck b) 1).toNat ≤ 15) :
    readFrame (withCheck b) = readFrameBody (withCheck b) := by
  unfold readFrame
  rw [if_neg, if_neg (Nat.not_lt.2 hop)]
  rw [checkGood_withCheck]
  have : (withCheck b).length = b.length + 2 := by simp [withCheck, wordBytes]
  simp only [this, Bool.true_eq_false, or_false]
  omega

end Sys2Proof.Machine
end

