-- ==== Sys2Proof/Laws/State.lean ====
section
/-! SUPPORT. One lemma per field for each named update of the state: what it writes, and what it leaves. -/

namespace Sys2Proof.Machine

/-! ### handOff -/

@[simp] theorem State.handOff_rtu (s : State) (e : Instr) : (s.handOff e).rtu = s.rtu := rfl
@[simp] theorem State.handOff_lgm (s : State) (e : Instr) : (s.handOff e).lgm = s.lgm := rfl
@[simp] theorem State.handOff_adu (s : State) (e : Instr) : (s.handOff e).adu = s.adu := rfl
@[simp] theorem State.handOff_dlc (s : State) (e : Instr) : (s.handOff e).dlc = s.dlc := rfl
@[simp] theorem State.handOff_muc (s : State) (e : Instr) : (s.handOff e).muc = s.muc := rfl
@[simp] theorem State.handOff_sck (s : State) (e : Instr) : (s.handOff e).sck = s.sck := rfl
@[simp] theorem State.handOff_plu (s : State) (e : Instr) : (s.handOff e).plu = s.plu := rfl
@[simp] theorem State.handOff_fcu (s : State) (e : Instr) : (s.handOff e).fcu = s.fcu := rfl
@[simp] theorem State.handOff_fsc (s : State) (e : Instr) : (s.handOff e).fsc = s.fsc := rfl
@[simp] theorem State.handOff_pca (s : State) (e : Instr) : (s.handOff e).pca = s.pca := rfl
@[simp] theorem State.handOff_hpt (s : State) (e : Instr) : (s.handOff e).hpt = s.hpt := rfl
@[simp] theorem State.handOff_pfl (s : State) (e : Instr) : (s.handOff e).pfl = s.pfl := rfl
@[simp] theorem State.handOff_handoffs (s : State) (e : Instr) : (s.handOff e).handoffs = s.handoffs ++ [e] := rfl
@[simp] theorem State.handOff_freeCount (s : State) (e : Instr) : (s.handOff e).freeCount = s.freeCount := rfl
@[simp] theorem State.handOff_pending (s : State) (e : Instr) : (s.handOff e).pending = s.pending := rfl

/-! ### handOffs -/

@[simp] theorem State.handOffs_rtu (s : State) (es : List Instr) : (s.handOffs es).rtu = s.rtu := rfl
@[simp] theorem State.handOffs_lgm (s : State) (es : List Instr) : (s.handOffs es).lgm = s.lgm := rfl
@[simp] theorem State.handOffs_adu (s : State) (es : List Instr) : (s.handOffs es).adu = s.adu := rfl
@[simp] theorem State.handOffs_dlc (s : State) (es : List Instr) : (s.handOffs es).dlc = s.dlc := rfl
@[simp] theorem State.handOffs_muc (s : State) (es : List Instr) : (s.handOffs es).muc = s.muc := rfl
@[simp] theorem State.handOffs_sck (s : State) (es : List Instr) : (s.handOffs es).sck = s.sck := rfl
@[simp] theorem State.handOffs_plu (s : State) (es : List Instr) : (s.handOffs es).plu = s.plu := rfl
@[simp] theorem State.handOffs_fcu (s : State) (es : List Instr) : (s.handOffs es).fcu = s.fcu := rfl
@[simp] theorem State.handOffs_fsc (s : State) (es : List Instr) : (s.handOffs es).fsc = s.fsc := rfl
@[simp] theorem State.handOffs_pca (s : State) (es : List Instr) : (s.handOffs es).pca = s.pca := rfl
@[simp] theorem State.handOffs_hpt (s : State) (es : List Instr) : (s.handOffs es).hpt = s.hpt := rfl
@[simp] theorem State.handOffs_pfl (s : State) (es : List Instr) : (s.handOffs es).pfl = s.pfl := rfl
@[simp] theorem State.handOffs_handoffs (s : State) (es : List Instr) : (s.handOffs es).handoffs = s.handoffs ++ es := rfl
@[simp] theorem State.handOffs_freeCount (s : State) (es : List Instr) : (s.handOffs es).freeCount = s.freeCount := rfl
@[simp] theorem State.handOffs_pending (s : State) (es : List Instr) : (s.handOffs es).pending = s.pending := rfl

/-! ### take -/

@[simp] theorem State.take_rtu (s : State) (e : Instr) : (s.take e).rtu = s.rtu := rfl
@[simp] theorem State.take_lgm (s : State) (e : Instr) : (s.take e).lgm = s.lgm := rfl
@[simp] theorem State.take_adu (s : State) (e : Instr) : (s.take e).adu = s.adu := rfl
@[simp] theorem State.take_dlc (s : State) (e : Instr) : (s.take e).dlc = s.dlc := rfl
@[simp] theorem State.take_muc (s : State) (e : Instr) : (s.take e).muc = s.muc := rfl
@[simp] theorem State.take_sck (s : State) (e : Instr) : (s.take e).sck = s.sck := rfl
@[simp] theorem State.take_plu (s : State) (e : Instr) : (s.take e).plu = s.plu := rfl
@[simp] theorem State.take_fcu (s : State) (e : Instr) : (s.take e).fcu = s.fcu := rfl
@[simp] theorem State.take_fsc (s : State) (e : Instr) : (s.take e).fsc = s.fsc := rfl
@[simp] theorem State.take_pca (s : State) (e : Instr) : (s.take e).pca = s.pca := rfl
@[simp] theorem State.take_hpt (s : State) (e : Instr) : (s.take e).hpt = s.hpt := rfl
@[simp] theorem State.take_pfl (s : State) (e : Instr) : (s.take e).pfl = s.pfl := rfl
@[simp] theorem State.take_handoffs (s : State) (e : Instr) : (s.take e).handoffs = s.handoffs.erase e := rfl
@[simp] theorem State.take_freeCount (s : State) (e : Instr) : (s.take e).freeCount = s.freeCount := rfl
@[simp] theorem State.take_pending (s : State) (e : Instr) : (s.take e).pending = s.pending := rfl

/-! ### setMusterChange -/

@[simp] theorem State.setMusterChange_rtu (s : State) : (s.setMusterChange).rtu = s.rtu := rfl
@[simp] theorem State.setMusterChange_lgm (s : State) : (s.setMusterChange).lgm = s.lgm := rfl
@[simp] theorem State.setMusterChange_adu (s : State) : (s.setMusterChange).adu = s.adu := rfl
@[simp] theorem State.setMusterChange_dlc (s : State) : (s.setMusterChange).dlc = s.dlc := rfl
@[simp] theorem State.setMusterChange_muc (s : State) : (s.setMusterChange).muc = s.muc := rfl
@[simp] theorem State.setMusterChange_sck (s : State) : (s.setMusterChange).sck = s.sck := rfl
@[simp] theorem State.setMusterChange_plu (s : State) : (s.setMusterChange).plu = s.plu := rfl
@[simp] theorem State.setMusterChange_fcu (s : State) : (s.setMusterChange).fcu = s.fcu := rfl
@[simp] theorem State.setMusterChange_fsc (s : State) : (s.setMusterChange).fsc = s.fsc := rfl
@[simp] theorem State.setMusterChange_pca (s : State) : (s.setMusterChange).pca = s.pca := rfl
@[simp] theorem State.setMusterChange_hpt (s : State) : (s.setMusterChange).hpt = { s.hpt with musterChange := true } := rfl
@[simp] theorem State.setMusterChange_pfl (s : State) : (s.setMusterChange).pfl = s.pfl := rfl
@[simp] theorem State.setMusterChange_handoffs (s : State) : (s.setMusterChange).handoffs = s.handoffs := rfl
@[simp] theorem State.setMusterChange_freeCount (s : State) : (s.setMusterChange).freeCount = s.freeCount := rfl
@[simp] theorem State.setMusterChange_pending (s : State) : (s.setMusterChange).pending = s.pending := rfl

/-! ### spendFree -/

@[simp] theorem State.spendFree_rtu (s : State) : (s.spendFree).rtu = s.rtu := rfl
@[simp] theorem State.spendFree_lgm (s : State) : (s.spendFree).lgm = s.lgm := rfl
@[simp] theorem State.spendFree_adu (s : State) : (s.spendFree).adu = s.adu := rfl
@[simp] theorem State.spendFree_dlc (s : State) : (s.spendFree).dlc = s.dlc := rfl
@[simp] theorem State.spendFree_muc (s : State) : (s.spendFree).muc = s.muc := rfl
@[simp] theorem State.spendFree_sck (s : State) : (s.spendFree).sck = s.sck := rfl
@[simp] theorem State.spendFree_plu (s : State) : (s.spendFree).plu = s.plu := rfl
@[simp] theorem State.spendFree_fcu (s : State) : (s.spendFree).fcu = s.fcu := rfl
@[simp] theorem State.spendFree_fsc (s : State) : (s.spendFree).fsc = s.fsc := rfl
@[simp] theorem State.spendFree_pca (s : State) : (s.spendFree).pca = s.pca := rfl
@[simp] theorem State.spendFree_hpt (s : State) : (s.spendFree).hpt = s.hpt := rfl
@[simp] theorem State.spendFree_pfl (s : State) : (s.spendFree).pfl = s.pfl := rfl
@[simp] theorem State.spendFree_handoffs (s : State) : (s.spendFree).handoffs = s.handoffs := rfl
@[simp] theorem State.spendFree_freeCount (s : State) : (s.spendFree).freeCount = s.freeCount + 1 := rfl
@[simp] theorem State.spendFree_pending (s : State) : (s.spendFree).pending = s.pending := rfl

/-! ### setLeg -/

@[simp] theorem State.setLeg_rtu (s : State) (l : LegIx) (r : LegRecord) : (s.setLeg l r).rtu = s.rtu := rfl
@[simp] theorem State.setLeg_lgm (s : State) (l : LegIx) (r : LegRecord) : (s.setLeg l r).lgm = { s.lgm with legs := setAt s.lgm.legs l r } := rfl
@[simp] theorem State.setLeg_adu (s : State) (l : LegIx) (r : LegRecord) : (s.setLeg l r).adu = s.adu := rfl
@[simp] theorem State.setLeg_dlc (s : State) (l : LegIx) (r : LegRecord) : (s.setLeg l r).dlc = s.dlc := rfl
@[simp] theorem State.setLeg_muc (s : State) (l : LegIx) (r : LegRecord) : (s.setLeg l r).muc = s.muc := rfl
@[simp] theorem State.setLeg_sck (s : State) (l : LegIx) (r : LegRecord) : (s.setLeg l r).sck = s.sck := rfl
@[simp] theorem State.setLeg_plu (s : State) (l : LegIx) (r : LegRecord) : (s.setLeg l r).plu = s.plu := rfl
@[simp] theorem State.setLeg_fcu (s : State) (l : LegIx) (r : LegRecord) : (s.setLeg l r).fcu = s.fcu := rfl
@[simp] theorem State.setLeg_fsc (s : State) (l : LegIx) (r : LegRecord) : (s.setLeg l r).fsc = s.fsc := rfl
@[simp] theorem State.setLeg_pca (s : State) (l : LegIx) (r : LegRecord) : (s.setLeg l r).pca = s.pca := rfl
@[simp] theorem State.setLeg_hpt (s : State) (l : LegIx) (r : LegRecord) : (s.setLeg l r).hpt = s.hpt := rfl
@[simp] theorem State.setLeg_pfl (s : State) (l : LegIx) (r : LegRecord) : (s.setLeg l r).pfl = s.pfl := rfl
@[simp] theorem State.setLeg_handoffs (s : State) (l : LegIx) (r : LegRecord) : (s.setLeg l r).handoffs = s.handoffs := rfl
@[simp] theorem State.setLeg_freeCount (s : State) (l : LegIx) (r : LegRecord) : (s.setLeg l r).freeCount = s.freeCount := rfl
@[simp] theorem State.setLeg_pending (s : State) (l : LegIx) (r : LegRecord) : (s.setLeg l r).pending = s.pending := rfl

/-! ### nextCondSeq -/

@[simp] theorem State.nextCondSeq_rtu (s : State) : (s.nextCondSeq).rtu = s.rtu := rfl
@[simp] theorem State.nextCondSeq_lgm (s : State) : (s.nextCondSeq).lgm = { s.lgm with condSeq := s.lgm.condSeq + 1 } := rfl
@[simp] theorem State.nextCondSeq_adu (s : State) : (s.nextCondSeq).adu = s.adu := rfl
@[simp] theorem State.nextCondSeq_dlc (s : State) : (s.nextCondSeq).dlc = s.dlc := rfl
@[simp] theorem State.nextCondSeq_muc (s : State) : (s.nextCondSeq).muc = s.muc := rfl
@[simp] theorem State.nextCondSeq_sck (s : State) : (s.nextCondSeq).sck = s.sck := rfl
@[simp] theorem State.nextCondSeq_plu (s : State) : (s.nextCondSeq).plu = s.plu := rfl
@[simp] theorem State.nextCondSeq_fcu (s : State) : (s.nextCondSeq).fcu = s.fcu := rfl
@[simp] theorem State.nextCondSeq_fsc (s : State) : (s.nextCondSeq).fsc = s.fsc := rfl
@[simp] theorem State.nextCondSeq_pca (s : State) : (s.nextCondSeq).pca = s.pca := rfl
@[simp] theorem State.nextCondSeq_hpt (s : State) : (s.nextCondSeq).hpt = s.hpt := rfl
@[simp] theorem State.nextCondSeq_pfl (s : State) : (s.nextCondSeq).pfl = s.pfl := rfl
@[simp] theorem State.nextCondSeq_handoffs (s : State) : (s.nextCondSeq).handoffs = s.handoffs := rfl
@[simp] theorem State.nextCondSeq_freeCount (s : State) : (s.nextCondSeq).freeCount = s.freeCount := rfl
@[simp] theorem State.nextCondSeq_pending (s : State) : (s.nextCondSeq).pending = s.pending := rfl

/-! ### setDoor -/

@[simp] theorem State.setDoor_rtu (s : State) (l : LegIx) (d : DoorInput) : (s.setDoor l d).rtu = s.rtu := rfl
@[simp] theorem State.setDoor_lgm (s : State) (l : LegIx) (d : DoorInput) : (s.setDoor l d).lgm = { s.lgm with doors := setAt s.lgm.doors l d } := rfl
@[simp] theorem State.setDoor_adu (s : State) (l : LegIx) (d : DoorInput) : (s.setDoor l d).adu = s.adu := rfl
@[simp] theorem State.setDoor_dlc (s : State) (l : LegIx) (d : DoorInput) : (s.setDoor l d).dlc = s.dlc := rfl
@[simp] theorem State.setDoor_muc (s : State) (l : LegIx) (d : DoorInput) : (s.setDoor l d).muc = s.muc := rfl
@[simp] theorem State.setDoor_sck (s : State) (l : LegIx) (d : DoorInput) : (s.setDoor l d).sck = s.sck := rfl
@[simp] theorem State.setDoor_plu (s : State) (l : LegIx) (d : DoorInput) : (s.setDoor l d).plu = s.plu := rfl
@[simp] theorem State.setDoor_fcu (s : State) (l : LegIx) (d : DoorInput) : (s.setDoor l d).fcu = s.fcu := rfl
@[simp] theorem State.setDoor_fsc (s : State) (l : LegIx) (d : DoorInput) : (s.setDoor l d).fsc = s.fsc := rfl
@[simp] theorem State.setDoor_pca (s : State) (l : LegIx) (d : DoorInput) : (s.setDoor l d).pca = s.pca := rfl
@[simp] theorem State.setDoor_hpt (s : State) (l : LegIx) (d : DoorInput) : (s.setDoor l d).hpt = s.hpt := rfl
@[simp] theorem State.setDoor_pfl (s : State) (l : LegIx) (d : DoorInput) : (s.setDoor l d).pfl = s.pfl := rfl
@[simp] theorem State.setDoor_handoffs (s : State) (l : LegIx) (d : DoorInput) : (s.setDoor l d).handoffs = s.handoffs := rfl
@[simp] theorem State.setDoor_freeCount (s : State) (l : LegIx) (d : DoorInput) : (s.setDoor l d).freeCount = s.freeCount := rfl
@[simp] theorem State.setDoor_pending (s : State) (l : LegIx) (d : DoorInput) : (s.setDoor l d).pending = s.pending := rfl

/-! ### setPort -/

@[simp] theorem State.setPort_rtu (s : State) (p : Port) (lp : LinkPort) : (s.setPort p lp).rtu = s.rtu := rfl
@[simp] theorem State.setPort_lgm (s : State) (p : Port) (lp : LinkPort) : (s.setPort p lp).lgm = s.lgm := rfl
@[simp] theorem State.setPort_adu (s : State) (p : Port) (lp : LinkPort) : (s.setPort p lp).adu = s.adu := rfl
@[simp] theorem State.setPort_dlc (s : State) (p : Port) (lp : LinkPort) : (s.setPort p lp).dlc = { s.dlc with ports := s.dlc.ports.set p lp } := rfl
@[simp] theorem State.setPort_muc (s : State) (p : Port) (lp : LinkPort) : (s.setPort p lp).muc = s.muc := rfl
@[simp] theorem State.setPort_sck (s : State) (p : Port) (lp : LinkPort) : (s.setPort p lp).sck = s.sck := rfl
@[simp] theorem State.setPort_plu (s : State) (p : Port) (lp : LinkPort) : (s.setPort p lp).plu = s.plu := rfl
@[simp] theorem State.setPort_fcu (s : State) (p : Port) (lp : LinkPort) : (s.setPort p lp).fcu = s.fcu := rfl
@[simp] theorem State.setPort_fsc (s : State) (p : Port) (lp : LinkPort) : (s.setPort p lp).fsc = s.fsc := rfl
@[simp] theorem State.setPort_pca (s : State) (p : Port) (lp : LinkPort) : (s.setPort p lp).pca = s.pca := rfl
@[simp] theorem State.setPort_hpt (s : State) (p : Port) (lp : LinkPort) : (s.setPort p lp).hpt = s.hpt := rfl
@[simp] theorem State.setPort_pfl (s : State) (p : Port) (lp : LinkPort) : (s.setPort p lp).pfl = s.pfl := rfl
@[simp] theorem State.setPort_handoffs (s : State) (p : Port) (lp : LinkPort) : (s.setPort p lp).handoffs = s.handoffs := rfl
@[simp] theorem State.setPort_freeCount (s : State) (p : Port) (lp : LinkPort) : (s.setPort p lp).freeCount = s.freeCount := rfl
@[simp] theorem State.setPort_pending (s : State) (p : Port) (lp : LinkPort) : (s.setPort p lp).pending = s.pending := rfl

/-! ### enterKey -/

@[simp] theorem State.enterKey_rtu (s : State) (k : Key) : (s.enterKey k).rtu = s.rtu := rfl
@[simp] theorem State.enterKey_lgm (s : State) (k : Key) : (s.enterKey k).lgm = s.lgm := rfl
@[simp] theorem State.enterKey_adu (s : State) (k : Key) : (s.enterKey k).adu = s.adu := rfl
@[simp] theorem State.enterKey_dlc (s : State) (k : Key) : (s.enterKey k).dlc = { s.dlc with ring := Machine.enterKey s.dlc.ring k } := rfl
@[simp] theorem State.enterKey_muc (s : State) (k : Key) : (s.enterKey k).muc = s.muc := rfl
@[simp] theorem State.enterKey_sck (s : State) (k : Key) : (s.enterKey k).sck = s.sck := rfl
@[simp] theorem State.enterKey_plu (s : State) (k : Key) : (s.enterKey k).plu = s.plu := rfl
@[simp] theorem State.enterKey_fcu (s : State) (k : Key) : (s.enterKey k).fcu = s.fcu := rfl
@[simp] theorem State.enterKey_fsc (s : State) (k : Key) : (s.enterKey k).fsc = s.fsc := rfl
@[simp] theorem State.enterKey_pca (s : State) (k : Key) : (s.enterKey k).pca = s.pca := rfl
@[simp] theorem State.enterKey_hpt (s : State) (k : Key) : (s.enterKey k).hpt = s.hpt := rfl
@[simp] theorem State.enterKey_pfl (s : State) (k : Key) : (s.enterKey k).pfl = s.pfl := rfl
@[simp] theorem State.enterKey_handoffs (s : State) (k : Key) : (s.enterKey k).handoffs = s.handoffs := rfl
@[simp] theorem State.enterKey_freeCount (s : State) (k : Key) : (s.enterKey k).freeCount = s.freeCount := rfl
@[simp] theorem State.enterKey_pending (s : State) (k : Key) : (s.enterKey k).pending = s.pending := rfl

/-! ### setUrgent -/

@[simp] theorem State.setUrgent_rtu (s : State) (p : Port) (b : BlockIx) (v : Bool) : (s.setUrgent p b v).rtu = s.rtu := rfl
@[simp] theorem State.setUrgent_lgm (s : State) (p : Port) (b : BlockIx) (v : Bool) : (s.setUrgent p b v).lgm = s.lgm := rfl
@[simp] theorem State.setUrgent_dlc (s : State) (p : Port) (b : BlockIx) (v : Bool) : (s.setUrgent p b v).dlc = s.dlc := rfl
@[simp] theorem State.setUrgent_muc (s : State) (p : Port) (b : BlockIx) (v : Bool) : (s.setUrgent p b v).muc = s.muc := rfl
@[simp] theorem State.setUrgent_sck (s : State) (p : Port) (b : BlockIx) (v : Bool) : (s.setUrgent p b v).sck = s.sck := rfl
@[simp] theorem State.setUrgent_plu (s : State) (p : Port) (b : BlockIx) (v : Bool) : (s.setUrgent p b v).plu = s.plu := rfl
@[simp] theorem State.setUrgent_fcu (s : State) (p : Port) (b : BlockIx) (v : Bool) : (s.setUrgent p b v).fcu = s.fcu := rfl
@[simp] theorem State.setUrgent_fsc (s : State) (p : Port) (b : BlockIx) (v : Bool) : (s.setUrgent p b v).fsc = s.fsc := rfl
@[simp] theorem State.setUrgent_pca (s : State) (p : Port) (b : BlockIx) (v : Bool) : (s.setUrgent p b v).pca = s.pca := rfl
@[simp] theorem State.setUrgent_hpt (s : State) (p : Port) (b : BlockIx) (v : Bool) : (s.setUrgent p b v).hpt = s.hpt := rfl
@[simp] theorem State.setUrgent_pfl (s : State) (p : Port) (b : BlockIx) (v : Bool) : (s.setUrgent p b v).pfl = s.pfl := rfl
@[simp] theorem State.setUrgent_handoffs (s : State) (p : Port) (b : BlockIx) (v : Bool) : (s.setUrgent p b v).handoffs = s.handoffs := rfl
@[simp] theorem State.setUrgent_freeCount (s : State) (p : Port) (b : BlockIx) (v : Bool) : (s.setUrgent p b v).freeCount = s.freeCount := rfl
@[simp] theorem State.setUrgent_pending (s : State) (p : Port) (b : BlockIx) (v : Bool) : (s.setUrgent p b v).pending = s.pending := rfl

/-! ### requestAdvert -/

@[simp] theorem State.requestAdvert_rtu (s : State) (p : Port) (b : BlockIx) (u : Bool) : (s.requestAdvert p b u).rtu = s.rtu := rfl
@[simp] theorem State.requestAdvert_lgm (s : State) (p : Port) (b : BlockIx) (u : Bool) : (s.requestAdvert p b u).lgm = s.lgm := rfl
@[simp] theorem State.requestAdvert_adu (s : State) (p : Port) (b : BlockIx) (u : Bool) : (s.requestAdvert p b u).adu = s.adu := rfl
@[simp] theorem State.requestAdvert_muc (s : State) (p : Port) (b : BlockIx) (u : Bool) : (s.requestAdvert p b u).muc = s.muc := rfl
@[simp] theorem State.requestAdvert_sck (s : State) (p : Port) (b : BlockIx) (u : Bool) : (s.requestAdvert p b u).sck = s.sck := rfl
@[simp] theorem State.requestAdvert_plu (s : State) (p : Port) (b : BlockIx) (u : Bool) : (s.requestAdvert p b u).plu = s.plu := rfl
@[simp] theorem State.requestAdvert_fcu (s : State) (p : Port) (b : BlockIx) (u : Bool) : (s.requestAdvert p b u).fcu = s.fcu := rfl
@[simp] theorem State.requestAdvert_fsc (s : State) (p : Port) (b : BlockIx) (u : Bool) : (s.requestAdvert p b u).fsc = s.fsc := rfl
@[simp] theorem State.requestAdvert_pca (s : State) (p : Port) (b : BlockIx) (u : Bool) : (s.requestAdvert p b u).pca = s.pca := rfl
@[simp] theorem State.requestAdvert_hpt (s : State) (p : Port) (b : BlockIx) (u : Bool) : (s.requestAdvert p b u).hpt = s.hpt := rfl
@[simp] theorem State.requestAdvert_pfl (s : State) (p : Port) (b : BlockIx) (u : Bool) : (s.requestAdvert p b u).pfl = s.pfl := rfl
@[simp] theorem State.requestAdvert_handoffs (s : State) (p : Port) (b : BlockIx) (u : Bool) : (s.requestAdvert p b u).handoffs = s.handoffs := rfl
@[simp] theorem State.requestAdvert_freeCount (s : State) (p : Port) (b : BlockIx) (u : Bool) : (s.requestAdvert p b u).freeCount = s.freeCount := rfl
@[simp] theorem State.requestAdvert_pending (s : State) (p : Port) (b : BlockIx) (u : Bool) : (s.requestAdvert p b u).pending = s.pending := rfl

/-! ### clearMarks -/

@[simp] theorem State.clearMarks_lgm (s : State) (p : Port) (b : BlockIx) : (s.clearMarks p b).lgm = s.lgm := rfl
@[simp] theorem State.clearMarks_dlc (s : State) (p : Port) (b : BlockIx) : (s.clearMarks p b).dlc = s.dlc := rfl
@[simp] theorem State.clearMarks_muc (s : State) (p : Port) (b : BlockIx) : (s.clearMarks p b).muc = s.muc := rfl
@[simp] theorem State.clearMarks_sck (s : State) (p : Port) (b : BlockIx) : (s.clearMarks p b).sck = s.sck := rfl
@[simp] theorem State.clearMarks_plu (s : State) (p : Port) (b : BlockIx) : (s.clearMarks p b).plu = s.plu := rfl
@[simp] theorem State.clearMarks_fcu (s : State) (p : Port) (b : BlockIx) : (s.clearMarks p b).fcu = s.fcu := rfl
@[simp] theorem State.clearMarks_fsc (s : State) (p : Port) (b : BlockIx) : (s.clearMarks p b).fsc = s.fsc := rfl
@[simp] theorem State.clearMarks_pca (s : State) (p : Port) (b : BlockIx) : (s.clearMarks p b).pca = s.pca := rfl
@[simp] theorem State.clearMarks_hpt (s : State) (p : Port) (b : BlockIx) : (s.clearMarks p b).hpt = s.hpt := rfl
@[simp] theorem State.clearMarks_pfl (s : State) (p : Port) (b : BlockIx) : (s.clearMarks p b).pfl = s.pfl := rfl
@[simp] theorem State.clearMarks_handoffs (s : State) (p : Port) (b : BlockIx) : (s.clearMarks p b).handoffs = s.handoffs := rfl
@[simp] theorem State.clearMarks_freeCount (s : State) (p : Port) (b : BlockIx) : (s.clearMarks p b).freeCount = s.freeCount := rfl
@[simp] theorem State.clearMarks_pending (s : State) (p : Port) (b : BlockIx) : (s.clearMarks p b).pending = s.pending := rfl

/-! ### storeAdvertised -/

@[simp] theorem State.storeAdvertised_lgm (s : State) (l : LegIx) (d : DestIx) (v : Cost) : (s.storeAdvertised l d v).lgm = s.lgm := rfl
@[simp] theorem State.storeAdvertised_adu (s : State) (l : LegIx) (d : DestIx) (v : Cost) : (s.storeAdvertised l d v).adu = s.adu := rfl
@[simp] theorem State.storeAdvertised_dlc (s : State) (l : LegIx) (d : DestIx) (v : Cost) : (s.storeAdvertised l d v).dlc = s.dlc := rfl
@[simp] theorem State.storeAdvertised_muc (s : State) (l : LegIx) (d : DestIx) (v : Cost) : (s.storeAdvertised l d v).muc = s.muc := rfl
@[simp] theorem State.storeAdvertised_sck (s : State) (l : LegIx) (d : DestIx) (v : Cost) : (s.storeAdvertised l d v).sck = s.sck := rfl
@[simp] theorem State.storeAdvertised_plu (s : State) (l : LegIx) (d : DestIx) (v : Cost) : (s.storeAdvertised l d v).plu = s.plu := rfl
@[simp] theorem State.storeAdvertised_fcu (s : State) (l : LegIx) (d : DestIx) (v : Cost) : (s.storeAdvertised l d v).fcu = s.fcu := rfl
@[simp] theorem State.storeAdvertised_fsc (s : State) (l : LegIx) (d : DestIx) (v : Cost) : (s.storeAdvertised l d v).fsc = s.fsc := rfl
@[simp] theorem State.storeAdvertised_pca (s : State) (l : LegIx) (d : DestIx) (v : Cost) : (s.storeAdvertised l d v).pca = s.pca := rfl
@[simp] theorem State.storeAdvertised_hpt (s : State) (l : LegIx) (d : DestIx) (v : Cost) : (s.storeAdvertised l d v).hpt = s.hpt := rfl
@[simp] theorem State.storeAdvertised_pfl (s : State) (l : LegIx) (d : DestIx) (v : Cost) : (s.storeAdvertised l d v).pfl = s.pfl := rfl
@[simp] theorem State.storeAdvertised_handoffs (s : State) (l : LegIx) (d : DestIx) (v : Cost) : (s.storeAdvertised l d v).handoffs = s.handoffs := rfl
@[simp] theorem State.storeAdvertised_freeCount (s : State) (l : LegIx) (d : DestIx) (v : Cost) : (s.storeAdvertised l d v).freeCount = s.freeCount := rfl
@[simp] theorem State.storeAdvertised_pending (s : State) (l : LegIx) (d : DestIx) (v : Cost) : (s.storeAdvertised l d v).pending = s.pending := rfl

/-! ### setFace -/

@[simp] theorem State.setFace_rtu (s : State) (f : FaceIx) (fs : FaceState) : (s.setFace f fs).rtu = s.rtu := rfl
@[simp] theorem State.setFace_lgm (s : State) (f : FaceIx) (fs : FaceState) : (s.setFace f fs).lgm = s.lgm := rfl
@[simp] theorem State.setFace_adu (s : State) (f : FaceIx) (fs : FaceState) : (s.setFace f fs).adu = s.adu := rfl
@[simp] theorem State.setFace_dlc (s : State) (f : FaceIx) (fs : FaceState) : (s.setFace f fs).dlc = s.dlc := rfl
@[simp] theorem State.setFace_muc (s : State) (f : FaceIx) (fs : FaceState) : (s.setFace f fs).muc = s.muc := rfl
@[simp] theorem State.setFace_sck (s : State) (f : FaceIx) (fs : FaceState) : (s.setFace f fs).sck = s.sck := rfl
@[simp] theorem State.setFace_plu (s : State) (f : FaceIx) (fs : FaceState) : (s.setFace f fs).plu = s.plu := rfl
@[simp] theorem State.setFace_fcu (s : State) (f : FaceIx) (fs : FaceState) : (s.setFace f fs).fcu = { s.fcu with faces := setAt s.fcu.faces f fs } := rfl
@[simp] theorem State.setFace_fsc (s : State) (f : FaceIx) (fs : FaceState) : (s.setFace f fs).fsc = s.fsc := rfl
@[simp] theorem State.setFace_pca (s : State) (f : FaceIx) (fs : FaceState) : (s.setFace f fs).pca = s.pca := rfl
@[simp] theorem State.setFace_hpt (s : State) (f : FaceIx) (fs : FaceState) : (s.setFace f fs).hpt = s.hpt := rfl
@[simp] theorem State.setFace_pfl (s : State) (f : FaceIx) (fs : FaceState) : (s.setFace f fs).pfl = s.pfl := rfl
@[simp] theorem State.setFace_handoffs (s : State) (f : FaceIx) (fs : FaceState) : (s.setFace f fs).handoffs = s.handoffs := rfl
@[simp] theorem State.setFace_freeCount (s : State) (f : FaceIx) (fs : FaceState) : (s.setFace f fs).freeCount = s.freeCount := rfl
@[simp] theorem State.setFace_pending (s : State) (f : FaceIx) (fs : FaceState) : (s.setFace f fs).pending = s.pending := rfl

/-! ### setWord -/

@[simp] theorem State.setWord_rtu (s : State) (f : FaceIx) (w : FaceWord) : (s.setWord f w).rtu = s.rtu := rfl
@[simp] theorem State.setWord_lgm (s : State) (f : FaceIx) (w : FaceWord) : (s.setWord f w).lgm = s.lgm := rfl
@[simp] theorem State.setWord_adu (s : State) (f : FaceIx) (w : FaceWord) : (s.setWord f w).adu = s.adu := rfl
@[simp] theorem State.setWord_dlc (s : State) (f : FaceIx) (w : FaceWord) : (s.setWord f w).dlc = s.dlc := rfl
@[simp] theorem State.setWord_muc (s : State) (f : FaceIx) (w : FaceWord) : (s.setWord f w).muc = s.muc := rfl
@[simp] theorem State.setWord_sck (s : State) (f : FaceIx) (w : FaceWord) : (s.setWord f w).sck = s.sck := rfl
@[simp] theorem State.setWord_plu (s : State) (f : FaceIx) (w : FaceWord) : (s.setWord f w).plu = s.plu := rfl
@[simp] theorem State.setWord_fcu (s : State) (f : FaceIx) (w : FaceWord) : (s.setWord f w).fcu = s.fcu := rfl
@[simp] theorem State.setWord_fsc (s : State) (f : FaceIx) (w : FaceWord) : (s.setWord f w).fsc = { s.fsc with words := setAt s.fsc.words f w } := rfl
@[simp] theorem State.setWord_pca (s : State) (f : FaceIx) (w : FaceWord) : (s.setWord f w).pca = s.pca := rfl
@[simp] theorem State.setWord_hpt (s : State) (f : FaceIx) (w : FaceWord) : (s.setWord f w).hpt = s.hpt := rfl
@[simp] theorem State.setWord_pfl (s : State) (f : FaceIx) (w : FaceWord) : (s.setWord f w).pfl = s.pfl := rfl
@[simp] theorem State.setWord_handoffs (s : State) (f : FaceIx) (w : FaceWord) : (s.setWord f w).handoffs = s.handoffs := rfl
@[simp] theorem State.setWord_freeCount (s : State) (f : FaceIx) (w : FaceWord) : (s.setWord f w).freeCount = s.freeCount := rfl
@[simp] theorem State.setWord_pending (s : State) (f : FaceIx) (w : FaceWord) : (s.setWord f w).pending = s.pending := rfl

/-! ### setString -/

@[simp] theorem State.setString_rtu (s : State) (x : Option Exchange) : (s.setString x).rtu = s.rtu := rfl
@[simp] theorem State.setString_lgm (s : State) (x : Option Exchange) : (s.setString x).lgm = s.lgm := rfl
@[simp] theorem State.setString_adu (s : State) (x : Option Exchange) : (s.setString x).adu = s.adu := rfl
@[simp] theorem State.setString_dlc (s : State) (x : Option Exchange) : (s.setString x).dlc = s.dlc := rfl
@[simp] theorem State.setString_muc (s : State) (x : Option Exchange) : (s.setString x).muc = s.muc := rfl
@[simp] theorem State.setString_sck (s : State) (x : Option Exchange) : (s.setString x).sck = s.sck := rfl
@[simp] theorem State.setString_plu (s : State) (x : Option Exchange) : (s.setString x).plu = s.plu := rfl
@[simp] theorem State.setString_fcu (s : State) (x : Option Exchange) : (s.setString x).fcu = s.fcu := rfl
@[simp] theorem State.setString_fsc (s : State) (x : Option Exchange) : (s.setString x).fsc = { s.fsc with string := x } := rfl
@[simp] theorem State.setString_pca (s : State) (x : Option Exchange) : (s.setString x).pca = s.pca := rfl
@[simp] theorem State.setString_hpt (s : State) (x : Option Exchange) : (s.setString x).hpt = s.hpt := rfl
@[simp] theorem State.setString_pfl (s : State) (x : Option Exchange) : (s.setString x).pfl = s.pfl := rfl
@[simp] theorem State.setString_handoffs (s : State) (x : Option Exchange) : (s.setString x).handoffs = s.handoffs := rfl
@[simp] theorem State.setString_freeCount (s : State) (x : Option Exchange) : (s.setString x).freeCount = s.freeCount := rfl
@[simp] theorem State.setString_pending (s : State) (x : Option Exchange) : (s.setString x).pending = s.pending := rfl

/-! ### issue -/

@[simp] theorem State.issue_rtu (s : State) : (s.issue).rtu = s.rtu := rfl
@[simp] theorem State.issue_lgm (s : State) : (s.issue).lgm = s.lgm := rfl
@[simp] theorem State.issue_adu (s : State) : (s.issue).adu = s.adu := rfl
@[simp] theorem State.issue_dlc (s : State) : (s.issue).dlc = s.dlc := rfl
@[simp] theorem State.issue_muc (s : State) : (s.issue).muc = s.muc := rfl
@[simp] theorem State.issue_sck (s : State) : (s.issue).sck = s.sck := rfl
@[simp] theorem State.issue_plu (s : State) : (s.issue).plu = s.plu := rfl
@[simp] theorem State.issue_fcu (s : State) : (s.issue).fcu = s.fcu := rfl
@[simp] theorem State.issue_fsc (s : State) : (s.issue).fsc = { s.fsc with seqCount := s.fsc.seqCount + 1 } := rfl
@[simp] theorem State.issue_pca (s : State) : (s.issue).pca = s.pca := rfl
@[simp] theorem State.issue_hpt (s : State) : (s.issue).hpt = s.hpt := rfl
@[simp] theorem State.issue_pfl (s : State) : (s.issue).pfl = s.pfl := rfl
@[simp] theorem State.issue_handoffs (s : State) : (s.issue).handoffs = s.handoffs := rfl
@[simp] theorem State.issue_freeCount (s : State) : (s.issue).freeCount = s.freeCount := rfl
@[simp] theorem State.issue_pending (s : State) : (s.issue).pending = s.pending := rfl

/-! ### setPca -/

@[simp] theorem State.setPca_rtu (s : State) (p : Pca) : (s.setPca p).rtu = s.rtu := rfl
@[simp] theorem State.setPca_lgm (s : State) (p : Pca) : (s.setPca p).lgm = s.lgm := rfl
@[simp] theorem State.setPca_adu (s : State) (p : Pca) : (s.setPca p).adu = s.adu := rfl
@[simp] theorem State.setPca_dlc (s : State) (p : Pca) : (s.setPca p).dlc = s.dlc := rfl
@[simp] theorem State.setPca_muc (s : State) (p : Pca) : (s.setPca p).muc = s.muc := rfl
@[simp] theorem State.setPca_sck (s : State) (p : Pca) : (s.setPca p).sck = s.sck := rfl
@[simp] theorem State.setPca_plu (s : State) (p : Pca) : (s.setPca p).plu = s.plu := rfl
@[simp] theorem State.setPca_fcu (s : State) (p : Pca) : (s.setPca p).fcu = s.fcu := rfl
@[simp] theorem State.setPca_fsc (s : State) (p : Pca) : (s.setPca p).fsc = s.fsc := rfl
@[simp] theorem State.setPca_pca (s : State) (p : Pca) : (s.setPca p).pca = p := rfl
@[simp] theorem State.setPca_hpt (s : State) (p : Pca) : (s.setPca p).hpt = s.hpt := rfl
@[simp] theorem State.setPca_pfl (s : State) (p : Pca) : (s.setPca p).pfl = s.pfl := rfl
@[simp] theorem State.setPca_handoffs (s : State) (p : Pca) : (s.setPca p).handoffs = s.handoffs := rfl
@[simp] theorem State.setPca_freeCount (s : State) (p : Pca) : (s.setPca p).freeCount = s.freeCount := rfl
@[simp] theorem State.setPca_pending (s : State) (p : Pca) : (s.setPca p).pending = s.pending := rfl

/-! ### setFetch -/

@[simp] theorem State.setFetch_rtu (s : State) (x : Option Fetch) : (s.setFetch x).rtu = s.rtu := rfl
@[simp] theorem State.setFetch_lgm (s : State) (x : Option Fetch) : (s.setFetch x).lgm = s.lgm := rfl
@[simp] theorem State.setFetch_adu (s : State) (x : Option Fetch) : (s.setFetch x).adu = s.adu := rfl
@[simp] theorem State.setFetch_dlc (s : State) (x : Option Fetch) : (s.setFetch x).dlc = s.dlc := rfl
@[simp] theorem State.setFetch_muc (s : State) (x : Option Fetch) : (s.setFetch x).muc = s.muc := rfl
@[simp] theorem State.setFetch_sck (s : State) (x : Option Fetch) : (s.setFetch x).sck = s.sck := rfl
@[simp] theorem State.setFetch_plu (s : State) (x : Option Fetch) : (s.setFetch x).plu = s.plu := rfl
@[simp] theorem State.setFetch_fcu (s : State) (x : Option Fetch) : (s.setFetch x).fcu = s.fcu := rfl
@[simp] theorem State.setFetch_fsc (s : State) (x : Option Fetch) : (s.setFetch x).fsc = s.fsc := rfl
@[simp] theorem State.setFetch_pca (s : State) (x : Option Fetch) : (s.setFetch x).pca = { s.pca with fetch := x } := rfl
@[simp] theorem State.setFetch_hpt (s : State) (x : Option Fetch) : (s.setFetch x).hpt = s.hpt := rfl
@[simp] theorem State.setFetch_pfl (s : State) (x : Option Fetch) : (s.setFetch x).pfl = s.pfl := rfl
@[simp] theorem State.setFetch_handoffs (s : State) (x : Option Fetch) : (s.setFetch x).handoffs = s.handoffs := rfl
@[simp] theorem State.setFetch_freeCount (s : State) (x : Option Fetch) : (s.setFetch x).freeCount = s.freeCount := rfl
@[simp] theorem State.setFetch_pending (s : State) (x : Option Fetch) : (s.setFetch x).pending = s.pending := rfl

/-! ### clearHostHolds -/

@[simp] theorem State.clearHostHolds_rtu (s : State) : (s.clearHostHolds).rtu = s.rtu := rfl
@[simp] theorem State.clearHostHolds_lgm (s : State) : (s.clearHostHolds).lgm = s.lgm := rfl
@[simp] theorem State.clearHostHolds_adu (s : State) : (s.clearHostHolds).adu = s.adu := rfl
@[simp] theorem State.clearHostHolds_dlc (s : State) : (s.clearHostHolds).dlc = s.dlc := rfl
@[simp] theorem State.clearHostHolds_muc (s : State) : (s.clearHostHolds).muc = s.muc := rfl
@[simp] theorem State.clearHostHolds_sck (s : State) : (s.clearHostHolds).sck = s.sck := rfl
@[simp] theorem State.clearHostHolds_plu (s : State) : (s.clearHostHolds).plu = s.plu := rfl
@[simp] theorem State.clearHostHolds_fcu (s : State) : (s.clearHostHolds).fcu = s.fcu := rfl
@[simp] theorem State.clearHostHolds_pca (s : State) : (s.clearHostHolds).pca = s.pca := rfl
@[simp] theorem State.clearHostHolds_hpt (s : State) : (s.clearHostHolds).hpt = s.hpt := rfl
@[simp] theorem State.clearHostHolds_pfl (s : State) : (s.clearHostHolds).pfl = s.pfl := rfl
@[simp] theorem State.clearHostHolds_handoffs (s : State) : (s.clearHostHolds).handoffs = s.handoffs := rfl
@[simp] theorem State.clearHostHolds_freeCount (s : State) : (s.clearHostHolds).freeCount = s.freeCount := rfl
@[simp] theorem State.clearHostHolds_pending (s : State) : (s.clearHostHolds).pending = s.pending := rfl

/-! ### clearAllSnapshots -/

@[simp] theorem State.clearAllSnapshots_rtu (s : State) : (s.clearAllSnapshots).rtu = s.rtu := rfl
@[simp] theorem State.clearAllSnapshots_lgm (s : State) : (s.clearAllSnapshots).lgm = s.lgm := rfl
@[simp] theorem State.clearAllSnapshots_adu (s : State) : (s.clearAllSnapshots).adu = s.adu := rfl
@[simp] theorem State.clearAllSnapshots_dlc (s : State) : (s.clearAllSnapshots).dlc = s.dlc := rfl
@[simp] theorem State.clearAllSnapshots_muc (s : State) : (s.clearAllSnapshots).muc = s.muc := rfl
@[simp] theorem State.clearAllSnapshots_sck (s : State) : (s.clearAllSnapshots).sck = s.sck := rfl
@[simp] theorem State.clearAllSnapshots_plu (s : State) : (s.clearAllSnapshots).plu = s.plu := rfl
@[simp] theorem State.clearAllSnapshots_fsc (s : State) : (s.clearAllSnapshots).fsc = s.fsc := rfl
@[simp] theorem State.clearAllSnapshots_pca (s : State) : (s.clearAllSnapshots).pca = s.pca := rfl
@[simp] theorem State.clearAllSnapshots_hpt (s : State) : (s.clearAllSnapshots).hpt = s.hpt := rfl
@[simp] theorem State.clearAllSnapshots_pfl (s : State) : (s.clearAllSnapshots).pfl = s.pfl := rfl
@[simp] theorem State.clearAllSnapshots_handoffs (s : State) : (s.clearAllSnapshots).handoffs = s.handoffs := rfl
@[simp] theorem State.clearAllSnapshots_freeCount (s : State) : (s.clearAllSnapshots).freeCount = s.freeCount := rfl
@[simp] theorem State.clearAllSnapshots_pending (s : State) : (s.clearAllSnapshots).pending = s.pending := rfl

/-! ### respond -/

@[simp] theorem State.respond_rtu (s : State) (r : Response) : (s.respond r).rtu = s.rtu := rfl
@[simp] theorem State.respond_lgm (s : State) (r : Response) : (s.respond r).lgm = s.lgm := rfl
@[simp] theorem State.respond_adu (s : State) (r : Response) : (s.respond r).adu = s.adu := rfl
@[simp] theorem State.respond_dlc (s : State) (r : Response) : (s.respond r).dlc = s.dlc := rfl
@[simp] theorem State.respond_muc (s : State) (r : Response) : (s.respond r).muc = s.muc := rfl
@[simp] theorem State.respond_sck (s : State) (r : Response) : (s.respond r).sck = s.sck := rfl
@[simp] theorem State.respond_plu (s : State) (r : Response) : (s.respond r).plu = s.plu := rfl
@[simp] theorem State.respond_fcu (s : State) (r : Response) : (s.respond r).fcu = s.fcu := rfl
@[simp] theorem State.respond_fsc (s : State) (r : Response) : (s.respond r).fsc = s.fsc := rfl
@[simp] theorem State.respond_pca (s : State) (r : Response) : (s.respond r).pca = s.pca := rfl
@[simp] theorem State.respond_hpt (s : State) (r : Response) : (s.respond r).hpt = { s.hpt with transaction := some { response := r.bytes, cut := r.cut } } := rfl
@[simp] theorem State.respond_pfl (s : State) (r : Response) : (s.respond r).pfl = s.pfl := rfl
@[simp] theorem State.respond_handoffs (s : State) (r : Response) : (s.respond r).handoffs = s.handoffs := rfl
@[simp] theorem State.respond_freeCount (s : State) (r : Response) : (s.respond r).freeCount = s.freeCount := rfl
@[simp] theorem State.respond_pending (s : State) (r : Response) : (s.respond r).pending = s.pending := rfl

/-! ### takeGiving -/

@[simp] theorem State.takeGiving_rtu (s : State) (e : Instr) (es : List Instr) : (s.takeGiving e es).rtu = s.rtu := rfl
@[simp] theorem State.takeGiving_lgm (s : State) (e : Instr) (es : List Instr) : (s.takeGiving e es).lgm = s.lgm := rfl
@[simp] theorem State.takeGiving_adu (s : State) (e : Instr) (es : List Instr) : (s.takeGiving e es).adu = s.adu := rfl
@[simp] theorem State.takeGiving_dlc (s : State) (e : Instr) (es : List Instr) : (s.takeGiving e es).dlc = s.dlc := rfl
@[simp] theorem State.takeGiving_muc (s : State) (e : Instr) (es : List Instr) : (s.takeGiving e es).muc = s.muc := rfl
@[simp] theorem State.takeGiving_sck (s : State) (e : Instr) (es : List Instr) : (s.takeGiving e es).sck = s.sck := rfl
@[simp] theorem State.takeGiving_plu (s : State) (e : Instr) (es : List Instr) : (s.takeGiving e es).plu = s.plu := rfl
@[simp] theorem State.takeGiving_fcu (s : State) (e : Instr) (es : List Instr) : (s.takeGiving e es).fcu = s.fcu := rfl
@[simp] theorem State.takeGiving_fsc (s : State) (e : Instr) (es : List Instr) : (s.takeGiving e es).fsc = s.fsc := rfl
@[simp] theorem State.takeGiving_pca (s : State) (e : Instr) (es : List Instr) : (s.takeGiving e es).pca = s.pca := rfl
@[simp] theorem State.takeGiving_hpt (s : State) (e : Instr) (es : List Instr) : (s.takeGiving e es).hpt = s.hpt := rfl
@[simp] theorem State.takeGiving_pfl (s : State) (e : Instr) (es : List Instr) : (s.takeGiving e es).pfl = s.pfl := rfl
@[simp] theorem State.takeGiving_handoffs (s : State) (e : Instr) (es : List Instr) : (s.takeGiving e es).handoffs = replaceFirst e es s.handoffs := rfl
@[simp] theorem State.takeGiving_freeCount (s : State) (e : Instr) (es : List Instr) : (s.takeGiving e es).freeCount = s.freeCount := rfl
@[simp] theorem State.takeGiving_pending (s : State) (e : Instr) (es : List Instr) : (s.takeGiving e es).pending = s.pending := rfl

/-! ### handAhead -/

@[simp] theorem State.handAhead_rtu (s : State) (e : Instr) (es : List Instr) : (s.handAhead e es).rtu = s.rtu := rfl
@[simp] theorem State.handAhead_lgm (s : State) (e : Instr) (es : List Instr) : (s.handAhead e es).lgm = s.lgm := rfl
@[simp] theorem State.handAhead_adu (s : State) (e : Instr) (es : List Instr) : (s.handAhead e es).adu = s.adu := rfl
@[simp] theorem State.handAhead_dlc (s : State) (e : Instr) (es : List Instr) : (s.handAhead e es).dlc = s.dlc := rfl
@[simp] theorem State.handAhead_muc (s : State) (e : Instr) (es : List Instr) : (s.handAhead e es).muc = s.muc := rfl
@[simp] theorem State.handAhead_sck (s : State) (e : Instr) (es : List Instr) : (s.handAhead e es).sck = s.sck := rfl
@[simp] theorem State.handAhead_plu (s : State) (e : Instr) (es : List Instr) : (s.handAhead e es).plu = s.plu := rfl
@[simp] theorem State.handAhead_fcu (s : State) (e : Instr) (es : List Instr) : (s.handAhead e es).fcu = s.fcu := rfl
@[simp] theorem State.handAhead_fsc (s : State) (e : Instr) (es : List Instr) : (s.handAhead e es).fsc = s.fsc := rfl
@[simp] theorem State.handAhead_pca (s : State) (e : Instr) (es : List Instr) : (s.handAhead e es).pca = s.pca := rfl
@[simp] theorem State.handAhead_hpt (s : State) (e : Instr) (es : List Instr) : (s.handAhead e es).hpt = s.hpt := rfl
@[simp] theorem State.handAhead_pfl (s : State) (e : Instr) (es : List Instr) : (s.handAhead e es).pfl = s.pfl := rfl
@[simp] theorem State.handAhead_handoffs (s : State) (e : Instr) (es : List Instr) : (s.handAhead e es).handoffs = insertAhead e es s.handoffs := rfl
@[simp] theorem State.handAhead_freeCount (s : State) (e : Instr) (es : List Instr) : (s.handAhead e es).freeCount = s.freeCount := rfl
@[simp] theorem State.handAhead_pending (s : State) (e : Instr) (es : List Instr) : (s.handAhead e es).pending = s.pending := rfl

/-! ### tick -/

@[simp] theorem State.tick_rtu (s : State) : (s.tick).rtu = s.rtu := rfl
@[simp] theorem State.tick_lgm (s : State) : (s.tick).lgm = s.lgm := rfl
@[simp] theorem State.tick_adu (s : State) : (s.tick).adu = s.adu := rfl
@[simp] theorem State.tick_dlc (s : State) : (s.tick).dlc = s.dlc := rfl
@[simp] theorem State.tick_muc (s : State) : (s.tick).muc = s.muc.tick := rfl
@[simp] theorem State.tick_sck (s : State) : (s.tick).sck = s.sck := rfl
@[simp] theorem State.tick_plu (s : State) : (s.tick).plu = s.plu := rfl
@[simp] theorem State.tick_fcu (s : State) : (s.tick).fcu = s.fcu := rfl
@[simp] theorem State.tick_fsc (s : State) : (s.tick).fsc = s.fsc := rfl
@[simp] theorem State.tick_pca (s : State) : (s.tick).pca = s.pca := rfl
@[simp] theorem State.tick_hpt (s : State) : (s.tick).hpt = s.hpt := rfl
@[simp] theorem State.tick_pfl (s : State) : (s.tick).pfl = s.pfl := rfl
@[simp] theorem State.tick_handoffs (s : State) : (s.tick).handoffs = s.handoffs := rfl
@[simp] theorem State.tick_freeCount (s : State) : (s.tick).freeCount = s.freeCount := rfl
@[simp] theorem State.tick_pending (s : State) : (s.tick).pending = s.pending := rfl

/-! ### Tables -/

@[simp] theorem setAt_same {α : Type} {n : Nat} (v : Vector α n) (i : Fin n) (x : α) : (setAt v i x)[i] = x := by
  simp [setAt]

theorem setAt_other {α : Type} {n : Nat} (v : Vector α n) (i j : Fin n) (x : α) (h : i ≠ j) : (setAt v i x)[j] = v[j] := by
  have h' : i.val ≠ j.val := fun e => h (Fin.ext e)
  simp [setAt, h']

@[simp] theorem tabulate_get {α : Type} {n : Nat} (f : Fin n → α) (i : Fin n) : (tabulate f)[i] = f i := by
  simp [tabulate]

@[simp] theorem PerPort.get_set {α : Type} (x : PerPort α) (p : Port) (v : α) : (x.set p v).get p = v := by
  cases p <;> rfl

theorem PerPort.get_set_other {α : Type} (x : PerPort α) (p q : Port) (v : α) (h : p ≠ q) : (x.set p v).get q = x.get q := by
  cases p <;> cases q <;> first | rfl | exact absurd rfl h

/-- Reading a written table at a number: the written place or the old value. -/
@[simp] theorem setAt_getElem {α : Type} {n : Nat} (v : Vector α n) (i : Fin n) (x : α) (j : Nat) (h : j < n) :
    (setAt v i x)[j] = if i.val = j then x else v[j] := by
  simp [setAt, Vector.getElem_set]

@[simp] theorem tabulate_getElem {α : Type} {n : Nat} (f : Fin n → α) (j : Nat) (h : j < n) : (tabulate f)[j] = f ⟨j, h⟩ := by
  simp [tabulate]

@[simp] theorem mem_indices {n : Nat} (i : Fin n) : i ∈ indices n := by simp [indices]

end Sys2Proof.Machine
end

