-- ==== Sys2Proof/Laws/Ops.lean ====
section
/-! SUPPORT. For each shared operation, what of the state it can touch, and that it keeps the bound of the notice queue (R215). -/

namespace Sys2Proof.Machine

/-- An operation touches only the parts named, and keeps the notice queue's bound. -/
structure Within (touched : List Block) (s t : State) : Prop where
  same    : Frame.only touched s t
  notices : noticesOk s.hpt.notices → noticesOk t.hpt.notices

/-! ### Frames and their composition -/

theorem Same.refl (s : State) (b : Block) : Same s s b := by cases b <;> rfl

theorem Same.trans {s t u : State} {b : Block} (h : Same s t b) (k : Same t u b) : Same s u b := by
  cases b <;> exact Eq.trans k h

theorem Within.refl (B : List Block) (s : State) : Within B s s := ⟨fun b _ => Same.refl s b, id⟩

theorem Within.trans {B : List Block} {s t u : State} (h : Within B s t) (k : Within B t u) : Within B s u :=
  ⟨fun b hb => (h.same b hb).trans (k.same b hb), fun n => k.notices (h.notices n)⟩

theorem Within.mono {A B : List Block} {s t : State} (h : Within A s t) (sub : ∀ b ∈ A, b ∈ B) : Within B s t :=
  ⟨fun b hb => h.same b (fun ha => hb (sub b ha)), h.notices⟩

theorem Within.foldl {α : Type} {B : List Block} {f : State → α → State} (h : ∀ s x, Within B s (f s x)) (xs : List α) (s : State) :
    Within B s (xs.foldl f s) := by
  induction xs generalizing s with
  | nil => exact Within.refl B s
  | cons x xs ih => exact (h s x).trans (ih _)

theorem Within.ite {B : List Block} {s t u : State} {c : Prop} [Decidable c] (h : Within B s t) (k : Within B s u) :
    Within B s (if c then t else u) := by split <;> assumption

/-- An update that leaves every part outside a list equal, and the HPT equal. -/
theorem Within.ofEq {B : List Block} {s t : State} (h : ∀ b, b ∉ B → Same s t b) (k : t.hpt.notices = s.hpt.notices) : Within B s t :=
  ⟨h, fun n => by rw [k]; exact n⟩

theorem frame_pending {B : List Block} {s t : State} (h : Frame.only B s t) (hb : Block.pending ∉ B) : t.pending = s.pending :=
  h .pending hb

/-! ### Events, notices, free values -/

theorem handOff_within (s : State) (e : Instr) : Within [.handoffs] s (s.handOff e) :=
  Within.ofEq (fun b hb => by cases b <;> first | rfl | exact absurd (by simp) hb) rfl

theorem handOffs_within (s : State) (es : List Instr) : Within [.handoffs] s (s.handOffs es) :=
  Within.ofEq (fun b hb => by cases b <;> first | rfl | exact absurd (by simp) hb) rfl

theorem take_within (s : State) (e : Instr) : Within [.handoffs] s (s.take e) :=
  Within.ofEq (fun b hb => by cases b <;> first | rfl | exact absurd (by simp) hb) rfl

theorem takeGiving_within (s : State) (e : Instr) (es : List Instr) : Within [.handoffs] s (s.takeGiving e es) :=
  Within.ofEq (fun b hb => by cases b <;> first | rfl | exact absurd (by simp) hb) rfl

theorem handAhead_within (s : State) (e : Instr) (es : List Instr) : Within [.handoffs] s (s.handAhead e es) :=
  Within.ofEq (fun b hb => by cases b <;> first | rfl | exact absurd (by simp) hb) rfl

/-- Putting events in the place of one that is not there puts them at the end. -/
theorem replaceFirst_absent (e : Instr) (es xs : List Instr) (h : e ∉ xs) : replaceFirst e es xs = xs ++ es := by
  induction xs with
  | nil => rfl
  | cons x xs ih =>
    rw [List.mem_cons, not_or] at h
    rw [replaceFirst, if_neg (Ne.symm h.1), ih h.2, List.cons_append]

/-- Putting events in the place of the first of a list. -/
theorem replaceFirst_present (e : Instr) (es pre post : List Instr) (h : e ∉ pre) :
    replaceFirst e es (pre ++ e :: post) = pre ++ es ++ post := by
  induction pre with
  | nil => simp [replaceFirst]
  | cons x xs ih =>
    rw [List.mem_cons, not_or] at h
    rw [List.cons_append, replaceFirst, if_neg (Ne.symm h.1), ih h.2, List.cons_append, List.cons_append]

/-- Handing events ahead of one that is not there puts them at the end. -/
theorem insertAhead_absent (e : Instr) (es xs : List Instr) (h : e ∉ xs) : insertAhead e es xs = xs ++ es := by
  induction xs with
  | nil => rfl
  | cons x xs ih =>
    rw [List.mem_cons, not_or] at h
    rw [insertAhead, if_neg (Ne.symm h.1), ih h.2, List.cons_append]

/-- Handing events ahead of the first of a list. -/
theorem insertAhead_present (e : Instr) (es pre post : List Instr) (h : e ∉ pre) :
    insertAhead e es (pre ++ e :: post) = pre ++ es ++ e :: post := by
  induction pre with
  | nil => simp [insertAhead]
  | cons x xs ih =>
    rw [List.mem_cons, not_or] at h
    rw [List.cons_append, insertAhead, if_neg (Ne.symm h.1), ih h.2, List.cons_append, List.cons_append]

theorem spendFree_within (s : State) : Within [.freeCount] s s.spendFree :=
  Within.ofEq (fun b hb => by cases b <;> first | rfl | exact absurd (by simp) hb) rfl

theorem setMusterChange_within (s : State) : Within [.hpt] s s.setMusterChange :=
  Within.ofEq (fun b hb => by cases b <;> first | rfl | exact absurd (by simp) hb) rfl

/-- A notice taken keeps the bound; a full queue drops it (R216). -/
theorem takeNotice_bound (h : Hpt) (n : Notice) (ok : noticesOk h.notices) : noticesOk (h.takeNotice n).notices := by
  unfold Hpt.takeNotice Hpt.hasRoom
  unfold noticesOk at *
  split
  · rename_i room
    simp only [decide_eq_true_eq] at room
    simp only [List.length_append, List.length_cons, List.length_nil]
    omega
  · exact ok

theorem notice_within (s : State) (n : Notice) : Within [.hpt] s (s.notice n) := by
  unfold State.notice
  split
  · exact Within.refl _ s
  · exact ⟨fun b hb => by cases b <;> first | rfl | exact absurd (by simp) hb, fun ok => takeNotice_bound s.hpt n ok⟩

/-! ### Route table -/

theorem recompute_within (s : State) (ds : List DestIx) : Within [.rtu, .handoffs] s (s.recompute ds) :=
  Within.ofEq (fun b hb => by cases b <;> first | rfl | exact absurd (by simp) hb) rfl

theorem fullRecompute_within (s : State) : Within [.rtu, .handoffs] s s.fullRecompute := recompute_within s _

/-! ### Deck links and adverts -/

theorem place_within (s : State) (p : Port) (why : Purpose) (fr : Frame) : Within [.dlc, .hpt] s (s.place p why fr) := by
  unfold State.place
  split
  dsimp only
  split
  · refine Within.trans (B := [.dlc, .hpt]) ?_ ((notice_within _ _).mono (by simp))
    exact Within.ofEq (fun b hb => by cases b <;> first | rfl | exact absurd (by simp) hb) rfl
  · exact Within.ofEq (fun b hb => by cases b <;> first | rfl | exact absurd (by simp) hb) rfl

theorem placeBoth_within (s : State) (fr : Frame) : Within [.dlc, .hpt] s (s.placeBoth fr) :=
  (place_within s _ _ _).trans (place_within _ _ _ _)

theorem enterKey_within (s : State) (k : Key) : Within [.dlc, .hpt] s (s.enterKey k) :=
  Within.ofEq (fun b hb => by cases b <;> first | rfl | exact absurd (by simp) hb) rfl

theorem relay_within (s : State) (p : Port) (hop limit : Nat) (sender : Byte) (body : FloodBody) :
    Within [.dlc, .hpt] s (s.relay p hop limit sender body) :=
  Within.ite (place_within _ _ _ _) (Within.refl _ s)

theorem originate_within (s : State) (body : FloodBody) : Within [.dlc, .hpt] s (s.originate body) :=
  (enterKey_within s _).trans (placeBoth_within _ _)

theorem requestAdvert_within (s : State) (p : Port) (b : BlockIx) (u : Bool) : Within [.adu, .dlc] s (s.requestAdvert p b u) :=
  Within.ofEq (fun b hb => by cases b <;> first | rfl | exact absurd (by simp) hb) rfl

theorem setUrgent_within (s : State) (p : Port) (b : BlockIx) (v : Bool) : Within [.adu, .dlc] s (s.setUrgent p b v) :=
  Within.ofEq (fun b hb => by cases b <;> first | rfl | exact absurd (by simp) hb) rfl

theorem markUrgent_within (s : State) (p : Port) (b : BlockIx) : Within [.adu, .dlc] s (s.markUrgent p b) :=
  (setUrgent_within s _ _ _).trans (requestAdvert_within _ _ _ _)

theorem urgeChanged_within (s : State) (p : Port) : Within [.adu, .dlc] s (s.urgeChanged p) :=
  Within.foldl (fun _ _ => Within.ite (markUrgent_within _ _ _) (Within.refl _ _)) _ _

theorem rotatePort_within (s : State) (p : Port) : Within [.adu, .dlc] s (s.rotatePort p) :=
  (requestAdvert_within s p _ false).trans
    (Within.ofEq (fun b hb => by cases b <;> first | rfl | exact absurd (by simp) hb) rfl)

theorem handToOwner_within (s : State) (p : Port) (hop : Nat) (b : FloodBody) : Within [.handoffs] s (s.handToOwner p hop b) := by
  cases b <;> unfold State.handToOwner
  · exact handOff_within _ _
  · exact handOff_within _ _
  · exact handOff_within _ _
  · exact Within.ite (handOff_within _ _) (Within.refl _ _)

theorem dispatchFlood_within (s : State) (p : Port) (f : Frame) : Within [.dlc, .hpt, .handoffs] s (s.dispatchFlood p f) := by
  unfold State.dispatchFlood
  split
  · exact (handToOwner_within _ _ _ _).mono (by simp)
  · split
    · exact Within.refl _ s
    · exact (((enterKey_within s _).mono (by simp)).trans ((handToOwner_within _ _ _ _).mono (by simp))).trans
        ((relay_within _ _ _ _ _ _).mono (by simp))

theorem arriveRunning_within (s : State) (p : Port) (w : Bool) (a : Arrived) :
    Within [.dlc, .hpt, .handoffs] s (s.arriveRunning p w a) := by
  unfold State.arriveRunning
  split
  · exact Within.refl _ s
  · split
    · exact Within.ite (Within.refl _ s) ((handOff_within _ _).mono (by simp))
    · exact Within.ite (Within.refl _ s) (Within.ite (Within.refl _ s) (dispatchFlood_within _ _ _))

theorem arriveFallback_within (s : State) (p : Port) (w : Bool) (a : Arrived) :
    Within [.dlc, .hpt, .handoffs] s (s.arriveFallback p w a) := by
  unfold State.arriveFallback
  split
  · exact Within.refl _ s
  · split
    · exact Within.refl _ s
    · exact Within.ite (Within.refl _ s)
        ((((enterKey_within s _).trans (relay_within _ _ _ _ _ _))).mono (by simp))

theorem setPort_within (s : State) (p : Port) (lp : LinkPort) : Within [.dlc] s (s.setPort p lp) :=
  Within.ofEq (fun b hb => by cases b <;> first | rfl | exact absurd (by simp) hb) rfl

theorem afterCollision_within (s : State) (p : Port) (c : Collided) : Within [.adu, .dlc, .hpt] s (s.afterCollision p c) := by
  unfold State.afterCollision
  split
  · exact (notice_within _ _).mono (by simp)
  · exact ((notice_within _ _).mono (by simp)).trans ((markUrgent_within _ _ _).mono (by simp))
  · exact Within.refl _ s

theorem marksOnStart_within (s : State) (p : Port) (n : SlotName) : Within [.rtu, .adu] s (s.marksOnStart p n) := by
  cases n <;> unfold State.marksOnStart <;> first
    | exact Within.refl _ s
    | exact Within.ofEq (fun b hb => by cases b <;> first | rfl | exact absurd (by simp) hb) rfl

/-! ### Legs -/

theorem report_within (s : State) (r : Option LegReport) : Within [.handoffs] s (s.report r) := handOffs_within _ _

theorem setLeg_within (s : State) (l : LegIx) (r : LegRecord) : Within [.lgm] s (s.setLeg l r) :=
  Within.ofEq (fun b hb => by cases b <;> first | rfl | exact absurd (by simp) hb) rfl

theorem changeLegTo_within (s : State) (l : LegIx) (r : LegRecord) : Within [.lgm, .handoffs] s (s.changeLegTo l r) :=
  ((setLeg_within s l r).mono (by simp)).trans ((report_within _ _).mono (by simp))

theorem changeLeg_within (s : State) (l : LegIx) (f : LegRecord → LegRecord) : Within [.lgm, .handoffs] s (s.changeLeg l f) :=
  changeLegTo_within s l _

theorem reevaluateAll_within (s : State) : Within [.lgm, .handoffs] s s.reevaluateAll :=
  Within.foldl (fun _ _ => Within.ite (changeLeg_within _ _ _) (Within.refl _ _)) _ _

theorem applyCondition_within (s : State) (c : ConditionBody) : Within [.lgm, .handoffs] s (s.applyCondition c) := by
  unfold State.applyCondition
  split
  · refine Within.foldl (fun t l => ?_) _ _
    unfold applyToLeg
    split
    · exact Within.ite (changeLeg_within _ _ _) (Within.refl _ _)
    · exact Within.refl _ _
  · exact Within.refl _ s

theorem nextCondSeq_within (s : State) : Within [.lgm] s s.nextCondSeq :=
  Within.ofEq (fun b hb => by cases b <;> first | rfl | exact absurd (by simp) hb) rfl

theorem originateDoor_within (s : State) (l : LegIx) : Within [.lgm, .dlc, .hpt] s (s.originateDoor l) := by
  unfold State.originateDoor
  split
  · exact Within.refl _ s
  · exact ((nextCondSeq_within s).mono (by simp)).trans
      (((enterKey_within _ _).trans (place_within _ _ _ _)).mono (by simp))

/-! ### Muster, clock, programme -/

theorem announceAdoption_within (s : State) : Within [.muc, .hpt, .handoffs] s s.announceAdoption :=
  Within.ofEq (fun b hb => by cases b <;> first | rfl | exact absurd (by simp) hb) rfl

theorem adopt_within (s : State) (e : Word) (ph : Phase) (o : Byte) (z : List Byte) :
    Within [.muc, .hpt, .handoffs] s (s.adopt e ph o z) :=
  Within.ofEq (fun b hb => by cases b <;> first | rfl | exact absurd (by simp) hb) rfl

theorem placeAlarm_within (s : State) : Within [.dlc, .hpt] s s.placeAlarm := by
  unfold State.placeAlarm
  split
  · exact Within.ite (Within.refl _ s) (placeBoth_within _ _)
  · exact Within.refl _ s

theorem raise_within (s : State) (ph : Phase) (z : List Byte) : Within [.muc, .hpt, .handoffs, .dlc] s (s.raise ph z) :=
  ((adopt_within s _ _ _ _).mono (by simp)).trans ((placeAlarm_within _).mono (by simp))

theorem minuteEvent_within (s : State) (o : Option Nat) (n : Nat) : Within [.handoffs] s (s.minuteEvent o n) := by
  unfold State.minuteEvent
  split
  · exact handOffs_within _ _
  · exact handOff_within _ _
  · exact Within.refl _ s

theorem clockMoves_within (s : State) (c : Sck) : Within [.sck, .handoffs] s (s.clockMoves c) := by
  have h : Within [.sck, .handoffs] s { s with sck := c } :=
    Within.ofEq (fun b hb => by cases b <;> first | rfl | exact absurd (by simp) hb) rfl
  unfold State.clockMoves
  exact Within.ite h (h.trans ((minuteEvent_within _ _ _).mono (by simp)))

theorem setClockByHost_within (s : State) (d m x : Nat) : Within [.sck, .handoffs, .dlc, .hpt] s (s.setClockByHost d m x) := by
  unfold State.setClockByHost
  exact ((Within.ofEq (fun b _ => by cases b <;> rfl) rfl).trans
    ((clockMoves_within _ _).mono (by simp))).trans ((originate_within _ _).mono (by simp))

theorem offer_within (s : State) (o : Offer) : Within [.plu, .handoffs, .hpt] s (s.offer o).1 := by
  unfold State.offer
  dsimp only
  split
  · exact Within.refl _ s
  · split
    · exact Within.refl _ s
    · split
      · unfold State.endItem
        split
        · exact Within.ofEq (fun b hb => by cases b <;> first | rfl | exact absurd (by simp) hb) rfl
        · exact Within.refl _ s
      · split
        · exact Within.ofEq (fun b hb => by cases b <;> first | rfl | exact absurd (by simp) hb) rfl
        · unfold State.storeItem
          split
          · exact Within.ofEq (fun b hb => by cases b <;> first | rfl | exact absurd (by simp) hb) rfl
          · split
            · exact Within.refl _ s
            · split
              · exact (notice_within _ _).mono (by simp)
              · refine Within.trans (B := [.plu, .handoffs, .hpt]) ?_ ((notice_within _ _).mono (by simp))
                exact Within.ofEq (fun b hb => by cases b <;> first | rfl | exact absurd (by simp) hb) rfl

theorem hostOffer_within (s : State) (o : Offer) (t m : Word) : Within [.plu, .handoffs, .hpt, .dlc] s (s.hostOffer o t m).1 := by
  unfold State.hostOffer
  dsimp only
  exact Within.ite (((offer_within s o).mono (by simp)).trans ((originate_within _ _).mono (by simp)))
    ((offer_within s o).mono (by simp))

/-! ### Faces -/

theorem recomputeFace_within (s : State) (f : FaceIx) : Within [.handoffs] s (s.recomputeFace f) :=
  Within.ite (Within.refl _ s) (handOff_within _ _)

theorem recomputeFaces_within (s : State) (p : FaceConfig → Bool) : Within [.handoffs] s (s.recomputeFaces p) :=
  Within.foldl (fun _ _ => Within.ite (recomputeFace_within _ _) (Within.refl _ _)) _ _

theorem setFace_within (s : State) (f : FaceIx) (fs : FaceState) : Within [.fcu] s (s.setFace f fs) :=
  Within.ofEq (fun b hb => by cases b <;> first | rfl | exact absurd (by simp) hb) rfl

theorem recordCompleted_within (s : State) (f : FaceIx) (d : Drawn) : Within [.fcu] s (s.recordCompleted f d) := by
  cases d <;> exact setFace_within _ _ _

theorem recordNotCompleted_within (s : State) (f : FaceIx) (d : DrawTarget) : Within [.fcu] s (s.recordNotCompleted f d) := by
  cases d <;> exact setFace_within _ _ _

theorem rotateFace_within (s : State) (f : FaceIx) : Within [.fcu, .handoffs] s (s.rotateFace f) := by
  unfold State.rotateFace
  split
  · exact Within.ite (((setFace_within _ _ _).mono (by simp)).trans ((recomputeFace_within _ _).mono (by simp)))
      (Within.refl _ s)
  · exact Within.refl _ s

end Sys2Proof.Machine
end

