-- ==== Sys2Proof/Laws/FaceString.lean ====
section
/-! SUPPORT. What the operations of the face string can touch: the FCU's snapshots, the face words, the cache, the notice queue and the hand-offs; and what the arbiter does. -/

namespace Sys2Proof.Machine

/-- The parts of the state the face string's operations can touch. -/
abbrev stringBlocks : List Block := [.fcu, .fsc, .pca, .hpt, .handoffs]

/-- The face string's frame. -/
abbrev StringWithin (s t : State) : Prop := Within stringBlocks s t

theorem setWord_within (s : State) (f : FaceIx) (w : FaceWord) : StringWithin s (s.setWord f w) :=
  Within.ofEq (fun b hb => by cases b <;> first | rfl | exact absurd (by simp) hb) rfl

theorem setString_within (s : State) (x : Option Exchange) : StringWithin s (s.setString x) :=
  Within.ofEq (fun b hb => by cases b <;> first | rfl | exact absurd (by simp) hb) rfl

theorem setPca_within (s : State) (p : Pca) : StringWithin s (s.setPca p) :=
  Within.ofEq (fun b hb => by cases b <;> first | rfl | exact absurd (by simp) hb) rfl

theorem issue_within (s : State) : StringWithin s s.issue :=
  Within.ofEq (fun b hb => by cases b <;> first | rfl | exact absurd (by simp) hb) rfl

theorem notice_string (s : State) (n : Notice) : StringWithin s (s.notice n) := (notice_within s n).mono (by simp)

theorem handOff_string (s : State) (e : Instr) : StringWithin s (s.handOff e) := (handOff_within s e).mono (by simp)

theorem recordCompleted_string (s : State) (f : FaceIx) (d : Drawn) : StringWithin s (s.recordCompleted f d) :=
  (recordCompleted_within s f d).mono (by simp)

theorem recordNotCompleted_string (s : State) (f : FaceIx) (d : DrawTarget) : StringWithin s (s.recordNotCompleted f d) :=
  (recordNotCompleted_within s f d).mono (by simp)

theorem settle_within (s : State) (f : FaceIx) : StringWithin s (s.settle f) := setWord_within _ _ _

theorem dropPrefetch_within (s : State) (f : FaceIx) : StringWithin s (s.dropPrefetch f) :=
  (setWord_within _ _ _).trans (setPca_within _ _)

theorem withdrawRecord_within (s : State) (f : FaceIx) : StringWithin s (s.withdrawRecord f) :=
  (setWord_within _ _ _).trans (setPca_within _ _)

theorem clearChain_within (s : State) (f : FaceIx) : StringWithin s (s.clearChain f) :=
  ((withdrawRecord_within s f).trans (setWord_within _ _ _)).trans (dropPrefetch_within _ _)

theorem giveEnding_within (s : State) (f : FaceIx) (e : ChainEnding) : StringWithin s (s.giveEnding f e) :=
  Within.ite (notice_string _ _) (setWord_within _ _ _)

theorem discardPending_within (s : State) (f : FaceIx) (c : Condition) : StringWithin s (s.discardPending f c) := by
  unfold State.discardPending
  split
  · exact ((setWord_within _ _ _).trans (dropPrefetch_within _ _)).trans (giveEnding_within _ _ _)
  · exact Within.refl _ s

theorem activate_within (s : State) (f : FaceIx) (r : List SuppliedRecord) : StringWithin s (s.activate f r) :=
  ((issue_within s).trans (setWord_within _ _ _)).trans (settle_within _ _)

theorem activatePending_within (s : State) (f : FaceIx) : StringWithin s (s.activatePending f) := by
  unfold State.activatePending
  split
  · exact activate_within _ _ _
  · exact Within.refl _ s

theorem followUp_within (s : State) (f : FaceIx) : StringWithin s (s.followUp f) :=
  Within.ite ((issue_within s).trans (setWord_within _ _ _)) (Within.refl _ s)

theorem drawFault_within (s : State) (f : FaceIx) (k : DemandClass) (c : Condition) (p : Part) :
    StringWithin s (s.drawFault f k c p) :=
  (recordNotCompleted_string s f _).trans (notice_string _ _)

theorem endGenerated_within (s : State) (f : FaceIx) (k : DemandClass) (c : Condition) (p : Option Part) :
    StringWithin s (s.endGenerated f k c p) := by
  have h1 : StringWithin s (s.clearChain f) := clearChain_within s f
  have h2 : StringWithin s (p.elim (s.clearChain f) ((s.clearChain f).drawFault f k c)) := by
    cases p
    · exact h1
    · exact h1.trans (drawFault_within _ _ _ _ _)
  unfold State.endGenerated
  exact Within.ite h2 (((h2.trans (activatePending_within _ _)).trans (followUp_within _ _)).trans (settle_within _ _))

theorem endSupplied_within (s : State) (f : FaceIx) (r : List SuppliedRecord) (n : Nat) (c : Condition) :
    StringWithin s (s.endSupplied f r n c) :=
  ((((clearChain_within s f).trans (setWord_within _ _ _)).trans (giveEnding_within _ _ _)).trans (handOff_string _ _)).trans
    (settle_within _ _)

theorem endChain_within (s : State) (f : FaceIx) (c : Condition) : StringWithin s (s.endChain f c) := by
  unfold State.endChain
  split
  · exact endGenerated_within _ _ _ _ _
  · exact endSupplied_within _ _ _ _ _
  · exact Within.refl _ s

theorem takeDemand_within (s : State) (f : FaceIx) (k : DemandClass) : StringWithin s (s.takeDemand f k) :=
  Within.ite (Within.refl _ s) (Within.ite (setWord_within _ _ _) (Within.ite (setWord_within _ _ _)
    ((issue_within s).trans (setWord_within _ _ _))))

theorem prefetchNext_within (s : State) (f : FaceIx) (c : ActiveChain) : StringWithin s (s.prefetchNext f c) :=
  Within.ite (Within.refl _ s) ((setWord_within _ _ _).trans (setPca_within _ _))

theorem beginTransfer_within (s : State) (f : FaceIx) (c : ActiveChain) (r : DrawRecord) :
    StringWithin s (s.beginTransfer f c r) := by
  have h : StringWithin s ((s.setString (some (.draw f r))).setWord f
      { s.fsc.words[f] with state := .transfer, retry := 0, started := none, waiting := none, recordAged := false }) :=
    (setString_within s _).trans (setWord_within _ _ _)
  unfold State.beginTransfer
  exact (Within.ite (h.trans (notice_string _ _)) h).trans (prefetchNext_within _ _ _)

theorem requestPage_within (s : State) (f : FaceIx) (c : ActiveChain) (r : DrawRecord) :
    StringWithin s (s.requestPage f c r) := by
  unfold State.requestPage
  exact Within.ite ((setPca_within s _).trans (beginTransfer_within _ _ _ _)) ((setPca_within s _).trans (setWord_within _ _ _))

theorem prepare_within (s : State) (f : FaceIx) (c : ActiveChain) : StringWithin s (s.prepare f c) := by
  unfold State.prepare
  split
  · exact endChain_within _ _ _
  · split
    · exact beginTransfer_within _ _ _ _
    · exact Within.ite (beginTransfer_within _ _ _ _) (requestPage_within _ _ _ _)

theorem startGenerated_within (s : State) (f : FaceIx) : StringWithin s (s.startGenerated f) :=
  Within.ite (setWord_within _ _ _) ((setWord_within _ _ _).trans (prepare_within _ _ _))

theorem beginPoll_within (s : State) (f : FaceIx) : StringWithin s (s.beginPoll f) :=
  Within.ofEq (fun b hb => by cases b <;> first | rfl | exact absurd (by simp) hb) rfl

theorem takeCandidate_within (s : State) (c : Candidate) : StringWithin s (s.takeCandidate c) := by
  unfold State.takeCandidate
  split
  · exact startGenerated_within _ _
  · cases s.fsc.words[c.face].active
    · exact Within.refl _ s
    · exact prepare_within _ _ _
  · exact beginPoll_within _ _

theorem pickUpTo_within (n : Nat) (s : State) : StringWithin s (s.pickUpTo n) := by
  induction n generalizing s with
  | zero => exact Within.refl _ s
  | succ n ih =>
    unfold State.pickUpTo
    split
    · exact (takeCandidate_within _ _).trans (ih _)
    · exact Within.refl _ s

/-- What the arbiter can touch (R180). -/
theorem arbitrate_within (s : State) : StringWithin s s.arbitrate := pickUpTo_within _ s

/-- With no choice to make the arbiter changes nothing. -/
theorem arbitrate_noChoice (s : State) (h : s.choice = none) : s.arbitrate = s := by
  unfold State.arbitrate State.pickUpTo
  simp [h]

/-- With a choice to make the arbiter takes it, and goes on from there. -/
theorem arbitrate_choice (s : State) (c : Candidate) (h : s.choice = some c) :
    s.arbitrate = State.pickUpTo 127 (s.takeCandidate c) := by
  unfold State.arbitrate
  rw [State.pickUpTo]
  simp [h]

/-- Outside RUNNING there is no choice to make. -/
theorem choice_notRunning (s : State) (h : s.running = false) : s.choice = none := by simp [State.choice, h]

/-- With an exchange on the string there is no choice to make (R180). -/
theorem choice_busy (s : State) (x : Exchange) (h : s.fsc.string = some x) : s.choice = none := by simp [State.choice, h]

/-- A free string in RUNNING: the choice is the best candidate (R180). -/
theorem choice_free (s : State) (r : s.running = true) (h : s.fsc.string = none) : s.choice = s.bestCandidate := by
  simp [State.choice, r, h]

/-- With an exchange on the string the arbiter chooses nothing (R180). -/
theorem arbitrate_busy (s : State) (x : Exchange) (h : s.fsc.string = some x) : s.arbitrate = s :=
  arbitrate_noChoice s (choice_busy s x h)

/-- With no candidate the arbiter chooses nothing (R180). -/
theorem arbitrate_none (s : State) (h : s.bestCandidate = none) : s.arbitrate = s :=
  arbitrate_noChoice s (by simp [State.choice, h])

theorem releaseRecord_within (s : State) (r : DrawRecord) : StringWithin s (s.releaseRecord r) :=
  (setString_within s _).trans (setPca_within _ _)

theorem continueChain_within (s : State) (f : FaceIx) (c : ActiveChain) : StringWithin s (s.continueChain f c) := by
  unfold State.continueChain
  split
  · exact Within.ite (settle_within _ _) (endGenerated_within _ _ _ _ _)
  · exact Within.ite (endSupplied_within _ _ _ _ _) (Within.ite (settle_within _ _) (endSupplied_within _ _ _ _ _))

theorem recordDone_within (s : State) (f : FaceIx) (r : DrawRecord) : StringWithin s (s.recordDone f r) := by
  have h : StringWithin s ((s.releaseRecord r).recordCompleted f r.drawn) :=
    (releaseRecord_within s r).trans (recordCompleted_string _ _ _)
  unfold State.recordDone
  dsimp only
  split
  · exact (h.trans (setWord_within _ _ _)).trans (continueChain_within _ _ _)
  · exact h.trans (settle_within _ _)

theorem tellFailedPicture_within (s : State) (f : FaceIx) (r : DrawRecord) : StringWithin s (s.tellFailedPicture f r) := by
  unfold State.tellFailedPicture
  split
  · exact recordNotCompleted_string _ _ _
  · exact Within.refl _ s

theorem recordFault_within (s : State) (f : FaceIx) (r : DrawRecord) : StringWithin s (s.recordFault f r) :=
  ((releaseRecord_within s r).trans (tellFailedPicture_within _ _ _)).trans (endChain_within _ _ _)

theorem goOffline_within (s : State) (f : FaceIx) : StringWithin s (s.goOffline f) :=
  ((((((setWord_within s _ _).trans (endChain_within _ _ _)).trans (withdrawRecord_within _ _)).trans
    (dropPrefetch_within _ _)).trans (setWord_within _ _ _)).trans (discardPending_within _ _ _)).trans (notice_string _ _)

theorem recordSilent_within (s : State) (f : FaceIx) (r : DrawRecord) : StringWithin s (s.recordSilent f r) :=
  ((releaseRecord_within s r).trans (tellFailedPicture_within _ _ _)).trans (goOffline_within _ _)

theorem setAck_within (s : State) (x : Option (FaceIx × AckAnswer)) : StringWithin s { s with fsc := { s.fsc with lastAck := x } } :=
  Within.ofEq (fun b hb => by cases b <;> first | rfl | exact absurd (by simp) hb) rfl

theorem answerAttention_within (s : State) (f : FaceIx) (c : Byte) : StringWithin s (s.answerAttention f c) :=
  Within.ite (setAck_within _ _) (Within.ite ((setAck_within _ _).trans (notice_string _ _))
    ((setAck_within _ _).trans (setWord_within _ _ _)))

theorem attend_within (s : State) (f : FaceIx) (c : Byte) : StringWithin s (s.attend f c) := by
  unfold State.attend
  exact (Within.ite ((setWord_within _ _ _).trans (handOff_string _ _)) (Within.refl _ s)).trans (answerAttention_within _ _ _)

theorem pollEffect_within (s : State) (f : FaceIx) (b : Bool) (r : Reply) : StringWithin s (s.pollEffect f b r) := by
  cases r <;> unfold State.pollEffect
  · exact Within.refl _ s
  · exact notice_string _ _
  · exact Within.ite (setWord_within _ _ _) (Within.refl _ s)
  · exact attend_within _ _ _

theorem backOnline_within (s : State) (f : FaceIx) : StringWithin s (s.backOnline f) :=
  ((setWord_within _ _ _).trans (notice_string _ _)).trans (handOff_string _ _)

theorem pollReply_within (s : State) (f : FaceIx) (b : Bool) (r : Reply) : StringWithin s (s.pollReply f b r) := by
  have h : StringWithin s (if (s.setString none).fsc.words[f].state = .offline then (s.setString none).backOnline f
      else s.setString none) :=
    Within.ite ((setString_within s _).trans (backOnline_within _ _)) (setString_within s _)
  unfold State.pollReply
  exact ((h.trans (pollEffect_within _ _ _ _)).trans (setWord_within _ _ _)).trans (settle_within _ _)

theorem pollSilent_within (s : State) (f : FaceIx) : StringWithin s (s.pollSilent f) :=
  Within.ite ((setString_within s _).trans (setWord_within _ _ _)) (Within.ite (setWord_within _ _ _)
    ((setString_within s _).trans (goOffline_within _ _)))

theorem pageReady_within (s : State) (f : FaceIx) : StringWithin s (s.pageReady f) :=
  (setWord_within _ _ _).trans (settle_within _ _)

theorem pageFault_within (s : State) (f : FaceIx) : StringWithin s (s.pageFault f) :=
  (setWord_within _ _ _).trans (endChain_within _ _ _)

theorem tellFault_within (s : State) (w : Waiter) : StringWithin s (s.tellFault w) := by
  cases w <;> unfold State.tellFault
  · exact pageFault_within _ _
  · exact (setPca_within _ _).trans (handOff_string _ _)
  · exact Within.refl _ s

theorem fetchFault_within (s : State) (i : Fin 16) : StringWithin s (s.fetchFault i) := by
  unfold State.fetchFault
  exact ((setPca_within s _).trans (Within.foldl tellFault_within _ _)).trans (setPca_within _ _)

theorem fetchGood_within (s : State) (i : Fin 16) (b : List Byte) : StringWithin s (s.fetchGood i b) := by
  unfold State.fetchGood
  exact (setPca_within s _).trans (Within.foldl pageReady_within _ _)

theorem fetching_within (s : State) : StringWithin s s.fetching :=
  Within.ite (Within.refl _ s) (arbitrate_within s)

/-- A second of the timebase touches the muster record alone (R118). -/
theorem tick_within (s : State) : Within [.muc] s s.tick :=
  Within.ofEq (fun b hb => by cases b <;> first | rfl | exact absurd (by simp) hb) rfl

/-- What the part does by itself: the arbiter's choice, or a second of the timebase. -/
theorem idle_within (s : State) : Within [.fcu, .fsc, .pca, .hpt, .handoffs, .muc] s s.idle := by
  unfold State.idle
  split
  · exact (takeCandidate_within _ _).mono (by simp)
  · exact (tick_within _).mono (by simp)

theorem pollFallsDue_within (s : State) (f : FaceIx) : StringWithin s (s.pollFallsDue f) :=
  (issue_within s).trans (setWord_within _ _ _)

theorem age_within (s : State) (f : FaceIx) (a : Aging) : StringWithin s (s.age f a) := by
  unfold State.age
  dsimp only
  split
  · exact Within.ite (setWord_within _ _ _) (Within.refl _ s)
  · exact setWord_within _ _ _
  · exact Within.refl _ s

theorem drawReply_within (s : State) (f : FaceIx) (r : DrawRecord) (x : Reply) : StringWithin s (s.drawReply f r x) := by
  cases x <;> unfold State.drawReply
  · exact recordDone_within _ _ _
  · exact recordFault_within _ _ _
  · exact Within.refl _ s
  · exact Within.refl _ s

theorem drawSilent_within (s : State) (f : FaceIx) (r : DrawRecord) : StringWithin s (s.drawSilent f r) :=
  Within.ite (setWord_within _ _ _) (recordSilent_within _ _ _)

theorem haltSupplied_within (s : State) (f : FaceIx) : StringWithin s (s.haltSupplied f) :=
  Within.ite (Within.ite (setWord_within _ _ _) (endChain_within _ _ _)) (Within.refl _ s)

theorem musterFace_within (s : State) (f : FaceIx) : StringWithin s (s.musterFace f) :=
  Within.ite (((haltSupplied_within s f).trans (discardPending_within _ _ _)).trans (takeDemand_within _ _ _)) (Within.refl _ s)

end Sys2Proof.Machine
end

