-- ==== Sys2Proof/Laws/Pages.lean ====
section
/-! SUPPORT. What the operations of the Page Cache do, each in one piece: the head tried, marks withdrawn, a phase's pages held and released. -/

namespace Sys2Proof.Machine

/-! ### Trying the head of the queue (R202) -/

/-- The head is an entry of the queue. -/
theorem head_mem (p : Pca) (e : QueueEntry) (h : p.head = some e) : e ∈ p.queue := by
  have step : ∀ (es : List QueueEntry) (b : Option QueueEntry), es.foldl aheadEntry b = some e → b = some e ∨ e ∈ es := by
    intro es
    induction es with
    | nil => exact fun b h => Or.inl h
    | cons x rest ih =>
      intro b h
      rcases ih _ h with h | h
      · cases b with
        | none => cases h; exact Or.inr List.mem_cons_self
        | some y =>
          simp only [aheadEntry] at h
          split at h
          · cases h; exact Or.inr List.mem_cons_self
          · exact Or.inl h
      · exact Or.inr (List.mem_cons_of_mem _ h)
  rcases step p.queue none h with h | h
  · exact absurd h (by simp)
  · exact h

/-- Trying the head leaves the cache as it is, or starts the head's fetch in the chosen slot. -/
theorem tryFetch_cases (p : Pca) :
    p.tryFetch = p ∨ ∃ e i, p.fetch = none ∧ p.head = some e ∧ p.chooseSlot = some i ∧ p.tryFetch = p.startFetch e i := by
  unfold Pca.tryFetch
  split
  next e i a b c => exact Or.inr ⟨e, i, a, b, c, rfl⟩
  next => exact Or.inl rfl

/-- With a fetch on the port nothing starts. -/
theorem tryFetch_busy (p : Pca) (h : p.fetch ≠ none) : p.tryFetch = p := by
  rcases tryFetch_cases p with e | ⟨_, _, a, _⟩
  · exact e
  · exact absurd a h

/-! ### Marks (R199, R200) -/

/-- No waiter of a kind stands in the cache, and no entry of the queue is without one. -/
structure FreeOf (drop : Nat → Waiter → Bool) (p : Pca) : Prop where
  slots : ∀ i : Fin 16, ∀ w ∈ p.slots[i].waiters, drop p.slots[i].page w = false
  queue : ∀ e ∈ p.queue, e.waiters ≠ [] ∧ ∀ w ∈ e.waiters, drop e.page w = false

theorem dropWaiters_free (p : Pca) (drop : Nat → Waiter → Bool) : FreeOf drop (p.dropWaiters drop) where
  slots i w hw := by
    simp only [Pca.dropWaiters, tabulate_get] at hw ⊢
    simpa using (List.mem_filter.mp hw).2
  queue e he := by
    obtain ⟨hm, hn⟩ := List.mem_filter.mp he
    obtain ⟨d, _, rfl⟩ := List.mem_map.mp hm
    exact ⟨by simpa using hn, fun w hw => by simpa using (List.mem_filter.mp hw).2⟩

/-- Where no such waiter stands, taking them off changes nothing. -/
theorem dropWaiters_eq_self {p : Pca} {drop : Nat → Waiter → Bool} (h : FreeOf drop p) : p.dropWaiters drop = p := by
  have keep : ∀ (n : Nat) (ws : List Waiter), (∀ w ∈ ws, drop n w = false) → ws.filter (fun w => !drop n w) = ws :=
    fun n ws hw => List.filter_eq_self.mpr (fun w hm => by simp [hw w hm])
  have hs : tabulate (fun i : Fin 16 => { p.slots[i] with waiters := p.slots[i].waiters.filter (fun w => !drop p.slots[i].page w) })
      = p.slots := by
    apply Vector.ext
    intro k hk
    rw [tabulate_getElem, keep _ _ (h.slots ⟨k, hk⟩)]
    rfl
  have hm : p.queue.map (fun e => { e with waiters := e.waiters.filter (fun w => !drop e.page w) }) = p.queue := by
    conv_rhs => rw [← List.map_id p.queue]
    exact List.map_congr_left (fun e he => by rw [keep _ _ (h.queue e he).2]; rfl)
  have hq : p.queue.filter (fun e => !e.waiters.isEmpty) = p.queue :=
    List.filter_eq_self.mpr (fun e he => by simpa using (h.queue e he).1)
  unfold Pca.dropWaiters
  rw [hs, hm, hq]

theorem FreeOf.tryFetch {p : Pca} {drop : Nat → Waiter → Bool} (h : FreeOf drop p) : FreeOf drop p.tryFetch := by
  rcases tryFetch_cases p with e | ⟨e, i, _, he, _, eq⟩
  · rw [e]; exact h
  · rw [eq]
    refine ⟨fun j w hw => ?_, fun x hx => h.queue x (List.mem_filter.mp hx).1⟩
    simp only [Pca.startFetch] at hw ⊢
    by_cases hij : i = j
    · subst hij
      rw [setAt_same] at hw ⊢
      exact (h.queue e (head_mem p e he)).2 w hw
    · rw [setAt_other _ _ _ _ hij] at hw ⊢
      exact h.slots j w hw

/-- A prefetch mark withdrawn twice is withdrawn once. -/
theorem withdrawPrefetch_idem (p : Pca) (f : FaceIx) : (p.withdrawPrefetch f).withdrawPrefetch f = p.withdrawPrefetch f := by
  unfold Pca.withdrawPrefetch
  rw [dropWaiters_eq_self (dropWaiters_free p _).tryFetch]
  rcases tryFetch_cases (p.dropWaiters (fun _ w => w == .prefetch f)) with e | ⟨_, _, _, _, _, e⟩
  · rw [e, e]
  · rw [e]; exact tryFetch_busy _ (by simp [Pca.startFetch])

/-! ### A phase's pages (R205, R206) -/

/-- Some waiters and a hold mark, which joins once (R205). -/
abbrev marked (ws : List Waiter) : List Waiter := if ws.contains .hold then ws else ws ++ [.hold]

theorem joinWaiter_hold (ws : List Waiter) : joinWaiter ws .hold = marked ws := by
  simp [joinWaiter, marked]

/-- A release request in one piece (R206): no slot of the pages is held or marked, no queue entry of them is marked, and an entry left
without a waiter goes. -/
theorem release_eq (p : Pca) (pages : List Nat) : p.release pages = Pca.tryFetch { p with
    slots := tabulate (fun i =>
      let c := p.slots[i]
      if c.page ∈ pages then { c with held := false, waiters := c.waiters.filter (fun x => x != .hold) } else c)
    queue := (p.queue.map (fun e => if e.page ∈ pages then { e with waiters := e.waiters.filter (fun x => x != .hold) } else e)).filter
      (fun e => !e.waiters.isEmpty)
    holdPhase := none, holdPages := [], faulted := false } := by
  have kept : ∀ (n : Nat) (ws : List Waiter), ws.filter (fun w => !(w == .hold && pages.contains n))
      = if n ∈ pages then ws.filter (fun x => x != .hold) else ws := by
    intro n ws
    by_cases h : n ∈ pages
    · rw [if_pos h]
      exact List.filter_congr (fun w _ => by rw [List.contains_iff_mem.mpr h, Bool.and_true]; rfl)
    · rw [if_neg h]; exact List.filter_eq_self.mpr (fun w _ => by simp [h])
  have hq : ∀ e : QueueEntry, { e with waiters := e.waiters.filter (fun w => !(w == .hold && pages.contains e.page)) }
      = if e.page ∈ pages then { e with waiters := e.waiters.filter (fun x => x != .hold) } else e := by
    intro e; rw [kept]; split <;> rfl
  unfold Pca.release Pca.unhold Pca.dropWaiters
  simp only [hq, tabulate_get]
  have hs : ∀ i : Fin 16, (if pages.contains p.slots[i].page then
        { p.slots[i] with held := false, waiters := p.slots[i].waiters.filter (fun w => !(w == .hold && pages.contains p.slots[i].page)) }
      else { p.slots[i] with waiters := p.slots[i].waiters.filter (fun w => !(w == .hold && pages.contains p.slots[i].page)) })
      = if p.slots[i].page ∈ pages then { p.slots[i] with held := false, waiters := p.slots[i].waiters.filter (fun x => x != .hold) }
        else p.slots[i] := by
    intro i
    rw [kept]
    by_cases h : p.slots[i].page ∈ pages
    · rw [if_pos (List.contains_iff_mem.mpr h), if_pos h, if_pos h]
    · rw [if_neg (fun e => h (List.contains_iff_mem.mp e)), if_neg h, if_neg h]
  rw [show (fun i : Fin 16 => _) = _ from funext hs]

/-- The slot a page stands in depends on the pages and the states of the slots alone. -/
theorem slotOf_congr (p q : Pca) (h : ∀ i : Fin 16, q.slots[i].page = p.slots[i].page ∧ q.slots[i].state = p.slots[i].state) (n : Nat) :
    q.slotOf n = p.slotOf n := by
  unfold Pca.slotOf
  congr 1
  funext i
  rw [(h i).1, (h i).2]

/-- A slot when some pages are held (R205): a VALID one is held, a FILLING one takes a hold mark. -/
abbrev slotHeld (pages : List Nat) (c : CacheSlot) : CacheSlot :=
  if c.page ∈ pages then
    match c.state with
    | .valid => { c with held := true }
    | .filling => { c with waiters := marked c.waiters }
    | .empty => c
  else c

/-- A queue entry when some pages are held: it takes a hold mark (R205). -/
abbrev entryHeld (pages : List Nat) (e : QueueEntry) : QueueEntry :=
  if e.page ∈ pages then { e with waiters := marked e.waiters } else e

/-- A page stands neither in a slot nor in the queue. -/
abbrev nowhere (p : Pca) (n : Nat) : Bool :=
  (indices 16).all (fun i => p.slots[i].state == .empty || p.slots[i].page != n) && p.queue.all (fun e => e.page != n)

/-- A cache with some pages held: its slots, its entries, and a new entry for each page that stands nowhere (R205). -/
abbrev withHeld (p : Pca) (pages : List Nat) : Pca :=
  { p with
    slots := tabulate (fun i => slotHeld pages p.slots[i])
    queue := p.queue.map (entryHeld pages) ++ (pages.filter (nowhere p)).map (fun n => { page := n, waiters := [.hold] }) }

/-- A page in a slot stands in no other and in no queue entry. -/
structure OneSlot (p : Pca) : Prop where
  slots : ∀ i j : Fin 16, p.slots[i].state ≠ .empty → p.slots[j].state ≠ .empty → p.slots[i].page = p.slots[j].page → i = j
  queue : ∀ e ∈ p.queue, ∀ i : Fin 16, p.slots[i].state ≠ .empty → p.slots[i].page ≠ e.page

theorem slotOf_some {p : Pca} {n : Nat} {i : Fin 16} (h : p.slotOf n = some i) : p.slots[i].state ≠ .empty ∧ p.slots[i].page = n := by
  have := List.find?_some h
  simpa using this

theorem slotOf_none {p : Pca} {n : Nat} (h : p.slotOf n = none) (i : Fin 16) : p.slots[i].state = .empty ∨ p.slots[i].page ≠ n := by
  have hi : i ∈ indices 16 := List.mem_ofFn.mpr ⟨i, rfl⟩
  have := List.find?_eq_none.mp h i hi
  by_cases e : p.slots[i].state = .empty
  · exact Or.inl e
  · refine Or.inr (fun x => this ?_)
    rw [Bool.and_eq_true]
    exact ⟨bne_iff_ne.mpr e, beq_iff_eq.mpr x⟩

theorem slotHeld_same (pages : List Nat) (c : CacheSlot) :
    (slotHeld pages c).page = c.page ∧ (slotHeld pages c).state = c.state := by
  unfold slotHeld
  split
  · split <;> exact ⟨rfl, rfl⟩
  · exact ⟨rfl, rfl⟩

/-- One page more changes only a slot that holds or fetches it. -/
theorem slotHeld_append (pages : List Nat) (n : Nat) (c : CacheSlot) (h : c.state = .empty ∨ c.page ≠ n) :
    slotHeld (pages ++ [n]) c = slotHeld pages c := by
  unfold slotHeld
  rcases h with h | h
  · simp only [h, ite_self]
  · simp only [List.mem_append, List.mem_singleton, h, or_false]

theorem entryHeld_append (pages : List Nat) (n : Nat) (e : QueueEntry) (h : e.page ≠ n) :
    entryHeld (pages ++ [n]) e = entryHeld pages e := by
  unfold entryHeld
  simp only [List.mem_append, List.mem_singleton, h, or_false]

/-- A page that a slot holds or fetches stands somewhere. -/
theorem nowhere_slot {p : Pca} {n : Nat} (i : Fin 16) (h : p.slots[i].state ≠ .empty) (hp : p.slots[i].page = n) : nowhere p n = false := by
  have hi : i ∈ indices 16 := List.mem_ofFn.mpr ⟨i, rfl⟩
  rw [Bool.and_eq_false_iff]
  exact Or.inl (List.all_eq_false.mpr ⟨i, hi, by rw [hp]; simpa using h⟩)

theorem withHeld_slotOf (p : Pca) (pages : List Nat) (n : Nat) : (withHeld p pages).slotOf n = p.slotOf n :=
  slotOf_congr p _ (fun i => by simp only [tabulate_get]; exact slotHeld_same pages _) n

/-- One more page held, in a slot: the slot alone changes. -/
theorem withHeld_slot {p : Pca} (hp : OneSlot p) (pages : List Nat) (n : Nat) (i : Fin 16) (hne : p.slots[i].state ≠ .empty)
    (hpg : p.slots[i].page = n) :
    withHeld p (pages ++ [n]) = (withHeld p pages).setSlot i (slotHeld (pages ++ [n]) p.slots[i]) := by
  have hs : tabulate (fun j : Fin 16 => slotHeld (pages ++ [n]) p.slots[j])
      = setAt (tabulate (fun j : Fin 16 => slotHeld pages p.slots[j])) i (slotHeld (pages ++ [n]) p.slots[i]) := by
    apply Vector.ext
    intro k hk
    rw [tabulate_getElem]
    by_cases e : i = ⟨k, hk⟩
    · subst e; exact (setAt_same _ _ _).symm
    · refine Eq.trans ?_ (setAt_other _ i ⟨k, hk⟩ _ e).symm
      rw [tabulate_get]
      refine slotHeld_append pages n _ ?_
      by_cases x : p.slots[(⟨k, hk⟩ : Fin 16)].state = .empty
      · exact Or.inl x
      · exact Or.inr (fun y => e (hp.slots i _ hne x (hpg.trans y.symm)))
  have hq : p.queue.map (entryHeld (pages ++ [n])) = p.queue.map (entryHeld pages) :=
    List.map_congr_left (fun e he => entryHeld_append pages n e (fun x => hp.queue e he i hne (hpg.trans x.symm)))
  have hf : (pages ++ [n]).filter (nowhere p) = pages.filter (nowhere p) := by
    rw [List.filter_append, List.filter_singleton, nowhere_slot i hne hpg]
    exact List.append_nil _
  unfold withHeld Pca.setSlot
  rw [hs, hq, hf]

/-- One more page held that stands in no slot: the queue alone changes, by the entry that marks the page. -/
theorem withHeld_queue {p : Pca} (pages : List Nat) (n : Nat) (hn : n ∉ pages) (h : p.slotOf n = none) :
    (withHeld p pages).await n .hold = withHeld p (pages ++ [n]) := by
  have hs : tabulate (fun j : Fin 16 => slotHeld (pages ++ [n]) p.slots[j]) = tabulate (fun j : Fin 16 => slotHeld pages p.slots[j]) :=
    congrArg tabulate (funext fun j => slotHeld_append pages n _ (slotOf_none h j))
  have hslots : (indices 16).all (fun i => p.slots[i].state == .empty || p.slots[i].page != n) = true :=
    List.all_eq_true.mpr (fun i _ => by
      rcases slotOf_none h i with x | x
      · rw [x]; rfl
      · rw [bne_iff_ne.mpr x, Bool.or_true])
  have page : ∀ e : QueueEntry, (entryHeld pages e).page = e.page := fun e => by unfold entryHeld; split <;> rfl
  have new : ∀ e ∈ (pages.filter (nowhere p)).map (fun m => ({ page := m, waiters := [.hold] } : QueueEntry)), e.page ≠ n := by
    intro e he x
    obtain ⟨m, hm, rfl⟩ := List.mem_map.mp he
    exact hn (x ▸ (List.mem_filter.mp hm).1)
  unfold Pca.await
  rw [withHeld_slotOf, h]
  dsimp only
  by_cases q : p.queue.any (fun e => e.page == n) = true
  · have some : (p.queue.map (entryHeld pages) ++ (pages.filter (nowhere p)).map (fun m => ({ page := m, waiters := [.hold] } : QueueEntry))).any
        (fun e => e.page == n) = true := by
      rw [List.any_append, List.any_map, Bool.or_eq_true]
      exact Or.inl (by simpa only [Function.comp_def, page] using q)
    have none : nowhere p n = false := by
      rw [Bool.and_eq_false_iff]
      obtain ⟨e, he, x⟩ := List.any_eq_true.mp q
      exact Or.inr (List.all_eq_false.mpr ⟨e, he, by simp [beq_iff_eq.mp x]⟩)
    rw [if_pos some, withHeld, hs, List.map_append, List.filter_append, List.filter_singleton, none]
    congr 1
    rw [List.map_map]
    refine congr (congrArg _ (List.map_congr_left fun e _ => ?_)) ?_
    · rw [Function.comp_apply, page]
      by_cases x : e.page = n
      · rw [if_pos x]
        simp only [joinWaiter_hold, entryHeld, x, hn, List.mem_append, List.mem_singleton, or_true, if_true, if_false]
      · rw [if_neg x, entryHeld_append pages n e x]
    · rw [cond_false, List.append_nil]
      conv_rhs => rw [← List.map_id ((pages.filter (nowhere p)).map _)]
      exact List.map_congr_left (fun e he => if_neg (new e he))
  · have old : ∀ e ∈ p.queue, e.page ≠ n := fun e he x => q (List.any_eq_true.mpr ⟨e, he, beq_iff_eq.mpr x⟩)
    have none : ¬ (p.queue.map (entryHeld pages) ++ (pages.filter (nowhere p)).map (fun m => ({ page := m, waiters := [.hold] } : QueueEntry))).any
        (fun e => e.page == n) = true := by
      intro hany
      obtain ⟨e, he, x⟩ := List.any_eq_true.mp hany
      rcases List.mem_append.mp he with he | he
      · obtain ⟨d, hd, rfl⟩ := List.mem_map.mp he
        exact old d hd ((page d).symm.trans (beq_iff_eq.mp x))
      · exact new e he (beq_iff_eq.mp x)
    have some : nowhere p n = true := by
      rw [Bool.and_eq_true]
      exact ⟨hslots, List.all_eq_true.mpr (fun e he => bne_iff_ne.mpr (old e he))⟩
    rw [if_neg none, withHeld, hs, List.filter_append, List.filter_singleton, some, cond_true, List.map_append, List.append_assoc]
    congr 1
    exact congrArg (· ++ _) (List.map_congr_left fun e he => (entryHeld_append pages n e (old e he)).symm)

/-- A hold request in one piece (R205), for a cache that holds no page twice and a list that names none twice. -/
theorem hold_eq {p : Pca} (hp : OneSlot p) (ph : Phase) (pages : List Nat) (hn : pages.Nodup) :
    p.hold ph pages = Pca.tryFetch { withHeld p pages with holdPhase := some ph, holdPages := pages, faulted := false } := by
  let q : Pca := { p with holdPhase := some ph, holdPages := pages, faulted := false }
  have hq : OneSlot q := ⟨hp.slots, hp.queue⟩
  have all : ∀ ns : List Nat, ns.Nodup → ns.foldl Pca.holdPage q = withHeld q ns := by
    intro ns
    induction ns using List.reverseRecOn with
    | nil =>
      intro _
      have h1 : tabulate (fun i : Fin 16 => slotHeld [] q.slots[i]) = q.slots := by
        apply Vector.ext
        intro k hk
        rw [tabulate_getElem]
        exact if_neg (by simp)
      have h2 : q.queue.map (entryHeld []) = q.queue := by
        conv_rhs => rw [← List.map_id q.queue]
        exact List.map_congr_left (fun e _ => if_neg (by simp))
      rw [withHeld, h1, h2]
      exact congrArg (fun x => { q with queue := x }) (List.append_nil _).symm
    | append_singleton ns n ih =>
      intro hd
      obtain ⟨h1, _, h2⟩ := List.nodup_append.mp hd
      have hnn : n ∉ ns := fun x => h2 n x n (List.mem_singleton.mpr rfl) rfl
      rw [List.foldl_append, ih h1, List.foldl_cons, List.foldl_nil]
      unfold Pca.holdPage Pca.validSlot
      rw [withHeld_slotOf]
      cases h : q.slotOf n with
      | none => exact withHeld_queue ns n hnn h
      | some i =>
        obtain ⟨hne, hpg⟩ := slotOf_some h
        have here : (withHeld q ns).slots[i] = q.slots[i] := by
          simp only [tabulate_get]; exact if_neg (fun x => hnn (hpg ▸ x))
        have me : n ∈ ns ++ [n] := List.mem_append.mpr (Or.inr (List.mem_singleton.mpr rfl))
        rw [withHeld_slot hq ns n i hne hpg, slotHeld, if_pos (hpg ▸ me)]
        cases hst : q.slots[i].state with
        | empty => exact absurd hst hne
        | valid =>
          rw [Option.filter, if_pos (by rw [here, hst]; rfl)]
          simp only [here, hst]
        | filling =>
          rw [Option.filter, if_neg (by rw [here, hst]; decide)]
          dsimp only
          unfold Pca.await
          rw [withHeld_slotOf, h]
          simp only [here, hst, joinWaiter_hold]
  exact congrArg Pca.tryFetch (all pages hn)

end Sys2Proof.Machine
end

