-- ==== Sys2Proof/Laws/Chains.lean ====
section
/-! SUPPORT. The ends of chains in one piece: the state after each, as the statements spell it. -/

namespace Sys2Proof.Machine

/-! ### Face words and the cache written one after the other -/

theorem setAt_setAt {α : Type} {n : Nat} (v : Vector α n) (i : Fin n) (x y : α) : setAt (setAt v i x) i y = setAt v i y := by
  simp [setAt]

theorem setAt_self {α : Type} {n : Nat} (v : Vector α n) (i : Fin n) : setAt v i v[i] = v := by
  simp [setAt]

theorem setWord_setWord (s : State) (f : FaceIx) (v w : FaceWord) : (s.setWord f v).setWord f w = s.setWord f w := by
  simp only [State.setWord, setAt_setAt]

theorem setWord_self (s : State) (f : FaceIx) : s.setWord f s.fsc.words[f] = s := by
  simp only [State.setWord, setAt_self]

theorem setWord_word (s : State) (f : FaceIx) (w : FaceWord) : (s.setWord f w).fsc.words[f] = w := setAt_same _ _ _

theorem setPca_setWord (s : State) (f : FaceIx) (w : FaceWord) (p : Pca) : (s.setPca p).setWord f w = (s.setWord f w).setPca p := rfl

theorem setPca_setPca (s : State) (p q : Pca) : (s.setPca p).setPca q = s.setPca q := rfl

/-! ### The pieces of an end -/

/-- Giving up a chain (R175 step 1, R179 step 1). -/
theorem clearChain_eq (s : State) (f : FaceIx) : s.clearChain f =
    (s.setWord f { s.fsc.words[f] with active := none, started := none, waiting := none, prefetch := none, recordAged := false }).setPca
      (chainPca s.fsc.words[f] f s.pca) := by
  unfold State.clearChain State.withdrawRecord State.dropPrefetch
  simp only [State.setPca_fsc, State.setPca_pca, setWord_word, setPca_setWord, setWord_setWord, setPca_setPca]
  unfold chainPca
  cases s.fsc.words[f].started <;> rfl

/-- Handing over a chain's ending, while the node is not in FALLBACK (R179 step 3, R216). -/
theorem giveEnding_eq (s : State) (f : FaceIx) (e : ChainEnding) (h : s.pfl.node ≠ .fallback) : s.giveEnding f e =
    State.setWord { s with hpt := notedEnding s.hpt f e } f
      { s.fsc.words[f] with stacked := stackedEnding s.hpt s.fsc.words[f].stacked e } := by
  have hn : (s.pfl.node != .fallback) = true := by simpa using h
  unfold State.giveEnding State.noticeRoom State.notice Hpt.takeNotice Hpt.hasRoom notedEnding stackedEnding Config.noticeCapacity
  by_cases r : s.hpt.notices.length < 32
  · simp only [hn, r, h, decide_true, Bool.and_self, if_true, if_false]
    exact (setWord_self _ f).symm
  · simp only [hn, r, h, decide_false, Bool.and_false, Bool.false_eq_true, if_false]

/-- A supplied chain's end in one piece (R179). -/
theorem endSupplied_eq (s : State) (f : FaceIx) (records : List SuppliedRecord) (done : Nat) (c : Condition)
    (h : s.pfl.node ≠ .fallback) : s.endSupplied f records done c = suppliedEnded s f records done c := by
  simp only [State.endSupplied, clearChain_eq, State.setPca_fsc, setWord_word, setPca_setWord, setWord_setWord]
  rw [giveEnding_eq]
  case h => exact h
  simp only [State.settle, State.setPca_fsc, State.setPca_hpt, State.setWord_hpt, State.handOff_fsc, setWord_word]
  simp only [suppliedEnded, FaceWord.rest, emptyWordState, State.setWord, State.setPca, State.handOff, setAt_setAt,
    Option.isSome_none, Bool.false_eq_true, if_false]
  rfl

/-- What a generated chain's abnormal end reports of its part (R175 step 2), while the node is not in FALLBACK. -/
theorem drawFault_eq (s : State) (f : FaceIx) (cls : DemandClass) (c : Condition) (p : Part) (h : s.pfl.node ≠ .fallback) :
    s.drawFault f cls c p =
      { s.writePart f p none with hpt := s.hpt.takeNotice (.drawFault f cls c p) } := by
  unfold State.drawFault State.recordNotCompleted State.notice
  exact if_neg h

/-- A pending chain taken over and re-dirty made a demand (R175 steps 4, 5), for a face not OFFLINE. -/
theorem afterGenerated_eq (s : State) (f : FaceIx) (hs : s.fsc.words[f].state ≠ .offline) (ha : s.fsc.words[f].active = none)
    (hw : s.fsc.words[f].waiting = none) (hr : s.fsc.words[f].recordAged = false) : ((s.activatePending f).followUp f).settle f =
      let w := s.fsc.words[f]
      let n := s.fsc.seqCount
      let v : FaceWord := { w with
        active := w.pending.map (fun rs => { body := .supplied rs 0 false, index := 0, seq := n }), pending := none, redirty := false
        demand := w.redirty || w.demand
        demandSeq := if w.redirty then (if w.pending.isSome then n + 1 else n) else w.demandSeq
        state := emptyWordState w (s.onString f) w.pending.isSome }
      { s with fsc := { s.fsc with
          words := setAt s.fsc.words f v
          seqCount := n + (if w.pending.isSome then 1 else 0) + (if w.redirty then 1 else 0) } } := by
  cases hp : s.fsc.words[f].pending <;> cases hd : s.fsc.words[f].redirty <;>
    cases hx : s.fsc.string.any (fun x => x.face == f) <;>
    simp only [State.activatePending, State.activate, State.followUp, State.settle, hp, hd, State.issue, State.setWord, setAt_same,
      setAt_setAt, FaceWord.rest, emptyWordState, hs, ha, hw, hr, if_true, if_false, Bool.false_eq_true, Bool.false_or,
      Bool.true_or, Option.isSome_none, Option.isSome_some, Option.map_none, Option.map_some, State.onString, hx, reduceCtorEq, BitVec.ofNat_eq_ofNat, BitVec.add_zero]

/-- A generated chain's end in one piece (R175). -/
theorem endGenerated_eq (s : State) (f : FaceIx) (cls : DemandClass) (c : Condition) (part : Option Part) (h : s.pfl.node ≠ .fallback) :
    s.endGenerated f cls c part = generatedEnded s f cls c part := by
  have told : ∀ u : State, u.pfl.node ≠ .fallback → part.elim u (u.drawFault f cls c) =
      { u with
        fcu := match part with
          | some p =>
            let absent := { u.fcu.faces[f] with snapshot := setAt u.fcu.faces[f].snapshot (partIx p) none }
            { u.fcu with faces := setAt u.fcu.faces f absent }
          | none => u.fcu
        hpt := match part with
          | some p => u.hpt.takeNotice (.drawFault f cls c p)
          | none => u.hpt } := by
    intro u hu
    cases part with
    | none => rfl
    | some p => exact drawFault_eq u f cls c p hu
  have left : (s.clearChain f).fsc.words[f]
      = { s.fsc.words[f] with active := none, started := none, waiting := none, prefetch := none, recordAged := false } := by
    rw [clearChain_eq]; exact setWord_word s f _
  unfold State.endGenerated
  dsimp only
  rw [told]
  case a => rw [clearChain_eq]; exact h
  by_cases ho : s.fsc.words[f].state = .offline
  · rw [if_pos ((congrArg FaceWord.state left).trans ho), clearChain_eq]
    simp only [generatedEnded, emptyWordState, ho, State.setWord, State.setPca, bne_self_eq_false, Bool.false_eq_true, if_false,
      Bool.false_and, Bool.not_false, Bool.true_and, Bool.false_or, Option.map_none, Option.isSome_none, if_true,
      BitVec.ofNat_eq_ofNat, BitVec.add_zero]
    try rfl
  · rw [if_neg (fun e => ho ((congrArg FaceWord.state left).symm.trans e)), afterGenerated_eq]
    case hs => exact fun e => ho ((congrArg FaceWord.state left).symm.trans e)
    case ha => exact congrArg FaceWord.active left
    case hw => exact congrArg FaceWord.waiting left
    case hr => exact congrArg FaceWord.recordAged left
    rw [clearChain_eq]
    have hb : (s.fsc.words[f].state != .offline) = true := by simpa using ho
    simp only [generatedEnded, emptyWordState, ho, hb, State.setWord, State.setPca, setAt_same, setAt_setAt, if_true, if_false,
      Bool.true_and, Bool.not_true, Bool.false_and]
    rfl

/-- A chain's end otherwise than COMPLETE in one piece (R175, R179). -/
theorem endChain_eq (s : State) (f : FaceIx) (c : Condition) (h : s.pfl.node ≠ .fallback) : s.endChain f c = chainEnded s f c := by
  unfold State.endChain chainEnded
  match s.fsc.words[f].active with
  | none => rfl
  | some { body := .generated cls parts, index := i, seq := n } => exact endGenerated_eq s f cls c _ h
  | some { body := .supplied records done halt, index := i, seq := n } => exact endSupplied_eq s f records done c h

/-! ### What no end of a chain moves -/

/-- A chain's end leaves the node state and the profile. -/
theorem chainEnded_pfl (s : State) (f : FaceIx) (c : Condition) : (chainEnded s f c).pfl = s.pfl := by
  unfold chainEnded
  match s.fsc.words[f].active with
  | none => rfl
  | some { body := .generated _ _, .. } => rfl
  | some { body := .supplied _ _ _, .. } => rfl

/-- A pending chain given up (R179), while the node is not in FALLBACK. -/
theorem discardPending_eq (s : State) (f : FaceIx) (c : Condition) (h : s.pfl.node ≠ .fallback) : s.discardPending f c =
    let w := s.fsc.words[f]
    let ending : List SuppliedRecord → ChainEnding := fun rs => { condition := c, done := 0, total := rs.length }
    { s with
      fsc := { s.fsc with words := setAt s.fsc.words f { w with
        pending := none
        prefetch := if w.pending.isSome then none else w.prefetch
        stacked := match w.pending with
          | some rs => stackedEnding s.hpt w.stacked (ending rs)
          | none => w.stacked } }
      pca := if w.pending.isSome then s.pca.withdrawPrefetch f else s.pca
      hpt := match w.pending with
        | some rs => notedEnding s.hpt f (ending rs)
        | none => s.hpt } := by
  unfold State.discardPending
  cases hp : s.fsc.words[f].pending with
  | none =>
    have e : { s.fsc.words[f] with pending := none } = s.fsc.words[f] := by rw [← hp]
    simp only [hp]
    exact (setWord_self s f).symm.trans (congrArg (s.setWord f) e.symm)
  | some rs =>
    dsimp only
    rw [giveEnding_eq]
    case h => exact h
    simp only [State.dropPrefetch, hp, State.setWord, State.setPca, setAt_same, setAt_setAt, Option.isSome_some, if_true]

/-- Going OFFLINE in one piece (R184). -/
theorem goOffline_eq (s : State) (f : FaceIx) (h : s.pfl.node ≠ .fallback) : s.goOffline f = wentOffline s f := by
  unfold State.goOffline wentOffline
  dsimp only
  rw [endChain_eq]
  case h => exact h
  rw [show ∀ w, s.setWord f w = withFaceWord s f w from fun _ => rfl]
  have hu : (chainEnded (withFaceWord s f { s.fsc.words[f] with state := .offline, poll := .wait10s }) f .faceSilent).pfl.node ≠ .fallback := by
    rw [chainEnded_pfl]; exact h
  generalize chainEnded (withFaceWord s f { s.fsc.words[f] with state := .offline, poll := .wait10s }) f .faceSilent = u at hu
  rw [discardPending_eq]
  case h => exact hu
  unfold State.notice
  rw [if_neg]
  case hnc => exact hu
  simp only [State.withdrawRecord, State.dropPrefetch, State.setPca_fsc, State.setPca_pca, setWord_word, setPca_setWord, setWord_setWord,
    setPca_setPca]
  unfold chainPca
  cases u.fsc.words[f].started <;> cases u.fsc.words[f].pending <;>
    simp only [State.setWord, State.setPca, setAt_setAt, withdrawPrefetch_idem, Option.isSome_none, Option.isSome_some, if_true,
      Bool.false_eq_true, if_false] <;> rfl

/-! ### Ends of exchanges and of fetches -/

/-- The end of a record's exchange, in the statements' terms (R184, R185). -/
theorem releaseRecord_eq (s : State) (r : DrawRecord) : s.releaseRecord r = recordOff s r := rfl

/-- A snapshot with header and lines absent (R160). -/
theorem forgetPicture_eq (v : Vector (Option PartValue) 6) : forgetPicture v = #v[none, none, none, none, none, v[5]] := by
  apply Vector.ext
  intro i hi
  match i, hi with
  | 0, _ | 1, _ | 2, _ | 3, _ | 4, _ | 5, _ => simp [forgetPicture]

theorem forgetFacePicture_eq (s : State) (f : FaceIx) : s.forgetFacePicture f = withoutPicture s f := by
  unfold State.forgetFacePicture withoutPicture State.setFace
  rw [forgetPicture_eq]

/-- What a record that did not complete leaves of the snapshot (R184). -/
theorem tellFailedPicture_eq (s : State) (f : FaceIx) (r : DrawRecord) : s.tellFailedPicture f r = pictureLost s f r := by
  unfold State.tellFailedPicture pictureLost
  cases r.content with
  | part p v => rfl
  | picture n => exact forgetFacePicture_eq s f

/-- What a waiter of a page fault is told (R183, R204, R206). -/
theorem tellFault_eq (s : State) (w : Waiter) (h : s.pfl.node ≠ .fallback) : s.tellFault w = waiterTold s w := by
  cases w with
  | face f => exact endChain_eq _ f _ h
  | hold => rfl
  | prefetch f => rfl

end Sys2Proof.Machine
end

