-- ==== Sys2Proof/Laws/Legs.lean ====
section
/-! SUPPORT. The Leg Monitor's shared operations: what changing one leg, and going over all legs, leaves in the leg records and hands over. -/

namespace Sys2Proof.Machine

/-- Two functions that agree on a list keep the same of it. -/
theorem filterMap_same {α β : Type} {f g : α → Option β} {xs : List α} (h : ∀ x ∈ xs, f x = g x) : xs.filterMap f = xs.filterMap g := by
  induction xs with
  | nil => rfl
  | cons x xs ih =>
    rw [List.filterMap_cons, List.filterMap_cons, h x (List.mem_cons_self ..), ih fun y hy => h y (List.mem_cons_of_mem _ hy)]

theorem report_handoffs (s : State) (r : Option LegReport) : (s.report r).handoffs = s.handoffs ++ reportEvents r := rfl

theorem report_lgm (s : State) (r : Option LegReport) : (s.report r).lgm = s.lgm := rfl

theorem changeLegTo_lgm (s : State) (l : LegIx) (r : LegRecord) :
    (s.changeLegTo l r).lgm = { s.lgm with legs := setAt s.lgm.legs l r } := by
  simp only [State.changeLegTo, report_lgm]; rfl

theorem changeLegTo_handoffs (s : State) (l : LegIx) (r : LegRecord) :
    (s.changeLegTo l r).handoffs = s.handoffs ++ reportEvents (legChange l s.lgm.legs[l] r) := by
  simp only [State.changeLegTo, report_handoffs]; rfl

theorem changeLegTo_frame (s : State) (l : LegIx) (r : LegRecord) : Frame.only [.lgm, .handoffs] s (s.changeLegTo l r) :=
  (changeLegTo_within s l r).1

/-- Evaluating a record reads the muster record alone. -/
theorem evaluated_congr {s t : State} (h : t.muc = s.muc) (r : LegRecord) : t.evaluated r = s.evaluated r := by
  simp only [State.evaluated, h]

/-- A record that does not move makes no report (R46). -/
theorem legChange_self (l : LegIx) (r : LegRecord) : legChange l r r = none := by simp [legChange]

/-- Going over a list of different legs, each taking a new value that the leg record and the muster record give. -/
theorem foldl_changeLegs (g : State → LegIx → State) (new : State → LegRecord → LegRecord)
    (hg : ∀ s l, g s l = s ∧ new s s.lgm.legs[l] = s.lgm.legs[l] ∨ g s l = s.changeLegTo l (new s s.lgm.legs[l]))
    (hnew : ∀ s t : State, t.muc = s.muc → t.pfl = s.pfl → ∀ r, new t r = new s r)
    (ls : List LegIx) (hls : ls.Nodup) (s : State) :
    (∀ l : LegIx, (ls.foldl g s).lgm.legs[l] = if l ∈ ls then new s s.lgm.legs[l] else s.lgm.legs[l])
    ∧ (ls.foldl g s).lgm.condSeq = s.lgm.condSeq ∧ (ls.foldl g s).lgm.doors = s.lgm.doors
    ∧ (ls.foldl g s).handoffs
        = s.handoffs ++ ls.filterMap (fun l => (legChange l s.lgm.legs[l] (new s s.lgm.legs[l])).map Instr.legReport)
    ∧ Frame.only [.lgm, .handoffs] s (ls.foldl g s) := by
  induction ls generalizing s with
  | nil => exact ⟨fun l => by simp, rfl, rfl, by simp, fun b _ => Same.refl s b⟩
  | cons a as ih =>
    obtain ⟨ha, has⟩ := List.nodup_cons.1 hls
    rcases hg s a with ⟨h1, h2⟩ | h1
    · obtain ⟨k1, k2, k3, k4, k5⟩ := ih has s
      simp only [List.foldl_cons, h1]
      refine ⟨fun l => ?_, k2, k3, ?_, k5⟩
      · rw [k1 l]
        by_cases hl : l = a
        · subst hl; rw [if_neg ha, if_pos (List.mem_cons_self ..), h2]
        · simp [hl]
      · rw [k4, List.filterMap_cons, h2, legChange_self]; rfl
    · have hm : (s.changeLegTo a (new s s.lgm.legs[a])).muc = s.muc := changeLegTo_frame s a _ .muc (by simp)
      have hp : (s.changeLegTo a (new s s.lgm.legs[a])).pfl = s.pfl := changeLegTo_frame s a _ .pfl (by simp)
      have hlg := changeLegTo_lgm s a (new s s.lgm.legs[a])
      have hh := changeLegTo_handoffs s a (new s s.lgm.legs[a])
      obtain ⟨k1, k2, k3, k4, k5⟩ := ih has (s.changeLegTo a (new s s.lgm.legs[a]))
      have hold : ∀ l, l ≠ a → (s.changeLegTo a (new s s.lgm.legs[a])).lgm.legs[l] = s.lgm.legs[l] := fun l hl => by
        rw [hlg]; exact setAt_other _ _ _ _ (Ne.symm hl)
      simp only [List.foldl_cons, h1]
      refine ⟨fun l => ?_, ?_, ?_, ?_, fun b hb => Same.trans (changeLegTo_frame s a _ b hb) (k5 b hb)⟩
      · rw [k1 l]
        by_cases hl : l = a
        · subst hl
          simp only [ha, if_false, List.mem_cons, true_or, if_true]
          rw [hlg]; exact setAt_same _ _ _
        · rw [hold l hl, hnew _ _ hm hp]; simp [hl]
      · rw [k2, hlg]
      · rw [k3, hlg]
      · rw [k4, hh, List.append_assoc]
        congr 1
        have : as.filterMap (fun l => (legChange l (s.changeLegTo a (new s s.lgm.legs[a])).lgm.legs[l]
              (new (s.changeLegTo a (new s s.lgm.legs[a])) (s.changeLegTo a (new s s.lgm.legs[a])).lgm.legs[l])).map Instr.legReport)
            = as.filterMap (fun l => (legChange l s.lgm.legs[l] (new s s.lgm.legs[l])).map Instr.legReport) := by
          refine filterMap_same fun l hl => ?_
          have : l ≠ a := fun e => ha (e ▸ hl)
          rw [hold l this, hnew _ _ hm hp]
        rw [this, List.filterMap_cons]
        cases hc : legChange a s.lgm.legs[a] (new s s.lgm.legs[a]) <;> simp [reportEvents]

end Sys2Proof.Machine
end

