-- ==== Sys2Proof/Laws/Faces.lean ====
section
/-! SUPPORT. The Face Content Unit's recomputes: what going over the faces hands over. -/

namespace Sys2Proof.Machine

/-- A recompute of one face hands over its demand, if it has one (R162). -/
theorem recomputeFace_handOffs (s : State) (es : List Instr) (which : FaceConfig → Bool) (f : FaceIx) :
    (if (s.fcu.faces[f].config).elim false which then (s.handOffs es).recomputeFace f else s.handOffs es)
      = s.handOffs (es ++ (faceDemand s (fun _ c => which c) f).toList) := by
  unfold faceDemand
  cases hc : s.fcu.faces[f].config with
  | none => simp
  | some c =>
    have hd : differingParts (s.handOffs es) f = differingParts s f := rfl
    cases hw : which c with
    | false => simp [hw]
    | true =>
      cases he : (differingParts s f).isEmpty with
      | true =>
        have h1 : (s.handOffs es).recomputeFace f = s.handOffs es := by unfold State.recomputeFace; rw [hd, he]; rfl
        simp [hw, h1]
      | false =>
        have h1 : (s.handOffs es).recomputeFace f = (s.handOffs es).handOff (.demand f (demandClass s.muc.phase)) := by
          unfold State.recomputeFace; rw [hd, he]; rfl
        simp only [hw, h1, Option.elim, if_true]
        simp [State.handOff, State.handOffs, demandClass]

/-- Going over some faces hands over the demands of those of them that satisfy a test. -/
theorem foldl_recomputeFace (s : State) (which : FaceConfig → Bool) (xs : List FaceIx) (es : List Instr) :
    xs.foldl (fun s f => if (s.fcu.faces[f].config).elim false which then s.recomputeFace f else s) (s.handOffs es)
      = s.handOffs (es ++ xs.filterMap (faceDemand s (fun _ c => which c))) := by
  induction xs generalizing es with
  | nil => simp
  | cons x xs ih =>
    rw [List.foldl_cons]
    have h := recomputeFace_handOffs s es which x
    have h' : (if ((s.handOffs es).fcu.faces[x].config).elim false which then (s.handOffs es).recomputeFace x else s.handOffs es)
        = s.handOffs (es ++ (faceDemand s (fun _ c => which c) x).toList) := h
    rw [h', ih, List.filterMap_cons]
    cases faceDemand s (fun _ c => which c) x <;> simp

/-- Going over the faces that satisfy a test hands over the demands of those with a part in view that differs (R162). -/
theorem recomputeFaces_eq (s : State) (which : FaceConfig → Bool) :
    s.recomputeFaces which = s.handOffs (demandsFor s (fun _ c => which c)) := by
  have h := foldl_recomputeFace s which (indices 32) []
  have h0 : s.handOffs [] = s := by simp [State.handOffs]
  rw [h0, List.nil_append] at h
  exact h

/-- Of a list without repeats, the members that are one face. -/
theorem filterMap_one (s : State) (f : FaceIx) (xs : List FaceIx) (hx : xs.Nodup) :
    xs.filterMap (faceDemand s (fun g _ => g == f)) = if f ∈ xs then (faceDemand s (fun _ _ => true) f).toList else [] := by
  have hf : faceDemand s (fun g _ => g == f) f = faceDemand s (fun _ _ => true) f := by
    unfold faceDemand; cases s.fcu.faces[f].config <;> simp
  have hz : ∀ g, g ≠ f → faceDemand s (fun g _ => g == f) g = none := by
    intro g hg; unfold faceDemand; cases s.fcu.faces[g].config <;> simp [hg]
  induction xs with
  | nil => rfl
  | cons x xs ih =>
    obtain ⟨h1, h2⟩ := List.nodup_cons.1 hx
    rw [List.filterMap_cons]
    by_cases hxf : x = f
    · subst hxf
      rw [hf, ih h2, if_neg h1, if_pos (List.mem_cons_self ..)]
      cases faceDemand s (fun _ _ => true) x <;> simp
    · rw [hz x hxf, ih h2]
      simp [Ne.symm hxf]

/-- Recomputing one face hands over its demand, if a part in view differs (R162). -/
theorem recomputeFace_eq (s : State) (f : FaceIx) : s.recomputeFace f = s.handOffs (demandsFor s (fun g _ => g == f)) := by
  unfold demandsFor
  rw [filterMap_one s f (indices 32) (by decide), if_pos (mem_indices f)]
  unfold faceDemand State.recomputeFace
  cases hc : s.fcu.faces[f].config with
  | none =>
    have he : (differingParts s f).isEmpty = true := by unfold differingParts; rw [hc]; rfl
    rw [he]; simp [State.handOffs]
  | some c =>
    cases he : (differingParts s f).isEmpty with
    | true => simp [State.handOffs]
    | false => simp [State.handOff, State.handOffs, demandClass]

end Sys2Proof.Machine
end

