-- ==== Sys2Proof/Laws/HostPort.lean ====
section
/-! SUPPORT. What the host's commands can touch, and the shape of a transaction: the checks decide, or the owner does (R209, R210). -/

namespace Sys2Proof.Machine

/-- Everything a host command can touch: all but the profile's own read state is possible, since the transaction it closes can
carry a RESTART; never the queue of commands. -/
abbrev hostBlocks : List Block :=
  [.rtu, .lgm, .adu, .dlc, .muc, .fcu, .fsc, .pca, .hpt, .pfl, .handoffs, .sck, .plu, .freeCount]

theorem respond_within (s : State) (r : Response) : Within [.hpt] s (s.respond r) :=
  Within.ofEq (fun b hb => by cases b <;> first | rfl | exact absurd (by simp) hb) rfl

theorem applyCut_notices (h : Hpt) (c : CutAction) : (h.applyCut c).notices = h.notices := by cases c <;> rfl

theorem release_notices (h : Hpt) (n : Nat) : (h.release n).notices = h.notices := by
  unfold Hpt.release
  split
  · rfl
  · split
    · exact applyCut_notices h _
    · rfl

theorem carryOutRestart_within (s : State) : Within hostBlocks s s.carryOutRestart :=
  ⟨fun b hb => by cases b <;> first | rfl | exact absurd (by simp) hb,
   fun _ => by simp [State.carryOutRestart, Hpt.initial, noticesOk, Config.noticeCapacity]⟩

theorem releaseSelect_within (s : State) (n : Nat) : Within hostBlocks s (s.releaseSelect n) := by
  have h : Within hostBlocks s { s with hpt := s.hpt.release n } :=
    Within.ofEq (fun b hb => by cases b <;> first | rfl | exact absurd (by simp) hb) (release_notices s.hpt n)
  unfold State.releaseSelect
  exact Within.ite (h.trans (carryOutRestart_within _)) h

theorem closeTransaction_within (s : State) : Within hostBlocks s s.closeTransaction := by
  unfold State.closeTransaction
  split
  · exact releaseSelect_within _ _
  · exact Within.refl _ s

/-- With no transaction open, a command begins at once. -/
theorem closeTransaction_none (s : State) (h : s.hpt.transaction = none) : s.closeTransaction = s := by
  unfold State.closeTransaction
  simp [h]

/-- Every host command stays within what its owner may touch (R209, R210). -/
theorem hostCommand_within (s : State) (a b : Bool) (act : State → State × Response)
    (h : ∀ t, Within hostBlocks t (act t).1) : Within hostBlocks s (s.hostCommand a b act) := by
  unfold State.hostCommand
  dsimp only
  split
  · exact (closeTransaction_within s).trans ((respond_within _ _).mono (by simp))
  · exact ((closeTransaction_within s).trans (h _)).trans ((respond_within _ _).mono (by simp))

/-- A host command with no transaction open and past the checks is the owner's answer (R210). -/
theorem hostCommand_pass (s : State) (a b : Bool) (act : State → State × Response) (h : s.hpt.transaction = none)
    (g : s.gate a b = none) : s.hostCommand a b act = (act s).1.respond (act s).2 := by
  unfold State.hostCommand
  simp [closeTransaction_none s h, g]

/-- A host command that a check decides gets that check's answer and no effect (R210). -/
theorem hostCommand_stop (s : State) (a b : Bool) (act : State → State × Response) (r : Response)
    (h : s.hpt.transaction = none) (g : s.gate a b = some r) : s.hostCommand a b act = s.respond r := by
  unfold State.hostCommand
  simp [closeTransaction_none s h, g]

/-- In RUNNING, checks 2 to 4 leave the length alone to decide (R210). -/
theorem gate_running (s : State) (a b : Bool) (h : s.pfl.node = .running) :
    s.gate a b = if b then none else some invalid := by
  unfold State.gate
  simp [h]

theorem readWord_within (s : State) (f : FaceIx) : StringWithin s (s.readWord f).1 := setWord_within _ _ _

theorem startChain_within (s : State) (f : FaceIx) (r : List SuppliedRecord) : StringWithin s (s.startChain f r).1 := by
  unfold State.startChain
  dsimp only
  repeat' split
  all_goals first
    | exact Within.refl _ s
    | exact giveEnding_within _ _ _
    | exact setWord_within _ _ _
    | exact activate_within _ _ _

theorem haltFace_within (s : State) (f : FaceIx) : StringWithin s (s.haltFace f).1 := by
  unfold State.haltFace
  dsimp only
  repeat' split
  all_goals first
    | exact Within.refl _ s
    | exact discardPending_within _ _ _
    | exact setWord_within _ _ _
    | exact endChain_within _ _ _

theorem releaseHold_within (s : State) (f : FaceIx) : StringWithin s (s.releaseHold f) :=
  (setWord_within _ _ _).trans ((recomputeFace_within _ _).mono (by simp))

theorem setLanguage_within (s : State) (f : FaceIx) (n : Nat) : StringWithin s (s.setLanguage f n).1 := by
  unfold State.setLanguage
  repeat' split
  all_goals first
    | exact Within.refl _ s
    | exact ((setFace_within _ _ _).mono (by simp)).trans ((recomputeFace_within _ _).mono (by simp))

theorem loadItem_within (s : State) (o : Offer) (t m : Word) : Within [.plu, .handoffs, .hpt, .dlc] s (s.loadItem o t m).1 :=
  hostOffer_within s o t m

theorem withdrawItem_within (s : State) (n : Nat) (t m : Word) :
    Within [.plu, .handoffs, .hpt, .dlc] s (s.withdrawItem n t m).1 := by
  unfold State.withdrawItem
  repeat' split
  all_goals first
    | exact Within.refl _ s
    | exact loadItem_within _ _ _ _

theorem raisePhase_within (s : State) (c : Byte) (z : List Byte) :
    Within [.muc, .hpt, .handoffs, .dlc] s (s.raisePhase c z).1 := by
  unfold State.raisePhase
  repeat' split
  all_goals first
    | exact Within.refl _ s
    | exact raise_within _ _ _

theorem setCondition_within (s : State) (p : List Byte) : Within [.lgm, .dlc, .hpt, .handoffs] s (s.setCondition p).1 := by
  unfold State.setCondition
  dsimp only
  split
  · dsimp only
    have o : ∀ (t : State) (b : FloodBody), Within [.lgm, .dlc, .hpt, .handoffs] t (t.originate b) :=
      fun t b => (originate_within t b).mono (by simp)
    refine Within.trans ?_ (o _ _)
    exact Within.trans (B := [.lgm, .dlc, .hpt, .handoffs]) ((nextCondSeq_within s).mono (by simp))
      ((applyCondition_within _ _).mono (by simp))
  · exact Within.refl _ s

theorem setClockCommand_within (s : State) (p : List Byte) : Within [.sck, .handoffs, .dlc, .hpt] s (s.setClockCommand p).1 := by
  unfold State.setClockCommand
  dsimp only
  split
  · exact Within.refl _ s
  · exact setClockByHost_within _ _ _ _

end Sys2Proof.Machine
end

