-- ==== Sys2Proof/Tests/Slice0.lean ====
section
/-! SUPPORT. The author's tests: ill-formed commands the check refuses, worked examples of the spec, and for each statement with hypotheses a concrete state that meets them. -/

namespace Sys2Proof.Tests

set_option Elab.async false

open Sys2Proof Sys2Proof.Machine

/-! ### Ill-formed commands -/

theorem test_wf_profileReadEnd : (Instr.profileReadEnd (some (List.replicate 2047 0))).wf = false := by decide +kernel
theorem test_wf_profileFrameNotReady : (Instr.profileFrameNotReady (some (List.replicate 2048 0))).wf = false := by decide +kernel
theorem test_wf_fallbackPageReadEnd : (Instr.fallbackPageReadEnd (some [0x5C])).wf = false := by decide +kernel
theorem test_wf_advertReceipt : (Instr.advertReceipt .da { sender := 1, block := 0, entries := [] }).wf = false := by decide +kernel
theorem test_wf_advertisedCostWrite : (Instr.advertisedCostWrite 0 0 (.finite 60001)).wf = false := by decide +kernel
theorem test_wf_alarmReceipt_hop : (Instr.alarmReceipt .da 16 { epoch := 1, phaseCode := 1, origin := 1, zones := [] }).wf = false := by
  decide +kernel
theorem test_wf_alarmReceipt_zones :
    (Instr.alarmReceipt .da 0 { epoch := 1, phaseCode := 1, origin := 1, zones := List.replicate 9 1 }).wf = false := by decide +kernel
theorem test_wf_minuteEventPlu : (Instr.minuteEventPlu none 368640).wf = false := by decide +kernel
theorem test_wf_minuteEventFcu : (Instr.minuteEventFcu (some 368640) 0).wf = false := by decide +kernel
theorem test_wf_programmeReport_venue : (Instr.programmeReport 64 1 .stored).wf = false := by decide +kernel
theorem test_wf_programmeReport_id : (Instr.programmeReport 0 0 .stored).wf = false := by decide +kernel
theorem test_wf_pollDue_none : (Instr.pollDue []).wf = false := by decide +kernel
theorem test_wf_pollDue_twice : (Instr.pollDue [3, 3]).wf = false := by decide +kernel
theorem test_wf_fetchEndGood : (Instr.fetchEndGood (List.replicate 509 0)).wf = false := by decide +kernel
theorem test_wf_holdRequest : (Instr.holdRequest .quiet).wf = false := by decide +kernel
theorem test_wf_releaseRequest : (Instr.releaseRequest .quiet).wf = false := by decide +kernel
theorem test_wf_unknownCommand_known : (Instr.unknownCommand 0x10 []).wf = false := by decide +kernel
theorem test_wf_unknownCommand_long : (Instr.unknownCommand 0x77 (List.replicate 256 0)).wf = false := by decide +kernel
theorem test_wf_hostCommand_long : (Instr.setClock (List.replicate 256 0)).wf = false := by decide +kernel

/-! ### A small node: two legs, two faces -/

def stair : LegStatic := { port := .da, neighbour := 0x15, farZone := 5, kind := .stairUp, length := 100, doorUsed := true }
def corridor : LegStatic := { port := .db, neighbour := 0x16, farZone := 6, kind := .corridor, length := 240, doorUsed := false }

def sign : FaceConfig :=
  { address := 17, glyphs := Vector.replicate 6 3, kind := .sign [0, 2] (.wayfind [12, 40]) [1] }
def door : FaceConfig := { address := 18, glyphs := Vector.replicate 6 0, kind := .door 1 2000 3 }

def profile : Profile :=
  { Profile.blank with
    nodeId := 10, zone := 0x0B23, hostPresent := true, destBase := 1024, musterBase := 3000, musterLangs := 2, anchors := [(12, 0)]
    legs := setAt (setAt (Vector.replicate 6 none) 0 (some stair)) 1 (some corridor)
    faces := setAt (setAt (Vector.replicate 32 none) 0 (some sign)) 1 (some door) }

/-- RUNNING, the seven load events outstanding. -/
def entered : State :=
  { State.reset with pfl := { Pfl.initial with node := .running, reading := false, profile := profile }, handoffs := entryEvents }

def legUp (f : LegStatic) : LegRecord :=
  { LegRecord.initial with fixed := some f, link := .up, silenceRunning := true, passable := true }

def nodeLegs : Vector LegRecord 6 := setAt (setAt Lgm.initial.legs 0 (legUp stair)) 1 (legUp corridor)
def nodePaces : Vector (Option LegPace) 6 :=
  setAt (setAt Rtu.initial.legs 0 (some { pace := 48, cost := 300 })) 1 (some { pace := 16, cost := 240 })
def nodeFaces : Vector FaceState 32 :=
  setAt (setAt Fcu.initial.faces 0 { FaceState.initial with config := some sign }) 1 { FaceState.initial with config := some door }
def nodeWords : Vector FaceWord 32 :=
  setAt (setAt Fsc.initial.words 0 { FaceWord.initial with address := some 17 }) 1 { FaceWord.initial with address := some 18 }

/-- RUNNING after the loads, in brief: legs 0 and 1 UP with their leg costs, faces 0 and 1 known, the timers running. -/
def node : State :=
  { entered with
    handoffs := []
    lgm := { Lgm.initial with legs := nodeLegs }
    rtu := { Rtu.initial with legs := nodePaces }
    adu := { Adu.initial with tickRunning := true }
    fcu := { faces := nodeFaces, rotationRunning := true }
    fsc := { Fsc.initial with words := nodeWords } }

def withLeg (s : State) (l : LegIx) (r : LegRecord) : State := { s with lgm := { s.lgm with legs := setAt s.lgm.legs l r } }
def withWord (s : State) (f : FaceIx) (w : FaceWord) : State := { s with fsc := { s.fsc with words := setAt s.fsc.words f w } }
def withMuc (s : State) (m : Muc) : State := { s with muc := m }
def withSck (s : State) (c : Sck) : State := { s with sck := c }
def withItems (s : State) (items : List Item) : State := { s with plu := { items := items } }
def withPort (s : State) (p : Port) (lp : LinkPort) : State := { s with dlc := { s.dlc with ports := s.dlc.ports.set p lp } }
def withNode (s : State) (n : NodeState) : State := { s with pfl := { s.pfl with node := n } }
def withHandoff (s : State) (e : Instr) : State := { s with handoffs := s.handoffs ++ [e] }

def nextOf (o : Out) : State :=
  match o with
  | .next t => t
  | _ => State.reset

/-! ### Worked examples of the spec -/

/-- R62: the check of the ASCII digits 1 to 9 of the code with this generator and start. -/
theorem test_crc_digits : crc16 [0x31, 0x32, 0x33, 0x34, 0x35, 0x36, 0x37, 0x38, 0x39] = 0x29B1 := by decide +kernel

/-- R8: rows of the table of leg costs. -/
theorem test_legCosts :
    legCost 1 24 = 2 ∧ legCost 3 20 = 4 ∧ legCost 5 20 = 6 ∧ legCost 7 18 = 8 ∧ legCost 240 80 = 1200 ∧ legCost 1023 140 = 8951 := by
  decide +kernel

/-- R71: rows of the table of zone filters. -/
theorem test_zoneFilter :
    zonePasses 0x0B23 0x0000 0x0000 = true ∧ zonePasses 0x0B23 0x0B00 0xFF00 = true ∧ zonePasses 0x0B23 0x0C00 0xFF00 = false
    ∧ zonePasses 0x0B23 0x0023 0x00FF = true ∧ zonePasses 0x0B23 0x0B22 0xFFFF = false := by decide +kernel

/-- R106: rows of the table of epochs. -/
theorem test_epochs :
    epochNewer 11 10 = true ∧ epochNewer 10 11 = false ∧ epochNewer 0 65535 = true ∧ epochNewer 2 65535 = true
    ∧ epochNewer 32768 0 = false := by decide +kernel

/-- R154: rows of the page numbering examples. -/
theorem test_pages : namePage profile 12 0 = 1216 ∧ namePage profile 12 2 = 1218 ∧ namePage profile 40 2 = 1666 := by decide +kernel

/-- R24: walking minutes round up, and stop at 99. -/
theorem test_walkingMinutes : walkingMinutes 1 = 1 ∧ walkingMinutes 720 = 1 ∧ walkingMinutes 721 = 2 ∧ walkingMinutes 60000 = 84 := by
  simp [walkingMinutes]

/-- R77: the backoff of node 10's first collision of an ALARM and of an ADVERT. -/
theorem test_backoff : backoffSlots 0 10 1 = 3 ∧ backoffSlots 8 10 1 = 11 ∧ backoffSlots 0 10 16 = 6 := by decide +kernel

/-- R17: a lower candidate within the margin does not displace the current best leg; one beyond it does. -/
theorem test_margin :
    let cands : Vector Cost 6 := #v[.finite 100, .finite 90, .unknown, .unreachable, .unknown, .unknown]
    select 20 cands none (.leg 0) = (.leg 0, .finite 100) ∧ select 9 cands none (.leg 0) = (.leg 1, .finite 90)
    ∧ select 20 cands none .none = (.leg 1, .finite 90) ∧ select 20 cands (some 90) .none = (.here, .finite 90) := by decide +kernel

/-- The bytes of an ADVERT frame before its check: sixteen entries of one cost. -/
def advertHead : List Byte := [1, 0, 0x15, 0] ++ (List.replicate 16 [0, 50, 0]).flatten
def advert0 : AdvertFrame := { sender := 0x15, block := 0, entries := List.replicate 16 { cost := 50, via := 0 } }

/-- An ADVERT frame on the line is 54 bytes, and is read as its entries (R61, R62). -/
theorem test_advertBytes :
    advertFrameBytes advert0 = withCheck advertHead ∧ readFrame (withCheck advertHead) = some (.advert advert0) := by
  refine ⟨rfl, ?_⟩
  rw [readFrame_withCheck _ (by decide) (by decide)]
  decide +kernel

/-- A CONDITION frame written out byte by byte is read as its fields (R61). -/
def conditionExample : ConditionBody :=
  { origin := 0x21, seq := 0x0102, end1 := 10, end2 := 0x15, doorClosed := true, smoke := false, crowdValid := true, crowd := 3 }
theorem test_conditionBytes :
    readFrame (withCheck [2, 4, 0x33, 0x21, 0x01, 0x02, 10, 0x15, 0x05, 3])
      = some (.flooded { hop := 4, sender := 0x33, body := .condition conditionExample })
    ∧ (Frame.bytes { hop := 4, sender := 0x33, body := .condition conditionExample })
      = withCheck [2, 4, 0x33, 0x21, 0x01, 0x02, 10, 0x15, 0x05, 3] := by decide +kernel

/-- From reset, a profile that fails its sum leads to FALLBACK, and a command there is answered NOT_OPERATIONAL. -/
theorem test_fallback :
    let s := nextOf (exec (.profileFrameNotReady none) State.reset)
    s.pfl.node = .fallback ∧ s.pfl.page5Reading = true
    ∧ (nextOf (exec (.readNotice []) s)).hpt.transaction = some { response := [0xA5, 4, 0, 0], cut := .nothing } := by decide +kernel

/-- With no page memory the profile fails, and STATUS in FALLBACK returns node id 0; a blank one returns 255, as byte 0 reads (R225). -/
theorem test_absentMemory :
    (nextOf (exec (.profileReadEnd none) State.reset)).pfl.readId = 0
    ∧ (nextOf (exec (.profileReadEnd (some (List.replicate 2048 255))) State.reset)).pfl.readId = 255
    ∧ (nextOf (exec (.profileReadEnd none) State.reset)).pfl.node = .fallback := by decide +kernel

/-- The entry events of RUNNING, taken from the queue of hand-offs one a step (log 1). -/
theorem test_loads :
    let s := nextOf (step (nextOf (step entered)))
    (s.lgm.legs[0]).fixed = some stair ∧ s.rtu.legs[0] = some { pace := 48, cost := 300 }
    ∧ (s.rtu.table[12]).best = .here ∧ (s.rtu.table[12]).cost = .finite 0 := by decide +kernel

/-- An ADVERT from the neighbour on DA: the arrival first, then sixteen writes; taken, the costs stand in the table (R30, R92). -/
theorem test_advert :
    let s := nextOf (exec (.advertReceipt .da advert0) node)
    s.handoffs.length = 17 ∧ s.handoffs.head? = some (.advertArrival 0)
    ∧ (let t := nextOf (step (nextOf (step s)))
       (t.rtu.table[0]).best = .leg 0 ∧ (t.rtu.table[0]).cost = .finite 350) := by decide +kernel

/-- RAISE PHASE sets the attention line, and READ MUSTER releases it (R113, R213, R218). -/
theorem test_raise :
    let s := nextOf (exec (.raisePhase [2, 1, 6]) node)
    s.attentionLine = true ∧ s.muc.phase = .proceed ∧ s.muc.epoch = some 1
    ∧ (nextOf (exec (.readMuster []) s)).attentionLine = false := by decide +kernel

/-- A demand is held; with nothing else waiting the arbiter picks it, and the face's first record begins: its header, page 0, so that no
page is awaited (R173, R174, R180, R182). -/
theorem test_demand :
    let h := nextOf (exec (.demand 0 .content) node)
    let s := nextOf (step h)
    h.fsc.string = none ∧ s.fsc.string = some (.draw 0 { content := .part .header (.header 0 0 .quiet), chain := true, phase := .quiet, language := 0 })
    ∧ (s.fsc.words[0]).state = .transfer ∧ (s.fsc.words[0]).prefetch = some 1216
    ∧ s.pca.fetch = some { slot := 0, header := none } := by decide +kernel

/-- A supplied chain of one record whose page is not cached waits, and its page's end puts it on the string (R177, R182, R183, R203). -/
theorem test_suppliedChain :
    let s := nextOf (step (nextOf (exec (.startFaceChain [0, 1, 0x01, 0x00, 0x02]) node)))
    (s.fsc.words[0]).state = .waitPage ∧ s.pca.fetch = some { slot := 0, header := none }
    ∧ (let t := nextOf (step (nextOf (exec (.fetchEndGood [7]) (nextOf (exec (.fetchHeaderRead 0x5C 1 0 5) s)))))
       t.fsc.string = some (.draw 0 { content := .picture 256, chain := false, phase := .quiet, language := 0 })
       ∧ (t.pca.slots[0]).pins = 1 ∧ t.hpt.notices = [.progress 0 0 1]
       ∧ (let u := nextOf (exec (.faceReply (withCheck [17, 1, 0])) t)
          u.hpt.notices = [.progress 0 0 1, .chainEnd 0 { condition := .complete, done := 1, total := 1 }]
          ∧ (u.pca.slots[0]).pins = 0 ∧ (u.fsc.words[0]).active = none)) := by decide +kernel

/-- A halt that arrives with a record's DONE meets the chain between records, whichever is taken first (R192). -/
theorem test_haltAfterDone :
    let s := nextOf (step (nextOf (exec (.startFaceChain [0, 2, 0, 0, 1, 0, 0, 0]) node)))
    let t := nextOf (exec (.faceReply (withCheck [17, 1, 0])) s)
    s.fsc.string.isSome = true ∧ t.fsc.string = none
    ∧ (nextOf (exec (.haltFace [0]) t)).hpt.notices = [.chainEnd 0 { condition := .halted, done := 1, total := 2 }] := by decide +kernel

/-- A silence expiry taken before an outstanding arrival is reported ahead of it, so that the writes behind it stand (R30, R48). -/
theorem test_expiryBeforeArrival :
    let s := nextOf (exec (.silenceTimerExpiry 0) (nextOf (exec (.advertReceipt .da advert0) node)))
    s.handoffs.length = 18 ∧ s.handoffs.take 2
      = [.legReport { leg := 0, link := some .silent, passability := true, conditions := false }, .advertArrival 0]
    ∧ (nextOf (exec (.advertArrival 0) s)).handoffs.take 2
      = [.legReport { leg := 0, link := some .silent, passability := true, conditions := false },
         .legReport { leg := 0, link := some .up, passability := true, conditions := false }] := by decide +kernel

/-- The bytes of a transaction: a whole command, one cut short, a code of no command; and the bytes the part returns (R209). -/
theorem test_transaction :
    readCommand [0x22, 4, 1, 5, 159, 59, 0, 0] = some (.setClock [1, 5, 159, 59]) ∧ readCommand [0x22, 4, 1, 5, 159] = none
    ∧ readCommand [0x77, 1, 9] = some (.unknownCommand 0x77 [9]) ∧ transactionCommands [0x22] 0 = [.selectRelease 0]
    ∧ (let h := (nextOf (exec (.readNotice []) node)).hpt
       (List.range 6).map h.output = [0xA5, 7, 0, 0, 0, 0] ∧ State.reset.hpt.output 0 = 0) := by decide +kernel

/-- The stand-down timer starts at 60 s and has one second less with each that passes, down to its last (R115, R118; log 7). -/
theorem test_standDownSeconds :
    let s := nextOf (exec (.raisePhase [4, 0]) node)
    let quiet := { s with handoffs := [] }
    s.muc.standDown = 60 ∧ (nextOf (step quiet)).muc.standDown = 59
    ∧ (let last := { quiet with muc := { quiet.muc with standDown := 1 } }
       (nextOf (step last)).muc.standDown = 1 ∧ (nextOf (exec .standDownTimerExpiry last)).muc.phase = .quiet) := by decide +kernel

/-! ### States that meet the hypotheses of the statements: machine, routes (01) -/

theorem witness_StepRunsFrontCommand :
    { State.reset with pending := [Instr.advertTick] }.pending = [Instr.advertTick]
    ∧ entered.pending = [] ∧ entered.handoffs = .lgmProfileLoad :: entryEvents.tail
    ∧ State.reset.pending = [] ∧ State.reset.handoffs = [] := by decide +kernel

/-- No page waits and none is cached right after START: the cache and the face words agree. -/
theorem resetPins : PinsOk { State.reset with pending := [.advertTick] } where
  cache :=
    { slots := by decide +kernel, queued := by decide +kernel, once := by decide +kernel, awaited := by decide +kernel
      filling := fun i => ⟨fun h => absurd h (by revert i; decide +kernel), fun ⟨_, h, _⟩ => by cases h⟩
      waiters := by decide +kernel, free := by decide +kernel }
  words := fun f => by
    have h : (State.reset.fsc.words[f]) = FaceWord.initial := by revert f; decide +kernel
    show WordOk State.reset.fsc.words[f]
    rw [h]
    exact ⟨fun h => (by cases h), fun _ => ⟨rfl, rfl⟩, fun _ => rfl, fun _ h => (by cases h)⟩
  pins := by decide +kernel
  started := fun f r h => by
    have e : ∀ f : FaceIx, (State.reset.fsc.words[f]).started = none := by decide +kernel
    exact absurd (h.symm.trans (e f)) (by simp)
  drawn := fun _ _ h => by cases h
  waiting := fun f page => by
    have e : (State.reset.fsc.words[f]).waiting = none := by revert f; decide +kernel
    have w : ∀ i : Fin 16, (State.reset.pca.slots[i]).waiters = [] := by decide +kernel
    show waitsFor State.reset.pca f page = if (State.reset.fsc.words[f]).waiting.any (fun r => r.page == page) then 1 else 0
    rw [e]
    simp only [waitsFor, w]
    have q : State.reset.pca.queue = [] := rfl
    simp [q]
  unread := fun _ => ⟨rfl, by decide +kernel⟩
  load := by decide +kernel

theorem resetCosts : CostsOk { State.reset with pending := [.advertTick] } where
  horizon := by decide +kernel
  listed := by decide +kernel
  best := fun d n h => by
    have e : ∀ d : DestIx, (State.reset.rtu.table[d]).cost = .unknown := by decide +kernel
    exact absurd (h.symm.trans (e d)) (by simp)
  adv := fun d l n h => by
    have e : ∀ (d : DestIx) (l : LegIx), (State.reset.rtu.table[d]).adv[l] = .unknown := by decide +kernel
    exact absurd (h.symm.trans (e d l)) (by simp)
  anchor := fun d a h => by
    have e : ∀ d : DestIx, (State.reset.rtu.table[d]).anchor = none := by decide +kernel
    exact absurd (h.symm.trans (e d)) (by simp)
  empty := fun _ d => by
    have e : State.reset.rtu.table[d] = Entry.initial := by revert d; decide +kernel
    show (State.reset.rtu.table[d]).anchor = none ∧ (∀ n, (State.reset.rtu.table[d]).cost ≠ .finite n)
      ∧ ∀ (l : LegIx) (n : Nat), (State.reset.rtu.table[d]).adv[l] ≠ .finite n
    rw [e]
    have u : ∀ l : LegIx, Entry.initial.adv[l] = .unknown := by decide +kernel
    exact ⟨rfl, fun n h => (by cases h), fun l n h => absurd (h.symm.trans (u l)) (by simp)⟩

theorem witness_LimitsKeptByEveryStep :
    let s : State := { State.reset with pending := [.advertTick] }
    (∃ t, step s = .next t) ∧ Limits s :=
  ⟨⟨_, rfl⟩,
    { ring := by decide, notices := by decide, items := by decide, queueDA := by decide, queueDB := by decide
      clock := by decide +kernel, muster := by decide +kernel, crowds := by decide +kernel, zones := by decide +kernel
      alarms := fun _ _ _ h => by simp [State.reset] at h
      timer := by decide +kernel, pool := by decide +kernel, costs := resetCosts }⟩

theorem witness_PinsAndWaitersKeptByEveryStep :
    let s : State := { State.reset with pending := [.advertTick] }
    (∃ t, step s = .next t) ∧ PinsOk s := ⟨⟨_, rfl⟩, resetPins⟩

theorem witness_PaceFactorAndLegCost :
    (7 ≤ 7 ∧ (1 ≤ 1 ∧ 1 ≤ 1023 ∧ 16 ≤ 16 ∧ 16 ≤ 140) ∧ 1 ≤ 1023 ∧ 1023 ≤ 1023 ∧ 16 ≤ 140 ∧ 140 ≤ 140) := by decide

theorem witness_PaceFactorAndLegCost_profile :
    ((readProfile (List.replicate 2048 1)).legs[(0 : LegIx)]).map (·.length) = some 257 := by decide +kernel

theorem witness_LegCandidateByFirstStep :
    LegRecord.initial.fixed = none ∧ { legUp stair with link := .silent }.link = .silent ∧ { legUp stair with barred := true }.barred = true
    ∧ ({ legUp stair with passable := false }.link = .up ∧ { legUp stair with passable := false }.passable = false)
    ∧ ({ legUp stair with link := .unheard }.fixed.isSome = true ∧ { legUp stair with link := .unheard }.barred = false)
    ∧ ((legUp stair).fixed.isSome = true ∧ (legUp stair).barred = false ∧ (legUp stair).link = .up ∧ (legUp stair).passable = true)
    ∧ legCandidate 30000 (legUp stair) (some { pace := 48, cost := 300 }) (.finite 29700) = .finite 30000
    ∧ legCandidate 30000 (legUp stair) (some { pace := 48, cost := 300 }) (.finite 29701) = .unreachable := by decide +kernel

theorem witness_BestSelectionKeepsCurrentWithinMargin :
    let some2 : Vector Cost 6 := #v[.finite 100, .finite 79, .unknown, .unknown, .unknown, .unknown]
    let none1 : Vector Cost 6 := #v[.unreachable, .unknown, .unreachable, .unreachable, .unreachable, .unreachable]
    let none0 : Vector Cost 6 := Vector.replicate 6 .unreachable
    (∀ w c, ¬ isWay none1 none w c) ∧ none1[(1 : LegIx)] = .unknown
    ∧ (∀ w c, ¬ isWay none0 none w c) ∧ (∀ l : LegIx, none0[l] = .unreachable)
    ∧ isWay some2 none (.leg 1) 79 ∧ (∀ c, ¬ isWay some2 none .none c)
    ∧ (isWay some2 none (.leg 0) 100 ∧ 79 + 20 < 100) ∧ (isWay some2 none (.leg 0) 100 ∧ 100 ≤ 79 + 21) := by
  refine ⟨?_, by decide, ?_, by decide, rfl, fun _ h => h, ⟨rfl, by decide⟩, ⟨rfl, by decide⟩⟩
  · intro w c h
    cases w with
    | leg l => revert h; revert l; intro l; match l with | 0 | 1 | 2 | 3 | 4 | 5 => exact fun h => by cases h
    | here => cases h
    | none => exact h
  · intro w c h
    cases w with
    | leg l => revert h; revert l; intro l; match l with | 0 | 1 | 2 | 3 | 4 | 5 => exact fun h => by cases h
    | here => cases h
    | none => exact h

theorem witness_AdvertisedCostWriteStoresAndRecomputes :
    node.running = true ∧ legReady node 0 ∧ node.lgm.legs[(2 : LegIx)].fixed = none
    ∧ storesAs node.pfl.profile.horizon (.finite 30000) (.finite 30000) ∧ storesAs node.pfl.profile.horizon (.finite 30001) .unreachable := by
  refine ⟨by decide +kernel, ⟨by decide +kernel, by decide +kernel⟩, by decide +kernel, ⟨fun _ => rfl, ?_⟩, ⟨?_, fun _ => rfl⟩⟩
  · intro h; exact absurd h (by decide +kernel)
  · intro h; exact absurd h (by decide +kernel)

theorem witness_RecomputeSelectsFlagsAndReports :
    let e : Entry := { Entry.initial with adv := setAt Entry.initial.adv 0 (.finite 50) }
    let s : State := { node with rtu := { node.rtu with table := setAt node.rtu.table 3 e } }
    reselect s.routeEnv s.rtu.legs s.rtu.table[(3 : DestIx)] ≠ (s.rtu.table[(3 : DestIx)].best, s.rtu.table[(3 : DestIx)].cost)
    ∧ reselect s.routeEnv s.rtu.legs s.rtu.table[(4 : DestIx)] = (s.rtu.table[(4 : DestIx)].best, s.rtu.table[(4 : DestIx)].cost) := by
  decide +kernel

theorem witness_LegReportFormsCostForgetsAndRecomputes :
    node.running = true ∧ node.lgm.legs[(0 : LegIx)].fixed = some stair
    ∧ node.rtu.legs[(0 : LegIx)] = some { pace := 48, cost := 300 } := by decide +kernel

theorem witness_RtuLoadFormsCostsAndInstallsAnchors :
    let s : State := { entered with handoffs := entryEvents.tail }
    s.running = true ∧ .rtuProfileLoad ∈ s.handoffs ∧ .lgmProfileLoad ∉ s.handoffs ∧ (∀ d : DestIx, s.rtu.table[d].anchor = none) := by
  decide +kernel

/-! ### Legs (02) -/

theorem witness_LegEvaluationAndItsReport :
    LegRecord.initial.fixed = none ∧ (legUp stair).fixed = some stair
    ∧ legChange 0 (legUp stair) { legUp stair with crowd := 1 } = some { leg := 0, link := none, passability := false, conditions := true } := by
  decide +kernel

theorem witness_LgmLoadInstallsSamplesAndAnnounces :
    entered.running = true ∧ .lgmProfileLoad ∈ entered.handoffs ∧ entered.pfl.profile.legs[(0 : LegIx)] = some stair
    ∧ stair.doorUsed = true := by decide +kernel

theorem witness_ArrivalAndSilenceMoveTheLink :
    node.running = true ∧ node.lgm.legs[(0 : LegIx)].fixed = some stair ∧ node.lgm.legs[(0 : LegIx)].link = .up
    ∧ node.lgm.legs[(0 : LegIx)].silenceRunning = true ∧ .advertArrival 0 ∉ node.handoffs
    ∧ (let s := withLeg node 0 { legUp stair with link := .silent, passable := false, silenceRunning := false }
       s.running = true ∧ s.lgm.legs[(0 : LegIx)].fixed = some stair ∧ s.lgm.legs[(0 : LegIx)].link = .silent)
    ∧ (nextOf (exec (.advertReceipt .da advert0) node)).handoffs.head? = some (.advertArrival 0)
    ∧ (withLeg node 0 { LegRecord.initial with fixed := some stair }).lgm.legs[(0 : LegIx)].link = .unheard := by decide +kernel

/-- The door line of leg 0 made, and waited for. -/
def doorMade : State := { node with lgm := { node.lgm with doors := setAt node.lgm.doors 0 { closed := true, wait := true } } }

theorem witness_DoorInputIsWaitedForThenTaken :
    node.lgm.doors[(0 : LegIx)].closed = false ∧ node.lgm.doors[(0 : LegIx)].closed ≠ true
    ∧ doorMade.running = true ∧ doorMade.lgm.legs[(0 : LegIx)].fixed = some stair ∧ stair.doorUsed = true
    ∧ doorMade.lgm.doors[(0 : LegIx)].wait = true
    ∧ doorMade.lgm.legs[(0 : LegIx)].localDoor ≠ doorMade.lgm.doors[(0 : LegIx)].closed
    ∧ (withLeg doorMade 0 { legUp stair with localDoor := true }).lgm.legs[(0 : LegIx)].localDoor
        = doorMade.lgm.doors[(0 : LegIx)].closed := by decide +kernel

theorem witness_ConditionAppliesToLegsBetweenItsEnds :
    node.running = true ∧ conditionExample.origin ≠ node.pfl.profile.nodeId
    ∧ { conditionExample with origin := 10 }.origin = node.pfl.profile.nodeId := by decide +kernel

theorem witness_CrowdExpiryAndMusterEventsChangeLegs :
    let s := withLeg node 0 { legUp stair with crowd := 3, crowdRunning := true }
    s.running = true ∧ s.lgm.legs[(0 : LegIx)].fixed.isSome = true ∧ s.lgm.legs[(0 : LegIx)].crowdRunning = true
    ∧ node.running = true ∧ (Instr.musterReportLgm = .musterReportLgm ∨ Instr.musterReportLgm = .returnToQuietLgm)
    ∧ (Instr.returnToQuietLgm = .musterReportLgm ∨ Instr.returnToQuietLgm = .returnToQuietLgm) := by decide +kernel

/-! ### Deck links (03) -/

/-- A CONDITION frame of node 0x21 as it arrives from node 0x33 with hop 4. -/
def conditionBytes : List Byte := withCheck [2, 4, 0x33, 0x21, 0x01, 0x02, 10, 0x15, 0x05, 3]
def alarmExample : AlarmBody := { epoch := 7, phaseCode := 1, origin := 10, zones := [5] }
def alarmBytes : List Byte := withCheck [3, 0, 0x33, 0, 7, 1, 10, 1, 5]

theorem witness_DeckLinkFrameLayouts :
    readFrame (withCheck advertHead) = some (.advert advert0)
    ∧ readFrame conditionBytes = some (.flooded { hop := 4, sender := 0x33, body := .condition conditionExample }) ∧ byteAt conditionBytes 0 = 2
    ∧ readFrame alarmBytes = some (.flooded { hop := 0, sender := 0x33, body := .alarm alarmExample }) ∧ byteAt alarmBytes 0 = 3
    ∧ (withCheck [4, 15, 0x33, 0x21, 0, 1, 2, 0, 3, 4] : List Byte).length = 12 ∧ byteAt (withCheck [4, 15, 0x33, 0x21, 0, 1, 2, 0, 3, 4]) 0 = 4
    ∧ (readFrame (withCheck (5 :: List.replicate 19 0))).isSome = true ∧ advert0.entries.length = 16 ∧ (15 : Nat) ≤ 15
    ∧ (List.replicate 8 (5 : Byte)).length ≤ 8 := ⟨test_advertBytes.2, by decide +kernel⟩

theorem witness_ArrivalDiscardsBadAndOwnFrames :
    checkGood (conditionBytes.take 11) = false ∧ (withCheck [2, 0, 1] : List Byte).length < 6
    ∧ (byteAt (withCheck [6, 0, 0, 0]) 0).toNat = 6 ∧ 15 < (byteAt (withCheck [2, 16, 0, 0]) 1).toNat
    ∧ State.reset.pfl.node = .starting
    ∧ readFrame conditionBytes = some (.flooded { hop := 4, sender := 0x33, body := .condition conditionExample })
    ∧ node.pfl.node = .running ∧ (withNode node .fallback).pfl.node = .fallback
    ∧ byteAt (withCheck [2, 4, 10, 0x21, 0x01, 0x02, 10, 0x15, 0x05, 3]) 2 = node.pfl.profile.nodeId
    ∧ floodOrigin (.condition { conditionExample with origin := 10 }) = node.pfl.profile.nodeId
    ∧ readFrame alarmBytes = some (.flooded { hop := 0, sender := 0x33, body := .alarm alarmExample })
    ∧ byteAt alarmBytes 2 ≠ node.pfl.profile.nodeId := by decide +kernel

theorem witness_ArrivalIsDispatchedAndRelayed :
    readFrame (withCheck advertHead) = some (.advert advert0)
    ∧ node.pfl.node = .running ∧ advert0.sender ≠ node.pfl.profile.nodeId
    ∧ (let f : Frame := { hop := 4, sender := 0x33, body := .condition conditionExample }
       readFrame conditionBytes = some (.flooded f) ∧ f.body.isAlarm = false ∧ f.sender ≠ node.pfl.profile.nodeId
       ∧ floodOrigin f.body ≠ node.pfl.profile.nodeId ∧ floodKey f.body ∉ node.dlc.ring
       ∧ floodKey f.body ∈ (node.enterKey (floodKey f.body)).dlc.ring ∧ f.hop + 1 ≤ node.pfl.profile.relayLimit
       ∧ { profile with relayLimit := 4 }.relayLimit < f.hop + 1) :=
  ⟨test_advertBytes.2, by decide +kernel⟩

theorem witness_FallbackRelaysAndTellsNoOwner :
    readFrame (withCheck advertHead) = some (.advert advert0)
    ∧ (let s := withNode node .fallback
       let f : Frame := { hop := 4, sender := 0x33, body := .condition conditionExample }
       s.pfl.node = .fallback ∧ readFrame conditionBytes = some (.flooded f)
       ∧ floodKey f.body ∉ s.dlc.ring ∧ floodKey f.body ∈ (s.enterKey (floodKey f.body)).dlc.ring ∧ f.hop + 1 ≤ 8 ∧ 8 < 8 + 1
       ∧ readFrame alarmBytes = some (.flooded { hop := 0, sender := 0x33, body := .alarm alarmExample })
       ∧ floodKey (.alarm alarmExample) = .alarm 10 7 1) :=
  ⟨test_advertBytes.2, by decide +kernel⟩

def heldFrame (n pos : Nat) : Held Frame :=
  { item := { hop := 0, sender := 10, body := .condition { conditionExample with seq := BitVec.ofNat 16 n, end1 := natByte n } },
    attempts := 0, pos := pos }
def heldQueue : List (Held Frame) := (List.range 8).map (fun n => heldFrame n n)

theorem witness_PlacingReplacesWaitsOrDisplaces :
    let four : Vector (Slot Frame) 4 := tabulate (fun i => { inFlight := none, unsent := some (heldFrame i.val (9 - i.val)) })
    let flying : Vector (Slot Frame) 4 := setAt (Vector.replicate 4 Slot.vacant) 2 { inFlight := some (heldFrame 5 1), unsent := none }
    { (Slot.vacant : Slot Frame) with unsent := some (heldFrame 1 4) }.unsent = some (heldFrame 1 4)
    ∧ ({ (Slot.vacant : Slot Frame) with inFlight := some (heldFrame 1 4) }.unsent = none
        ∧ { (Slot.vacant : Slot Frame) with inFlight := some (heldFrame 1 4) }.inFlight = some (heldFrame 1 4))
    ∧ ([] : List (Held Frame)).length < 8
    ∧ (heldQueue.length = 8 ∧ heldQueue.head? = some (heldFrame 0 0) ∧ heldQueue.tail.head? = some (heldFrame 1 1))
    ∧ (let c := { conditionExample with end1 := natByte 3 }
       heldSame c four[(3 : Fin 4)].unsent = true)
    ∧ (let c := { conditionExample with end1 := natByte 5 }
       (∀ i : Fin 4, heldSame c flying[i].unsent = false) ∧ heldSame c flying[(2 : Fin 4)].inFlight = true)
    ∧ (∀ i : Fin 4, heldSame conditionExample flying[i].unsent = false ∧ heldSame conditionExample flying[i].inFlight = false)
    ∧ flying[(0 : Fin 4)] = Slot.vacant
    ∧ (∀ i : Fin 4, four[i].unsent.isSome = true ∧ heldSame conditionExample four[i].unsent = false) := by decide +kernel

/-- A port with an ADVERT urgent for block 1, a periodic one for block 0, and a CONDITION in relay slot 0. -/
def busyPort : LinkPort :=
  { LinkPort.initial with
    condRelay := setAt LinkPort.initial.condRelay 0 { inFlight := none, unsent := some (heldFrame 1 2) }
    advert := setAt (setAt LinkPort.initial.advert 1 { inFlight := none, unsent := some { item := true, attempts := 0, pos := 5 } }) 0
      { inFlight := none, unsent := some { item := false, attempts := 15, pos := 3 } } }

theorem witness_TransmitChoiceIsFirstRow :
    busyPort.choose false = some (.condRelay 0) ∧ LinkPort.initial.choose false = none
    ∧ { busyPort with condRelay := LinkPort.initial.condRelay }.choose false = some (.advert 1)
    ∧ { busyPort with condRelay := LinkPort.initial.condRelay }.choose true = some (.advert 0) := by decide +kernel

theorem witness_TransmissionStartSendsTheChoice :
    (node.dlc.ports.get .da).choose (node.adu.ports.get .da).gapRunning = none
    ∧ busyPort.tx = .ready ∧ (busyPort.floodSlot .clock).unsent = none ∧ isFloodSlot (.condRelay 0) ∧ (busyPort.floodSlot (.condRelay 0)).unsent = some (heldFrame 1 2)
    ∧ ({ LinkPort.initial with programme := heldQueue }.choose false = some .programme
        ∧ { LinkPort.initial with programme := heldQueue }.programme.head? = some (heldFrame 0 0))
    ∧ ({ busyPort with tx := .backoff 3 } : LinkPort).tx ≠ .ready :=
  ⟨by decide +kernel, rfl, rfl, ⟨by simp, by simp⟩, by decide +kernel, by decide +kernel, by simp⟩

/-- A port sending from a slot, the frame in flight with a count of attempts. -/
def sendingCondition (attempts : Nat) (behind : Option (Held Frame)) : LinkPort :=
  { LinkPort.initial with
    tx := .sending (.condRelay 0) []
    condRelay := setAt LinkPort.initial.condRelay 0 { inFlight := some { heldFrame 1 2 with attempts := attempts }, unsent := behind } }

theorem witness_CollisionReturnsAbandonsOrDrops :
    (withPort node .da (sendingCondition 0 none)).pfl.node = .running
    ∧ ((withPort node .da (sendingCondition 0 none)).dlc.ports.get .da).tx = .sending (.condRelay 0) []
    ∧ (withNode (withPort node .da (sendingCondition 0 none)) .fallback).pfl.node = .fallback
    ∧ ((sendingCondition 14 none).floodSlot (.condRelay 0)).inFlight = some { heldFrame 1 2 with attempts := 14 }
    ∧ ((sendingCondition 14 none).floodSlot (.condRelay 0)).unsent = none ∧ 14 + 1 < 16 ∧ 16 ≤ 15 + 1
    ∧ ((sendingCondition 0 (some (heldFrame 1 2))).floodSlot (.condRelay 0)).unsent = some (heldFrame 1 2)
    ∧ (let lp := { LinkPort.initial with tx := .sending .programme [], programme := heldQueue, progInFlight := true }
       lp.programme = heldFrame 0 0 :: heldQueue.tail
       ∧ ((withNode (withPort node .da lp) .fallback).dlc.ports.get .da).tx = .sending .programme [])
    ∧ (let sl : Slot Bool := { inFlight := some { item := false, attempts := 15, pos := 0 }, unsent := none }
       let lp := { LinkPort.initial with tx := .sending (.advert 2) [], advert := setAt LinkPort.initial.advert 2 sl }
       lp.advert[(2 : BlockIx)].inFlight = some { item := false, attempts := 15, pos := 0 } ∧ lp.advert[(2 : BlockIx)].unsent = none) := by
  decide +kernel

theorem witness_BackoffEndsAndTransmissionCompletes :
    ({ LinkPort.initial with tx := .backoff 5 } : LinkPort).tx = .backoff 5
    ∧ (∀ k, LinkPort.initial.tx ≠ .backoff k) ∧ (∀ n b, LinkPort.initial.tx ≠ .sending n b)
    ∧ (sendingCondition 0 none).tx = .sending (.condRelay 0) [] :=
  ⟨rfl, fun _ h => by simp [LinkPort.initial] at h, fun _ _ h => by simp [LinkPort.initial] at h, rfl⟩

/-! ### Adverts (04), muster (05), clock and programme (06) -/

theorem witness_AdvertEntryConversion :
    60001 ≤ (60001#16 : Word).toNat ∧ (65533#16 : Word).toNat ≤ 65533 ∧ (60000#16 : Word).toNat ≤ 60000
    ∧ 65534 ≤ (65534#16 : Word).toNat ∧ (65534#16 : Word).toNat = 65534 ∧ (65535#16 : Word).toNat = 65535
    ∧ (0x15#8 : Byte) ≠ 10 := by decide +kernel

theorem witness_AdvertReceiptHandsArrivalThenSixteenWrites :
    node.running = true ∧ 3 < { advert0 with block := 4 }.block.toNat
    ∧ (∀ l : LegIx, legMatches .da 0x99 node.lgm.legs[l] = false)
    ∧ advert0.block.toNat = (0 : BlockIx).val ∧ advert0.entries.length = 16
    ∧ (node.lgm.legs[(0 : LegIx)].fixed = some stair ∧ stair.port = .da ∧ stair.neighbour = advert0.sender) := by decide +kernel

/-- Destination 20 has its changed flags set. -/
def changed20 : State :=
  { node with
    handoffs := [.aduProfileLoad]
    rtu := { node.rtu with table := setAt node.rtu.table 20 { Entry.initial with changedDA := true, changedDB := true } } }

theorem witness_AdvertRequestsFollowFlagsAndTick :
    changed20.running = true ∧ .aduProfileLoad ∈ changed20.handoffs
    ∧ ((20 : DestIx).val / 16 = (1 : BlockIx).val ∧ (changed20.rtu.table[(20 : DestIx)]).changed .da = true)
    ∧ node.adu.tickRunning = true ∧ (node.adu.ports.get .da).urgent[(1 : BlockIx)] = false
    ∧ ((node.setUrgent .da 1 true).adu.ports.get .da).urgent[(1 : BlockIx)] = true
    ∧ node.running = true
    ∧ ((node.dlc.ports.get .da).advert[(node.adu.ports.get .da).rotation]).unsent = none
    ∧ ((withPort node .da busyPort).dlc.ports.get .da).advert[(0 : BlockIx)].unsent = some { item := false, attempts := 15, pos := 3 } := by
  decide +kernel

/-- The muster record with an epoch, a phase and a running repeat timer. -/
def mustered (e : Word) (ph : Phase) : Muc :=
  { epoch := some e, phase := ph, origin := 12, zones := [5], standDown := if ph = .standDown then 60 else 0, repeatRunning := true, held := some ph }

theorem witness_EpochSerialOrder :
    ((32768 : Word) - 0).toNat = 32768 ∧ ((0 : Word) - 0).toNat = 0 ∧ (mustered 0 .alert).epoch = some 0 := by decide +kernel

theorem witness_AlarmReceiptAdoptsOrIgnores :
    node.running = true ∧ phaseOfCode 0 = none ∧ phaseOfCode 5 = none ∧ phaseOfCode alarmExample.phaseCode = some .alert
    ∧ node.muc.epoch = none
    ∧ (let s := withMuc node (mustered 6 .alert)
       s.muc.epoch = some 6 ∧ 1 ≤ (alarmExample.epoch - 6).toNat ∧ (alarmExample.epoch - 6).toNat ≤ 32767 ∧ s.muc.held = some .alert)
    ∧ (let s := withMuc node (mustered 7 .proceed)
       s.muc.epoch = some 7 ∧ alarmExample.epoch = 7 ∧ alarmExample.origin.toNat < s.muc.origin.toNat ∧ s.muc.held ≠ some .alert)
    ∧ (let s := withMuc node (mustered 8 .alert)
       s.muc.adopts alarmExample.epoch alarmExample.origin = false)
    ∧ node.pfl.profile.relayLimit < 8 + 1 ∧ 7 + 1 ≤ node.pfl.profile.relayLimit := by decide +kernel

theorem witness_MusterLoadRepeatAndStandDown :
    (let s := withMuc (withHandoff node .mucProfileLoad) (mustered 7 .standDown)
     s.running = true ∧ .mucProfileLoad ∈ s.handoffs ∧ s.muc.epoch = some 7 ∧ s.muc.phase ≠ .quiet ∧ s.muc.repeatRunning = true
     ∧ 0 < s.muc.standDown ∧ s.muc.phase = .standDown)
    ∧ node.muc.phase = .quiet ∧ State.reset.pfl.node = .starting
    ∧ (let s := withMuc State.reset (mustered 7 .standDown)
       s.running = false ∧ 0 < s.muc.standDown ∧ s.muc.phase = .standDown) := by decide +kernel

def clockAt (day minute second : Nat) : Sck :=
  { isSet := true, day := day, minute := minute, second := second, lastOrigin := 12, lastSeq := 5, timerRunning := true, counter := 0 }

theorem witness_ClockAdvancesAndTakesFrames_second :
    ((clockAt 1 1 58).isSet = true ∧ (clockAt 1 1 58).timerRunning = true ∧ clockOk (clockAt 1 1 58) ∧ (clockAt 1 1 58).second < 59)
    ∧ (clockOk (clockAt 1 1438 59) ∧ (clockAt 1 1438 59).second = 59 ∧ (clockAt 1 1438 59).minute < 1439)
    ∧ (clockOk (clockAt 254 1439 59) ∧ (clockAt 254 1439 59).minute = 1439 ∧ (clockAt 254 1439 59).day < 255)
    ∧ (clockOk (clockAt 255 1439 59) ∧ (clockAt 255 1439 59).minute = 1439 ∧ (clockAt 255 1439 59).day = 255) := by decide +kernel

def clockFrame : ClockBody := { origin := 12, seq := 6, day := 1, minute := 600, second := 59 }

theorem witness_ClockAdvancesAndTakesFrames :
    node.running = true ∧ 1439 < { clockFrame with minute := 1440 }.minute.toNat ∧ 59 < { clockFrame with second := 60 }.second.toNat
    ∧ ((withSck node (clockAt 1 1 0)).sck.isSet = true ∧ { clockFrame with seq := 5 }.origin = (clockAt 1 1 0).lastOrigin
        ∧ { clockFrame with seq := 5 }.seq = (clockAt 1 1 0).lastSeq)
    ∧ Sck.ignores node.sck clockFrame = false ∧ node.sck.isSet = false
    ∧ (Sck.ignores (clockAt 1 1 0) clockFrame = false ∧ 1 * 1440 + 1 ≠ clockFrame.day.toNat * 1440 + clockFrame.minute.toNat)
    ∧ (Sck.ignores (clockAt 1 600 0) clockFrame = false ∧ 1 * 1440 + 600 = clockFrame.day.toNat * 1440 + clockFrame.minute.toNat) := by
  decide +kernel

theorem witness_MinuteEventBeginsAndEndsItems :
    node.pfl.node ≠ .fallback ∧ node.running = true ∧ State.reset.pfl.node ≠ .fallback ∧ State.reset.running = false := by decide +kernel

def itemAt (id start : Nat) : Item :=
  { id := id, revision := 1, day := 1, start := start, stop := start + 30, venue := 3, titlePage := 100, cancelled := false,
    moved := false, running := false }
def offerOf (id start revision : Nat) : Offer :=
  { id := BitVec.ofNat 16 id, revision := natByte revision, day := 1, start := BitVec.ofNat 16 start, stop := BitVec.ofNat 16 (start + 30),
    venue := 3, titlePage := 100, cancelled := false, moved := false }
def fullList : List Item := (List.range 96).map (fun n => itemAt (n + 1) (n + 10))

theorem witness_OfferIsRefusedEndedReplacedOrStored :
    node.running = true ∧ itemsOk node.plu.items ∧ itemsOk [itemAt 7 500]
    ∧ offerInRange (offerOf 0 500 1) = false ∧ offerInRange (offerOf 1 1439 1) = false ∧ offerInRange (offerOf 65535 1409 255) = true
    ∧ ((itemAt 7 500).id = (offerOf 7 500 1).id.toNat ∧ (offerOf 7 500 1).revision.toNat ≤ (itemAt 7 500).revision)
    ∧ ((clockAt 1 530 0).isSet = true ∧ 1440 + 530 ≤ (clockAt 1 530 0).now) ∧ ¬ (1440 + 530 ≤ (clockAt 1 529 0).now)
    ∧ (let s := withHandoff (withSck node (clockAt 1 530 0)) (.minuteEventPlu (some 1969) 1970)
       s.offerMinute = some 1969 ∧ s.sck.now = 1970 ∧ (s.offer (offerOf 8 500 1)).2 = .stored
       ∧ ((withSck node (clockAt 1 530 0)).offer (offerOf 8 500 1)).2 = .expired)
    ∧ (itemAt 7 500).id = (offerOf 7 600 2).id.toNat ∧ (itemAt 7 500).id ≠ (offerOf 8 600 2).id.toNat
    ∧ [itemAt 7 500].length < 96 ∧ fullList.getLast? = some (itemAt 96 105)
    ∧ itemOrder (itemAt 96 105) (itemAt 97 105) ∧ itemOrder (itemAt 97 104) (itemAt 96 105) := by decide +kernel

theorem witness_OfferIsRefusedEndedReplacedOrStored_full : fullList.length = 96 ∧ itemsOk fullList := by decide +kernel

/-! ### Face content (07) -/

theorem witness_FaceContentByKindAndPhase :
    node.muc.phase = .quiet ∧ (withMuc node (mustered 1 .proceed)).muc.phase = .proceed ∧ (withMuc node (mustered 1 .hold)).muc.phase ≠ .quiet
    ∧ sign.kind = .sign [0, 2] (.wayfind [12, 40]) [1] ∧ door.kind = .door 1 2000 3
    ∧ partValue node 0 sign (.line 2) = .blank
    ∧ partValue node 0 sign (.line 1) = .line { ident := .dest 40, page := 1664, arrow := none, field := some .pending, status := none,
                                                language := 0 }
    ∧ partValue (withMuc node (mustered 1 .alert)) 1 door .header = .header 3017 1 .alert := by decide +kernel

theorem witness_RecomputeEventsRaiseDemands :
    node.running = true ∧ node.fcu.faces[(0 : FaceIx)].config = some sign
    ∧ demandsFor node (fun _ _ => true) = [.demand 0 .content, .demand 1 .content] := by decide +kernel

theorem witness_FaceRecordsAndSnapshotsFollowEvents :
    node.running = true ∧ .fcuProfileLoad ∈ entered.handoffs ∧ entered.running = true ∧ node.fcu.rotationRunning = true
    ∧ node.fcu.faces[(1 : FaceIx)].config.isSome = true := by decide +kernel

/-! ### Face string (08) -/

def headerRecord : DrawRecord := { content := .part .header (.header 0 0 .quiet), chain := true, phase := .quiet, language := 0 }
def generated (parts : List Part) : ActiveChain := { body := .generated .content parts, index := 0, seq := 0 }
def supplied (n : Nat) : ActiveChain :=
  { body := .supplied (List.replicate n { page := 9, chain := false, notify := false, hold := true }) 0 false, index := 0, seq := 1 }

/-- Face 0 with a chain whose record is on the string. -/
def drawing0 (c : ActiveChain) (r : DrawRecord) : State :=
  let s := withWord node 0 { FaceWord.initial with address := some 17, active := some c, state := .transfer, poll := .wait2s }
  s.setString (some (.draw 0 r))

def polling0 (w : FaceWord) : State := (withWord node 0 { w with address := some 17 }).setString (some (.poll 0 true false))

theorem witness_ArbiterTakesOldestOfFirstClass :
    (polling0 FaceWord.initial).fsc.string.isSome = true
    ∧ (indices 32).flatMap (fun f => node.fsc.words[f].candidates f) = []
    ∧ (let s := withWord (withWord node 0 { FaceWord.initial with address := some 17, demand := true, cls := some .content, demandSeq := 4 })
         1 { FaceWord.initial with address := some 18, poll := .due 3 false }
       let all := (indices 32).flatMap (fun f => s.fsc.words[f].candidates f)
       s.fsc.string = none ∧ all.length = 2 ∧ (∀ x ∈ all, (x.seq - 0).toNat < 2 ^ 31)
       ∧ (s.takeCandidate { rank := 1, seq := 4, face := 0, pick := .demand }).fsc.string.isSome = true) := by decide +kernel

theorem witness_PickStartsChainRecordOrPoll :
    node.running = true ∧ differingParts node 0 ≠ [] ∧ (withMuc node (mustered 1 .alert)).muc.phase ≠ .quiet
    ∧ (let s := withWord node 0 { FaceWord.initial with address := some 17, active := some (supplied 2), state := .active }
       s.fsc.words[(0 : FaceIx)].active = some (supplied 2) ∧ s.muc.phase = .quiet ∧ s.fsc.words[(0 : FaceIx)].started = none
       ∧ (s.buildRecord 0 (supplied 2)).page ≠ 0 ∧ (s.pca.faceRequest 0 9).2 = false
       ∧ ((setAt s.pca.slots 2 { CacheSlot.vacant with state := .valid, page := 9 })[(2 : Fin 16)]).page = 9)
    ∧ (let s : State := { node with pca := { node.pca with
         slots := setAt node.pca.slots 2 { CacheSlot.vacant with state := .valid, page := 9 } } }
       (s.pca.faceRequest 0 9).2 = true)
    ∧ (node.buildRecord 0 (generated [.header, .line 0])).page = 0 ∧ sign.kind = .sign [0, 2] (.wayfind [12, 40]) [1]
    ∧ ({ FaceWord.initial with started := some headerRecord } : FaceWord).started = some headerRecord
    ∧ differingParts node 5 = [] := by decide +kernel

theorem witness_FscLoadMakesEveryPollDue :
    entered.running = true ∧ .fscProfileLoad ∈ entered.handoffs ∧ entered.pfl.profile.faces[(0 : FaceIx)] = some sign := by decide +kernel

theorem witness_DemandsAgesAndDuePolls :
    node.running = true ∧ node.fsc.words[(5 : FaceIx)].address = none
    ∧ (node.fsc.words[(0 : FaceIx)].address.isSome = true ∧ node.fsc.words[(0 : FaceIx)].state ≠ .offline
        ∧ node.fsc.words[(0 : FaceIx)].generatedActive = false ∧ node.fsc.words[(0 : FaceIx)].demand = false)
    ∧ ({ FaceWord.initial with state := .offline } : FaceWord).state = .offline
    ∧ ({ FaceWord.initial with active := some (generated [.header]) } : FaceWord).generatedActive = true
    ∧ (({ FaceWord.initial with demand := true } : FaceWord).generatedActive = false ∧ ({ FaceWord.initial with demand := true } : FaceWord).demand = true)
    ∧ (let s := withWord node 0 { FaceWord.initial with address := some 17, active := some (supplied 2), poll := .due 3 false }
       s.fsc.words[(0 : FaceIx)].suppliedActive = true ∧ s.drawing 0 = false ∧ s.fsc.words[(0 : FaceIx)].poll = .due 3 false) := by
  decide +kernel

theorem witness_FaceStringRecordLayouts :
    (polling0 FaceWord.initial).fsc.string = some (.poll 0 true false) ∧ node.fsc.string = none
    ∧ (drawing0 (generated [.header]) headerRecord).fsc.string = some (.draw 0 headerRecord) ∧ headerRecord.page = 0
    ∧ (let s := drawing0 (supplied 1) { headerRecord with content := .picture 9 }
       let p : Pca := { s.pca with slots := setAt s.pca.slots 2 { CacheSlot.vacant with state := .valid, page := 9, bytes := [7] } }
       ({ headerRecord with content := .picture 9 } : DrawRecord).page ≠ 0 ∧ p.slots[(2 : Fin 16)].state = .valid
       ∧ p.slots[(2 : Fin 16)].page = 9 ∧ p.pageBytes 9 = [7])
    ∧ readReply 17 true (withCheck [17, 1, 0]) = some .done := by decide +kernel

theorem witness_RecordRepliesAdvanceOrEndTheChain :
    (let s := drawing0 (generated [.header, .line 0]) headerRecord
     s.pfl.node = .running ∧ s.fsc.string = some (.draw 0 headerRecord) ∧ s.fsc.words[(0 : FaceIx)].active = some (generated [.header, .line 0])
     ∧ s.fsc.words[(0 : FaceIx)].state = .transfer ∧ s.fsc.words[(0 : FaceIx)].started = none ∧ s.fsc.words[(0 : FaceIx)].waiting = none
     ∧ s.fsc.words[(0 : FaceIx)].pending = none ∧ s.fsc.words[(0 : FaceIx)].redirty = false
     ∧ ¬ (generated [.header, .line 0]).body.total ≤ 0 + 1 ∧ (generated [.header]).body.total ≤ 0 + 1
     ∧ [Part.header, .line 0][0]? = some .header ∧ ∀ page, headerRecord.content ≠ .picture page)
    ∧ readReply 17 true (withCheck [17, 1, 0]) = some .done ∧ readReply 17 true (withCheck [17, 2, 9]) = some (.fault 9)
    ∧ readReply 17 true (withCheck [18, 1, 0]) = none
    ∧ (drawing0 (supplied 2) { headerRecord with content := .picture 9 }).fsc.words[(0 : FaceIx)].active = some (supplied 2)
    ∧ ¬ (supplied 2).body.total ≤ 0 + 1 ∧ (supplied 1).body.total ≤ 0 + 1 ∧ node.hpt.notices.length < 32 := by
  refine ⟨?_, by decide +kernel⟩
  and_intros
  all_goals first | exact fun _ h => by simp [headerRecord] at h | decide +kernel

theorem witness_PollRepliesAndSilences :
    (polling0 FaceWord.initial).pfl.node = .running ∧ (polling0 FaceWord.initial).fsc.string = some (.poll 0 true false)
    ∧ (polling0 FaceWord.initial).fsc.words[(0 : FaceIx)].state ≠ .offline
    ∧ readReply 17 false (withCheck [17, 3, 0]) = some .nothing ∧ readReply 17 false (withCheck [17, 2, 9]) = some (.fault 9)
    ∧ readReply 17 false (withCheck [17, 4, 1]) = some (.attention 1) ∧ readReply 17 false (withCheck [17, 4, 4]) = none
    ∧ (polling0 { FaceWord.initial with state := .offline }).fsc.words[(0 : FaceIx)].state = .offline
    ∧ (polling0 FaceWord.initial).fsc.words[(0 : FaceIx)].retry = 0
    ∧ (polling0 { FaceWord.initial with retry := 1 }).fsc.words[(0 : FaceIx)].retry ≠ 0
    ∧ (Exchange.poll 0 true false).face = 0 := by decide +kernel

theorem witness_MusterAdoptionHaltsSuppliedAndDemands :
    node.running = true ∧ node.fsc.words[(5 : FaceIx)].address = none
    ∧ (let s := withWord node 0 { FaceWord.initial with address := some 17, active := some (supplied 2), state := .active }
       s.fsc.words[(0 : FaceIx)].address.isSome = true ∧ s.fsc.words[(0 : FaceIx)].suppliedActive = true ∧ s.drawing 0 = false
       ∧ s.fsc.words[(0 : FaceIx)].state ≠ .offline ∧ s.fsc.words[(0 : FaceIx)].generatedActive = false)
    ∧ (let s := drawing0 (supplied 2) { headerRecord with content := .picture 9 }
       s.drawing 0 = true ∧ s.fsc.words[(0 : FaceIx)].active = some (supplied 2))
    ∧ (drawing0 (generated [.header]) headerRecord).fsc.words[(0 : FaceIx)].generatedActive = true := by decide +kernel

/-! ### Page cache (09) -/

/-- A fetch on the port for slot 4, some waiters on it. -/
def fetching (waiters : List Waiter) (header : Option (List Byte)) : State :=
  { node with pca := { node.pca with
      slots := setAt node.pca.slots 4 { CacheSlot.vacant with state := .filling, page := 9, waiters := waiters }
      fetch := some { slot := 4, header := header } } }

def heldSlot : CacheSlot := { CacheSlot.vacant with state := .valid, page := 3016, held := true, waiters := [] }

theorem witness_FetchesFillOrEmptyTheSlot :
    (fetching [] none).pca.fetch = some { slot := 4, header := none } ∧ (fetching [] none).pca.slots[(4 : Fin 16)].waiters = []
    ∧ (fetching [] none).pca.queue = [] ∧ (fetching [.hold] none).pca.slots[(4 : Fin 16)].waiters = [.hold]
    ∧ ((0x00#8 : Byte) ++ (0x04#8 : Byte)).toNat = 4 ∧ ((0x02#8 : Byte) ++ (0x00#8 : Byte)).toNat = 512
    ∧ (fetching [.face 0, .hold] (some [0x5C, 1, 0, 5])).pca.fetch = some { slot := 4, header := some [0x5C, 1, 0, 5] }
    ∧ [(7 : Byte)].length + 4 = (wordAt [0x5C, 1, 0, 5] 2).toNat ∧ (faceWaiters [.face 0, .hold]).Nodup
    ∧ (0 : FaceIx) ∈ faceWaiters [.face 0, .hold]
    ∧ node.pca.chooseSlot = some 0 ∧ { node.pca with slots := Vector.replicate 16 heldSlot }.chooseSlot = none := by decide +kernel

/-- A cache with one page VALID in slot 2 and one FILLING in slot 4, a third page queued for a prefetch. -/
def smallCache : Pca :=
  { node.pca with
    slots := setAt (setAt node.pca.slots 2 { CacheSlot.vacant with state := .valid, page := 8, pins := 1 }) 4
      { CacheSlot.vacant with state := .filling, page := 9, waiters := [.prefetch 1] }
    queue := [{ page := 10, waiters := [.prefetch 0] }]
    fetch := some { slot := 4, header := none } }

theorem smallCache_ok : CacheOk smallCache where
  slots := by decide +kernel
  queued := by decide +kernel
  once := by decide +kernel
  awaited := by decide +kernel
  filling := fun i => by
    have h : (smallCache.slots[i]).state = .filling ↔ i = 4 := by revert i; decide +kernel
    rw [h]
    exact ⟨fun e => ⟨_, rfl, e.symm⟩, fun ⟨x, e, f⟩ => by cases e; exact f.symm⟩
  waiters := by decide +kernel
  free := by decide +kernel

theorem witness_CacheRequestsPinsAndQueue :
    smallCache.slots[(2 : Fin 16)].state = .valid ∧ smallCache.slots[(4 : Fin 16)].state = .filling ∧ smallCache.queue ≠ []
    ∧ (∀ i : Fin 16, smallCache.slots[i].state = .empty ∨ smallCache.slots[i].page ≠ 10) ∧ (∃ e ∈ smallCache.queue, e.page = 10)
    ∧ (∀ i : Fin 16, smallCache.slots[i].state = .empty ∨ smallCache.slots[i].page ≠ 11) ∧ (∀ e ∈ smallCache.queue, e.page ≠ 11)
    ∧ smallCache.head = some { page := 10, waiters := [.prefetch 0] } ∧ smallCache.fetch.isSome = true
    ∧ { smallCache with fetch := none }.chooseSlot = some 0 := by decide +kernel

/-- The cache `smallCache` meets the premise of the statements on requests and on holds. -/
theorem witness_HoldAndReleaseRequestsMoveTheHoldSet : node.running = true ∧ CacheOk smallCache := ⟨rfl, smallCache_ok⟩

/-- The rows of R205 on one cache: page 8 is VALID, 9 FILLING, 10 queued, 11 nowhere. Held: a flag, a mark, a mark that raises the entry
to hold class, a new entry. Released again: as before. -/
theorem test_holdRows :
    let p := smallCache.hold .alert [8, 9, 10, 11]
    let q := p.release [8, 9, 10, 11]
    (p.slots[2]).held = true ∧ (p.slots[4]).waiters = [.prefetch 1, .hold]
    ∧ p.queue = [{ page := 10, waiters := [.prefetch 0, .hold] }, { page := 11, waiters := [.hold] }]
    ∧ p.queue.map QueueEntry.rank = [0, 0]
    ∧ q.slots = smallCache.slots ∧ q.queue = smallCache.queue := by decide +kernel

/-- A pending chain given up takes the prefetch page of its face, and the mark, with it; the active chain runs on (R178, R179). -/
theorem test_discardPending :
    let w : FaceWord := { FaceWord.initial with
      address := some 17, active := some (generated [.header, .line 0]), state := .active, prefetch := some 10
      pending := some [{ page := 9, chain := false, notify := false, hold := false }] }
    let s := nextOf (exec (.haltFace [0]) { withWord node 0 w with pca := smallCache })
    (s.fsc.words[0]) = { w with pending := none, prefetch := none } ∧ s.pca.queue = []
    ∧ s.hpt.notices = [.chainEnd 0 { condition := .halted, done := 0, total := 1 }] := by decide +kernel

/-! ### Host port (10), profile loader (11) -/

theorem witness_HostChecksDecideInOrder :
    State.reset.hpt.transaction = none ∧ State.reset.pfl.node = .starting
    ∧ (withNode State.reset .fallback).pfl.node = .fallback ∧ (withNode State.reset .fallback).hpt.transaction = none
    ∧ node.pfl.node = .running ∧ node.hpt.transaction = none
    ∧ (Instr.setClock [1], false, false) ∈ hostTable [1] ∧ (Instr.status [1], true, false) ∈ hostTable [1]
    ∧ (Instr.startFaceChain [0, 1, 0, 9], false, false) ∈ hostTable [0, 1, 0, 9]
    ∧ readCommand [0x22, 4, 1] = none ∧ readCommand [0x3F, 0] = some (.restart []) ∧ (0x02#8 : Byte) ∉ commandCodes.tail.tail
    ∧ (0x77#8 : Byte) ∉ commandCodes := by decide +kernel

theorem witness_StatusNoticeAndMusterReads :
    node.hpt.transaction = none ∧ node.pfl.node = .running ∧ (withNode node .fallback).pfl.node = .fallback ∧ node.hpt.notices = []
    ∧ { node.hpt with notices := [.progress 0 0 1] }.notices = .progress 0 0 1 :: [] := by decide +kernel

theorem witness_RouteLegAndFaceReads :
    node.hpt.transaction = none ∧ node.pfl.node = .running ∧ 63 < (64#8 : Byte).toNat ∧ 5 < (6#8 : Byte).toNat ∧ 31 < (32#8 : Byte).toNat
    ∧ (63 : DestIx).val = (63#8 : Byte).toNat ∧ (0 : LegIx).val = (0#8 : Byte).toNat ∧ node.lgm.legs[(0 : LegIx)].fixed = some stair
    ∧ node.rtu.legs[(0 : LegIx)] = some { pace := 48, cost := 300 } ∧ node.lgm.legs[(5 : LegIx)].fixed = none
    ∧ (31 : FaceIx).val = (31#8 : Byte).toNat ∧ node.fsc.words[(31 : FaceIx)].address = none
    ∧ node.fsc.words[(0 : FaceIx)].address.isSome = true := by decide +kernel

/-- START FACE CHAIN for face 0: two records, the last with HOLD. -/
def chainParams : List Byte := [0, 2, 0, 9, 1, 0, 10, 4]

theorem witness_FaceCommandsByFirstRow :
    node.hpt.transaction = none ∧ node.pfl.node = .running
    ∧ chainParams.length = 2 + 3 * (byteAt chainParams 1).toNat ∧ byteAt chainParams 0 = natByte (0 : FaceIx).val
    ∧ suppliedListOk (readSuppliedList chainParams) = true ∧ (readSuppliedList chainParams).length = 2
    ∧ suppliedListOk (readSuppliedList [0, 1, 0, 9, 1]) = false ∧ 31 < (32#8 : Byte).toNat
    ∧ ([32, 1, 0, 9, 0] : List Byte).length = 2 + 3 * (byteAt [32, 1, 0, 9, 0] 1).toNat
    ∧ node.fsc.words[(0 : FaceIx)].address.isSome = true ∧ node.fsc.words[(5 : FaceIx)].address = none
    ∧ (withMuc node (mustered 1 .alert)).muc.phase ≠ .quiet ∧ node.muc.phase = .quiet
    ∧ (let s := withWord node 0 { FaceWord.initial with address := some 17, active := some (supplied 2), state := .active }
       s.fsc.words[(0 : FaceIx)].suppliedActive = true ∧ s.drawing 0 = false ∧ s.fsc.words[(0 : FaceIx)].pending = none)
    ∧ (drawing0 (supplied 2) { headerRecord with content := .picture 9 }).drawing 0 = true
    ∧ (let w : FaceWord := { FaceWord.initial with address := some 17, pending := some [{ page := 9, chain := false, notify := false, hold := false }] }
       w.pending.isSome = true)
    ∧ (let s := withWord node 1 { FaceWord.initial with address := some 18, active := some (supplied 63), state := .active }
       s.fsc.words[(0 : FaceIx)].suppliedActive = false ∧ 64 - s.fsc.poolUsed < 2)
    ∧ (2 ≤ 64 - node.fsc.poolUsed ∧ node.fsc.words[(0 : FaceIx)].state ≠ .offline ∧ node.fsc.words[(0 : FaceIx)].generatedActive = false)
    ∧ (withWord node 0 { FaceWord.initial with address := some 17, active := some (generated [.header]) }).fsc.words[(0 : FaceIx)].generatedActive
        = true
    ∧ (withWord node 0 { FaceWord.initial with address := some 17, state := .offline }).fsc.words[(0 : FaceIx)].state = .offline
    ∧ node.fcu.faces[(5 : FaceIx)].config = none ∧ node.fcu.faces[(0 : FaceIx)].config = some sign
    ∧ node.fcu.faces[(1 : FaceIx)].config = some door ∧ (15#8 : Byte).toNat ≤ 15 ∧ 15 < (16#8 : Byte).toNat := by decide +kernel

theorem witness_LoadAndWithdrawOfferAndOriginate :
    node.hpt.transaction = none ∧ node.pfl.node = .running ∧ (List.replicate 16 (0 : Byte)).length = 16
    ∧ ([0, 7, 0, 0, 0, 0] : List Byte).length = 6 ∧ node.plu.find (wordAt [0, 7, 0, 0, 0, 0] 0).toNat = none
    ∧ (withItems node [itemAt 7 500]).plu.find (wordAt [0, 7, 0, 0, 0, 0] 0).toNat = some (itemAt 7 500) ∧ (itemAt 7 500).revision ≠ 255
    ∧ { itemAt 7 500 with revision := 255 }.revision = 255 := by decide +kernel

theorem witness_ClockMusterAndConditionCommands :
    node.hpt.transaction = none ∧ node.pfl.node = .running
    ∧ (([1, 5, 160, 0] : List Byte).length = 4 ∧ 1439 < (wordAt [1, 5, 160, 0] 1).toNat ∧ (wordAt [1, 5, 159, 59] 1).toNat ≤ 1439
        ∧ (byteAt [1, 5, 159, 59] 3).toNat ≤ 59 ∧ 59 < (byteAt [1, 5, 159, 60] 3).toNat)
    ∧ (([2, 1, 63] : List Byte).length = 2 + (byteAt [2, 1, 63] 1).toNat ∧ phaseOfCode (byteAt [2, 1, 63] 0) = some .proceed
        ∧ 63 < (64#8 : Byte).toNat ∧ ¬ 63 < (63#8 : Byte).toNat ∧ phaseOfCode (byteAt [0, 0] 0) = none)
    ∧ (([10, 0x15, 7, 9] : List Byte).length = 4 ∧ byteAt [10, 0x15, 7, 9] 0 ≠ byteAt [10, 0x15, 7, 9] 1
        ∧ byteAt [255, 0x15, 7, 9] 0 = 255) := by decide +kernel

theorem witness_RestartReleaseAndAttentionLine :
    node.hpt.transaction = none ∧ node.pfl.node ≠ .starting ∧ node.hpt.restart = false
    ∧ (let x : Transaction := { response := [0xA5, 1, 0, 0], cut := .setMusterChange }
       4 ≤ 4 ∧ 3 < x.response.length ∧ x.cut = .setMusterChange)
    ∧ (let h : Hpt := { node.hpt with restart := true, transaction := some { response := [0xA5, 1, 0, 0], cut := .nothing } }
       h.restart = true ∧ h.transaction.any (fun x => x.cut != .nothing) = false) := by decide +kernel

/-- A profile with leg 0 a stair and leg 1 of an unknown kind, face 0 a sign, face 1 a second sign of its address, face 2 a door. -/
def fieldsProfile : List Byte :=
  [10] ++ List.replicate 49 0 ++ [0x15, 0, 5, 6, 0, 100, 1] ++ [0x16, 1, 6, 7, 0, 100, 0] ++ List.replicate 32 0
    ++ ([1, 17, 1, 2, 0, 2, 0] ++ List.replicate 25 0) ++ ([1, 17, 2, 1] ++ List.replicate 28 0) ++ ([2, 18, 0, 1] ++ List.replicate 28 0)
    ++ List.replicate 1856 0

theorem witness_ProfileFieldsAndRanges :
    fieldsProfile.length = 2048 ∧ (readProfile fieldsProfile).legs[(0 : LegIx)] = some stair
    ∧ (readProfile fieldsProfile).legs[(1 : LegIx)] = none ∧ (readProfile fieldsProfile).faces[(1 : FaceIx)] = none
    ∧ ((readProfile fieldsProfile).faces[(0 : FaceIx)]).map (·.address) = some 17
    ∧ ((readProfile fieldsProfile).faces[(2 : FaceIx)]).map (·.kind) = some (.door 0 0 0) := by decide +kernel

/-- 2048 bytes of a profile that passes: node id 10, all else 0, the sum in the last word. -/
def goodProfile : List Byte := [10] ++ List.replicate 2045 0 ++ [10, 0]

theorem witness_StartProfileReadAndFallback :
    State.reset.pfl.node = .starting ∧ State.reset.pfl.reading = true ∧ goodProfile.length = 2048
    ∧ byteAt goodProfile 0 ≠ 0 ∧ byteAt goodProfile 0 ≠ 255
    ∧ (let s : State := { State.reset with pfl := { State.reset.pfl with node := .fallback, page5Reading := true } }
       s.pfl.page5Reading = true)
    ∧ (let frame : List Byte := [0x5C, 1, 2, 0] ++ List.replicate 508 3
       frame.length = 512 ∧ byteAt frame 0 = 0x5C#8 ∧ 4 ≤ (wordAt frame 2).toNat ∧ (wordAt frame 2).toNat ≤ 512)
    ∧ (List.replicate 512 (0 : Byte)).length = 512 ∧ byteAt (List.replicate 512 (0 : Byte)) 0 ≠ 0x5C#8 := by decide +kernel

theorem witness_StartProfileReadAndFallback_good : profilePasses goodProfile = true := by decide +kernel

end Sys2Proof.Tests
end

section
/-! PROOFS. The Route Table Unit's arithmetic (R6 to R8) and its best selection (R15 to R17). -/

namespace Sys2Proof.Machine

/-! ### Pace factor and leg cost (R6 to R8) -/

theorem kindPace_bounds (k : LegKind) : 16 ≤ kindPace k ∧ kindPace k ≤ 48 := by
  cases k <;> decide

/-- R7: from a clear corridor to a smoky, fully crowded stair up. -/
theorem paceFactor_bounds (k : LegKind) {crowd : Nat} (smoke : Bool) (hcrowd : crowd ≤ 7) :
    16 ≤ paceFactor k crowd smoke ∧ paceFactor k crowd smoke ≤ 140 := by
  obtain ⟨hlo, hhi⟩ := kindPace_bounds k
  unfold paceFactor
  split <;> omega

/-- R8: the product of a base length and a pace factor, between its two extremes. -/
theorem length_mul_pace_bounds {L p : Nat} (hL : 1 ≤ L) (hL' : L ≤ 1023) (hp : 16 ≤ p) (hp' : p ≤ 140) :
    16 ≤ L * p ∧ L * p ≤ 143220 :=
  ⟨Nat.mul_le_mul hL hp, Nat.mul_le_mul hL' hp'⟩

theorem legCost_bounds {L p : Nat} (hlo : 16 ≤ L * p) (hhi : L * p ≤ 143220) : 1 ≤ legCost L p ∧ legCost L p ≤ 8951 := by
  unfold legCost
  omega

/-! ### Base lengths from the profile (R223, R224) -/

theorem clampTo_bounds {lo hi : Nat} (n : Nat) (h : lo ≤ hi) : lo ≤ clampTo lo hi n ∧ clampTo lo hi n ≤ hi :=
  ⟨le_max_left _ _, max_le h (min_le_left _ _)⟩

@[simp] theorem readProfile_legs (bytes : List Byte) (l : LegIx) :
    (readProfile bytes).legs[l] = readLegConfig (bytes.drop (50 + 7 * l.val)) :=
  tabulate_get _ l

/-- A configured leg's base length is its field of the profile, clamped (R224). -/
theorem readLegConfig_length {b : List Byte} {f : LegStatic} (h : readLegConfig b = some f) :
    f.length = clampTo 1 1023 (wordAt b 4).toNat := by
  unfold readLegConfig at h
  split at h
  · dsimp only at h
    split at h
    · cases h
    · cases h; rfl
  · cases h

/-- Settles O7: the rows of R6 are the definition's, the bounds those of the clamped fields and the kind paces. -/
theorem paceFactorAndLegCost : Obligations.PaceFactorAndLegCost := by
  refine ⟨fun crowd smoke => ⟨rfl, rfl, rfl, rfl, rfl, rfl⟩, fun k crowd smoke h => paceFactor_bounds k smoke h, ?_, ?_⟩
  · intro L p hL hL' hp hp'
    obtain ⟨hlo, hhi⟩ := length_mul_pace_bounds hL hL' hp hp'
    obtain ⟨hcost, hcost'⟩ := legCost_bounds hlo hhi
    exact ⟨rfl, hcost, hcost', hhi, by omega, by omega, by decide, by decide⟩
  · intro bytes l f h
    rw [readProfile_legs] at h
    rw [readLegConfig_length h]
    exact clampTo_bounds _ (by decide)

/-! ### The way out of lowest cost (R14, R15) -/

/-- M of R15 with only the legs `seen` gone over so far; `none` while HERE and those legs have no finite candidate. -/
structure LowestAmong (cands : Vector Cost 6) (anchor : Option Nat) (seen : List LegIx) (w : WayOut) (m : Nat) : Prop where
  way     : isWay cands anchor w m
  legSeen : ∀ l, w = .leg l → l ∈ seen
  here    : ∀ a, anchor = some a → m ≤ a
  legs    : ∀ l ∈ seen, ∀ c, cands[l] = .finite c → m ≤ c
  hereTie : anchor = some m → w = .here
  legTie  : ∀ l, w = .leg l → ∀ l' ∈ seen, cands[l'] = .finite m → l ≤ l'

/-- What `keepLower` holds after the legs `seen`: M among them and HERE, or nothing when none of these has a finite candidate. -/
def KeptAmong (cands : Vector Cost 6) (anchor : Option Nat) (seen : List LegIx) : Option (WayOut × Nat) → Prop
  | some (w, m) => LowestAmong cands anchor seen w m
  | none => anchor = none ∧ ∀ l ∈ seen, ∀ c, cands[l] ≠ .finite c

section
variable {cands : Vector Cost 6} {anchor : Option Nat} {seen : List LegIx} {w : WayOut} {b : Nat} {l : LegIx} {c : Nat}

/-- What holds of the legs gone over and of one more holds of all of them. -/
theorem forall_mem_concat {P : LegIx → Prop} (hseen : ∀ k ∈ seen, P k) (hl : P l) : ∀ k ∈ seen ++ [l], P k :=
  List.forall_mem_append.mpr ⟨hseen, List.forall_mem_singleton.mpr hl⟩

/-- Before any leg, HERE is the only candidate (R14). -/
theorem keptAmong_nil : KeptAmong cands anchor [] (anchor.map (fun a => (WayOut.here, a))) := by
  cases anchor with
  | none => exact ⟨rfl, by simp⟩
  | some a => exact { way := rfl, legSeen := by simp, here := by simp, legs := by simp, hereTie := by simp, legTie := by simp }

/-- The first leg with a finite candidate, when there is no HERE candidate, becomes M. -/
theorem lowestAmong_first (hc : cands[l] = .finite c) (hseen : ∀ k ∈ seen, ∀ c, cands[k] ≠ .finite c) :
    LowestAmong cands none (seen ++ [l]) (.leg l) c where
  way := hc
  legSeen := by simp
  here := by simp
  legs := forall_mem_concat (fun k hk c' hc' => absurd hc' (hseen k hk c')) fun c' hc' => (Cost.finite.inj (hc.symm.trans hc')).le
  hereTie := by simp
  legTie k hk := by
    obtain rfl : l = k := by simpa using hk
    exact forall_mem_concat (fun k' hk' hc' => absurd hc' (hseen k' hk' c)) fun _ => le_rfl

/-- A leg whose candidate is lower displaces M, and ties with none before it. -/
theorem LowestAmong.displaced (h : LowestAmong cands anchor seen w b) (hc : cands[l] = .finite c) (hlt : c < b) :
    LowestAmong cands anchor (seen ++ [l]) (.leg l) c where
  way := hc
  legSeen := by simp
  here a ha := hlt.le.trans (h.here a ha)
  legs := forall_mem_concat (fun k hk c' hc' => hlt.le.trans (h.legs k hk c' hc'))
    fun c' hc' => (Cost.finite.inj (hc.symm.trans hc')).le
  hereTie ha := absurd (h.here c ha) hlt.not_ge
  legTie k hk := by
    obtain rfl : l = k := by simpa using hk
    exact forall_mem_concat (fun k' hk' hc' => absurd (h.legs k' hk' c hc') hlt.not_ge) fun _ => le_rfl

/-- A leg whose candidate is not lower leaves M, which wins a tie by its lower index. -/
theorem LowestAmong.kept (h : LowestAmong cands anchor seen w b) (hlt : ∀ k ∈ seen, k < l)
    (hc : ∀ c, cands[l] = .finite c → b ≤ c) : LowestAmong cands anchor (seen ++ [l]) w b where
  way := h.way
  legSeen k hk := List.mem_append_left _ (h.legSeen k hk)
  here := h.here
  legs := forall_mem_concat h.legs hc
  hereTie := h.hereTie
  legTie k hk := forall_mem_concat (h.legTie k hk) fun _ => (hlt k (h.legSeen k hk)).le

/-- A leg without a finite candidate changes nothing. -/
theorem keepLower_of_not_finite (m : Option (WayOut × Nat)) (hc : ∀ c, cands[l] ≠ .finite c) : keepLower cands m l = m := by
  unfold keepLower
  split
  · exact absurd ‹_› (hc _)
  · exact absurd ‹_› (hc _)
  · rfl

theorem keepLower_none_of_finite (hc : cands[l] = .finite c) : keepLower cands none l = some (.leg l, c) := by
  simp only [keepLower, hc]

theorem keepLower_some_of_finite (hc : cands[l] = .finite c) :
    keepLower cands (some (w, b)) l = if c < b then some (.leg l, c) else some (w, b) := by
  simp only [keepLower, hc]

/-- One more leg, of a higher index than those before it. -/
theorem keptAmong_keepLower {m : Option (WayOut × Nat)} (h : KeptAmong cands anchor seen m) (hlt : ∀ k ∈ seen, k < l) :
    KeptAmong cands anchor (seen ++ [l]) (keepLower cands m l) := by
  by_cases hfin : ∃ c, cands[l] = .finite c
  · obtain ⟨c, hc⟩ := hfin
    cases m with
    | none =>
      obtain ⟨rfl, hseen⟩ := h
      rw [keepLower_none_of_finite hc]
      exact lowestAmong_first hc hseen
    | some m =>
      rw [keepLower_some_of_finite hc]
      split
      next hcb => exact LowestAmong.displaced h hc hcb
      next hcb => exact LowestAmong.kept h hlt fun c' hc' => not_lt.mp (Cost.finite.inj (hc.symm.trans hc') ▸ hcb)
  · rw [not_exists] at hfin
    rw [keepLower_of_not_finite m hfin]
    cases m with
    | none =>
      obtain ⟨hanchor, hseen⟩ := h
      exact ⟨hanchor, forall_mem_concat hseen hfin⟩
    | some m => exact LowestAmong.kept h hlt fun c hc => absurd hc (hfin c)

theorem keptAmong_foldl (ls : List LegIx) (hsorted : ls.Pairwise (· < ·)) :
    KeptAmong cands anchor ls (ls.foldl (keepLower cands) (anchor.map (fun a => (WayOut.here, a)))) := by
  induction ls using List.reverseRecOn with
  | nil => exact keptAmong_nil
  | append_singleton ls l ih =>
    obtain ⟨hls, -, hlt⟩ := List.pairwise_append.mp hsorted
    rw [List.foldl_append]
    exact keptAmong_keepLower (ih hls) fun k hk => hlt k hk l (List.mem_singleton_self l)

theorem indices_sorted (n : Nat) : (indices n).Pairwise (· < ·) :=
  List.pairwise_ofFn.mpr fun _ _ h => h

theorem keptAmong_lowest (cands : Vector Cost 6) (anchor : Option Nat) : KeptAmong cands anchor (indices 6) (lowest cands anchor) :=
  keptAmong_foldl _ (indices_sorted 6)

/-- With all six legs gone over, M is that of R15. -/
theorem LowestAmong.isLowest {m : Nat} (h : LowestAmong cands anchor (indices 6) w m) : IsLowest cands anchor w m where
  way := h.way
  lowest w' c hc := by
    cases w' with
    | leg l => exact h.legs l (mem_indices l) c hc
    | here => exact h.here c hc
    | none => exact hc.elim
  hereTie := h.hereTie
  legTie l l' hl hl' := h.legTie l hl l' (mem_indices l') hl'

theorem isLowest_of_lowest_eq_some {m : Nat} (h : lowest cands anchor = some (w, m)) : IsLowest cands anchor w m := by
  have hkept := keptAmong_lowest cands anchor
  rw [h] at hkept
  exact LowestAmong.isLowest hkept

theorem not_isWay_of_lowest_eq_none (h : lowest cands anchor = none) : ¬ isWay cands anchor w c := by
  have hkept := keptAmong_lowest cands anchor
  rw [h] at hkept
  obtain ⟨rfl, hlegs⟩ := hkept
  cases w with
  | leg l => exact hlegs l (mem_indices l) c
  | here => exact nofun
  | none => exact id

/-- No M exists exactly when no candidate is finite (R16). -/
theorem lowest_eq_none_iff : lowest cands anchor = none ↔ ∀ w c, ¬ isWay cands anchor w c := by
  refine ⟨fun h _ _ => not_isWay_of_lowest_eq_none h, fun h => ?_⟩
  cases hm : lowest cands anchor with
  | none => rfl
  | some m => exact absurd (isLowest_of_lowest_eq_some hm).way (h _ _)

/-! ### Best selection (R16, R17) -/

/-- C of R17 is the finite candidate of the current best leg. -/
theorem currentFinite_eq_some_iff : currentFinite cands anchor w = some c ↔ isWay cands anchor w c := by
  cases w with
  | leg l =>
    simp only [currentFinite, isWay]
    cases cands[l] <;> simp
  | here => rfl
  | none => simp [currentFinite, isWay]

theorem currentFinite_eq_none_iff : currentFinite cands anchor w = none ↔ ∀ c, ¬ isWay cands anchor w c := by
  simp only [Option.eq_none_iff_forall_ne_some, ne_eq, currentFinite_eq_some_iff]

theorem select_of_lowest_eq_none {margin : Nat} {cur : WayOut} (h : lowest cands anchor = none) :
    select margin cands anchor cur = (.none, if ∃ l : LegIx, cands[l] = .unknown then .unknown else .unreachable) := by
  simp [select, h]

theorem select_of_current_not_finite {margin m : Nat} {cur : WayOut} (h : lowest cands anchor = some (w, m))
    (hcur : currentFinite cands anchor cur = none) : select margin cands anchor cur = (w, .finite m) := by
  simp only [select, h, hcur]

theorem select_of_current_finite {margin m : Nat} {cur : WayOut} (h : lowest cands anchor = some (w, m))
    (hcur : currentFinite cands anchor cur = some c) :
    select margin cands anchor cur = if m + margin < c then (w, .finite m) else (cur, .finite c) := by
  simp only [select, h, hcur]

end

/-- Settles O9: by whether `lowest` finds M, then by whether the current best leg has a finite candidate. -/
theorem bestSelectionKeepsCurrentWithinMargin : Obligations.BestSelectionKeepsCurrentWithinMargin := by
  intro margin cands anchor cur
  constructor
  · intro hnone
    rw [select_of_lowest_eq_none (lowest_eq_none_iff.mpr hnone)]
    exact ⟨fun hunknown => by rw [if_pos hunknown], fun hall => by simp [hall]⟩
  · rintro ⟨w', c', hway⟩
    cases hm : lowest cands anchor with
    | none => exact absurd hway (not_isWay_of_lowest_eq_none hm)
    | some M =>
      obtain ⟨w, m⟩ := M
      refine ⟨w, m, isLowest_of_lowest_eq_some hm, by omega, ?_, ?_⟩
      · exact fun hcur => select_of_current_not_finite hm (currentFinite_eq_none_iff.mpr hcur)
      · intro c hcur
        rw [select_of_current_finite hm (currentFinite_eq_some_iff.mpr hcur)]
        exact ⟨fun hbeaten => if_pos hbeaten, fun hwithin => if_neg hwithin.not_gt⟩

end Sys2Proof.Machine
end

section
/-! PROOFS. The Advert Unit's entry conversion, row by row of the table of R93. -/

namespace Sys2Proof.Machine

/-! ### Entry conversion (R93) -/

section
variable {me via : Byte} {c : Word}

/-- The first row's costs: above every finite cost, below the words of UNKNOWN and UNREACHABLE. -/
def OutOfRange (c : Word) : Prop := Config.maxFiniteCost < c.toNat ∧ c.toNat < 65534

theorem outOfRange_iff : OutOfRange c ↔ 60001 ≤ c.toNat ∧ c.toNat ≤ 65533 :=
  and_congr Iff.rfl Nat.lt_succ_iff

theorem not_outOfRange_iff : ¬ OutOfRange c ↔ c.toNat ≤ 60000 ∨ 65534 ≤ c.toNat := by
  rw [outOfRange_iff]
  omega

theorem convertEntry_of_outOfRange (h : OutOfRange c) : convertEntry me { cost := c, via := via } = .unreachable := if_pos h

/-- Poisoned reverse, the second row. -/
theorem convertEntry_of_via_self (h : ¬ OutOfRange c) (hvia : via = me) : convertEntry me { cost := c, via := via } = .unreachable :=
  (if_neg h).trans (if_pos hvia)

/-- Past the first two rows the cost alone decides. -/
theorem convertEntry_of_via_ne (h : ¬ OutOfRange c) (hvia : via ≠ me) :
    convertEntry me { cost := c, via := via } =
      if c.toNat = 65534 then .unknown else if c.toNat = 65535 then .unreachable else .finite c.toNat :=
  (if_neg h).trans (if_neg hvia)

end

/-- Settles O29: by the rows of R93 in order; the last three, of an entry not poisoned, by its cost. -/
theorem advertEntryConversion : Obligations.AdvertEntryConversion := by
  intro me via c
  refine ⟨fun hlo hhi => convertEntry_of_outOfRange (outOfRange_iff.mpr ⟨hlo, hhi⟩), fun hrange => ?_⟩
  have hin : ¬ OutOfRange c := not_outOfRange_iff.mpr hrange
  refine ⟨convertEntry_of_via_self hin, fun hvia => ?_⟩
  rw [convertEntry_of_via_ne hin hvia]
  refine ⟨fun hunknown => if_pos hunknown, fun hunreachable => ?_, fun hfinite => ?_⟩
  · rw [if_neg (by omega), if_pos hunreachable]
  · rw [if_neg (by omega), if_neg (by omega)]

end Sys2Proof.Machine
end

section
/-! PROOFS. The Muster Controller's serial order of epochs (R106) and the adoption rule that reads it (R107). -/

namespace Sys2Proof.Machine

/-! ### Serial order of epochs (R106) -/

section
variable {e1 e2 : Word}

theorem epochNewer_iff : epochNewer e2 e1 = true ↔ 1 ≤ (e2 - e1).toNat ∧ (e2 - e1).toNat ≤ 32767 := by
  simp only [epochNewer, Bool.and_eq_true, decide_eq_true_eq]

/-- The distances of two epochs either way are the two arcs of one turn of 65536. -/
theorem toNat_sub_swap (e1 e2 : Word) : (e1 - e2).toNat = (65536 - (e2 - e1).toNat) % 65536 := by
  rw [← neg_sub, BitVec.toNat_neg]

theorem toNat_sub_eq_zero_iff : (e2 - e1).toNat = 0 ↔ e2 = e1 :=
  (BitVec.toNat_eq (y := 0)).symm.trans sub_eq_zero

/-- Older, by the distance the other way. -/
theorem epochNewer_swap_iff : epochNewer e1 e2 = true ↔ 32769 ≤ (e2 - e1).toNat := by
  have hlt : (e2 - e1).toNat < 65536 := (e2 - e1).isLt
  rw [epochNewer_iff, toNat_sub_swap]
  omega

/-- Half a turn apart, neither epoch is newer and they differ. -/
theorem epochs_unordered_of_half_turn (h : (e2 - e1).toNat = 32768) :
    epochNewer e2 e1 = false ∧ epochNewer e1 e2 = false ∧ e2 ≠ e1 := by
  rw [← Bool.not_eq_true, ← Bool.not_eq_true, epochNewer_iff, epochNewer_swap_iff, ne_eq, ← toNat_sub_eq_zero_iff]
  omega

/-! ### The adoption rule (R107) -/

/-- A record that holds an epoch adopts a newer one, or its own from a lower origin. -/
theorem adopts_iff_of_epoch {m : Muc} {o : Byte} (h : m.epoch = some e1) :
    m.adopts e2 o = true ↔ epochNewer e2 e1 = true ∨ (e2 = e1 ∧ o.toNat < m.origin.toNat) := by
  simp only [Muc.adopts, h, Bool.or_eq_true, Bool.and_eq_true, beq_iff_eq, decide_eq_true_eq]

theorem not_adopts_of_half_turn {m : Muc} (hepoch : m.epoch = some e1) (h : (e2 - e1).toNat = 32768) (o : Byte) :
    m.adopts e2 o = false := by
  obtain ⟨hnewer, -, hne⟩ := epochs_unordered_of_half_turn h
  rw [← Bool.not_eq_true, adopts_iff_of_epoch hepoch]
  rintro (hnewer' | ⟨heq, -⟩)
  · exact absurd hnewer' (Bool.eq_false_iff.mp hnewer)
  · exact hne heq

end

/-- Settles O32: both orders read off one distance, 0 and half a turn standing outside both. -/
theorem epochSerialOrder : Obligations.EpochSerialOrder := fun _ _ =>
  ⟨epochNewer_iff, epochNewer_swap_iff, toNat_sub_eq_zero_iff, epochs_unordered_of_half_turn,
    fun _ hepoch h o => not_adopts_of_half_turn hepoch h o⟩

end Sys2Proof.Machine
end

section
/-! PROOFS. The machine as a whole: what a step runs, and the values right after START. -/

namespace Sys2Proof.Machine

set_option Elab.async false

/-! ### A step -/

section
variable {s : State}

theorem step_of_pending {c : Instr} {rest : List Instr} (h : s.pending = c :: rest) :
    step s = exec c { s with pending := rest } := by
  simp only [step, h]

theorem step_of_handoff {e : Instr} {es : List Instr} (hp : s.pending = []) (hh : s.handoffs = e :: es) :
    step s = exec e s := by
  simp only [step, hp, hh]

theorem step_of_nothing_waiting (hp : s.pending = []) (hh : s.handoffs = []) : step s = .next s.idle := by
  simp only [step, hp, hh]

theorem idle_of_choice {c : Candidate} (h : s.choice = some c) : s.idle = s.takeCandidate c := by
  simp only [State.idle, h]

theorem idle_of_no_choice (h : s.choice = none) : s.idle = s.tick := by
  simp only [State.idle, h]

/-- A second takes one from the stand-down timer, down to its last. -/
theorem Muc.tick_eq (m : Muc) : m.tick = { m with standDown := if m.standDown ≤ 1 then m.standDown else m.standDown - 1 } := by
  unfold Muc.tick
  by_cases h : m.standDown ≤ 1
  · rw [if_pos h, if_neg (by omega)]
  · rw [if_neg h, if_pos (by omega)]

end

/-- Settles O1: `step` by what waits, `State.idle` by the arbiter's choice. -/
theorem stepRunsFrontCommand : Obligations.StepRunsFrontCommand := by
  refine ⟨fun c rest s h => step_of_pending h, fun s hp => ⟨fun e es hh => step_of_handoff hp hh, fun hh => ⟨?_, ?_⟩⟩⟩
  · intro c hc
    rw [step_of_nothing_waiting hp hh, idle_of_choice hc]
  · intro hc
    rw [step_of_nothing_waiting hp hh, idle_of_no_choice hc, State.tick, Muc.tick_eq]

/-! ### Right after START -/

/-- A table that holds one value everywhere. -/
@[simp] theorem replicate_get {α : Type} {n : Nat} (a : α) (i : Fin n) : (Vector.replicate n a)[i] = a :=
  Vector.getElem_replicate i.isLt

theorem word_initial (f : FaceIx) : Fsc.initial.words[f] = FaceWord.initial := replicate_get _ _

theorem poolUsed_initial : Fsc.initial.poolUsed = 0 := by
  simp only [Fsc.poolUsed, word_initial]
  decide

theorem costsOk_reset : CostsOk State.reset where
  horizon := by decide
  listed a ha := by simp [State.reset, Pfl.initial, Profile.blank] at ha
  best d n h := by simp [State.reset, Rtu.initial, Entry.initial] at h
  adv d l n h := by simp [State.reset, Rtu.initial, Entry.initial] at h
  anchor d a h := by simp [State.reset, Rtu.initial, Entry.initial] at h
  empty _ d := by simp [State.reset, Rtu.initial, Entry.initial]

theorem limits_reset : Limits State.reset where
  ring := by decide
  notices := by decide
  items := ⟨by decide, List.Pairwise.nil⟩
  queueDA := by decide
  queueDB := by decide
  clock := by decide
  muster := by decide
  crowds l := by simp [State.reset, Lgm.initial, LegRecord.initial]
  zones := by decide
  alarms p hop a h := by simp [State.reset] at h
  timer := by decide
  pool := poolUsed_initial.trans_le (Nat.zero_le _)
  costs := costsOk_reset

/-- No slot holds a page, no page is awaited, nothing is fetched. -/
theorem cacheOk_initial : CacheOk Pca.initial where
  slots i j hi := by simp [Pca.initial, CacheSlot.vacant] at hi
  queued e he := absurd he List.not_mem_nil
  once := List.nodup_nil
  awaited e he := absurd he List.not_mem_nil
  filling i := by simp [Pca.initial, CacheSlot.vacant]
  waiters i _ := by simp [Pca.initial, CacheSlot.vacant]
  free i _ := by simp [Pca.initial, CacheSlot.vacant]

theorem waitsFor_initial (f : FaceIx) (page : Nat) : waitsFor Pca.initial f page = 0 := by
  simp [waitsFor, Pca.initial, CacheSlot.vacant]

theorem wordOk_initial : WordOk FaceWord.initial := ⟨nofun, fun _ => ⟨rfl, rfl⟩, nofun, fun _ h => nomatch h⟩

theorem pinsOk_reset : PinsOk State.reset where
  cache := cacheOk_initial
  words f := (word_initial f).symm ▸ wordOk_initial
  pins i h := by simp [State.reset, Pca.initial, CacheSlot.vacant] at h
  started f r h := by simp [State.reset, Fsc.initial, FaceWord.initial] at h
  drawn f r h := nomatch h
  waiting f page := (waitsFor_initial f page).trans (by simp [State.reset, Fsc.initial, FaceWord.initial])
  unread _ := ⟨rfl, word_initial⟩
  load := by decide

/-- Settles O5. -/
theorem limitsAndPinsHoldAtReset : Obligations.LimitsAndPinsHoldAtReset := ⟨limits_reset, pinsOk_reset⟩

theorem PerPort.get_both {α : Type} (x : α) (p : Port) : ({ da := x, db := x } : PerPort α).get p = x := by
  cases p <;> rfl

/-- Settles O6: every table of the start values holds one value everywhere. -/
theorem resetHoldsStartValues : Obligations.ResetHoldsStartValues := by
  unfold Obligations.ResetHoldsStartValues
  simp only [State.reset, Rtu.initial, Lgm.initial, Dlc.initial, Adu.initial, Fcu.initial, Fsc.initial, Pca.initial, replicate_get,
    PerPort.get_both, LinkPort.initial, AduPort.initial, FaceState.initial, nothingDrawn]
  simp [Entry.initial, LegRecord.initial, Slot.vacant, Pfl.initial, Muc.initial, Sck.initial, Plu.initial, FaceWord.initial,
    CacheSlot.vacant, Hpt.initial]
  exact ⟨poolUsed_initial, rfl⟩

end Sys2Proof.Machine
end

section
/-! PROOFS. The frame of every command: the parts of the state it can touch (95, "What each step holds"). -/

namespace Sys2Proof.Machine

set_option Elab.async false

/-- The parts of the state a command can touch. A host command first closes a transaction still open, which can carry a RESTART. -/
def touched : Instr → List Block
  | .start => [.rtu, .lgm, .adu, .dlc, .muc, .sck, .plu, .fcu, .fsc, .pca, .hpt, .pfl, .handoffs]
  | .profileReadEnd _ | .profileFrameNotReady _ => [.dlc, .muc, .plu, .fcu, .fsc, .pca, .hpt, .pfl, .handoffs]
  | .fallbackPageReadEnd _ => [.pfl]
  | .rtuProfileLoad | .advertisedCostWrite _ _ _ | .legReport _ => [.rtu, .handoffs]
  | .lgmProfileLoad => [.lgm, .dlc, .hpt, .handoffs]
  | .aduProfileLoad | .changedFlagReport _ _ => [.adu, .dlc, .handoffs]
  | .advertTick => [.adu, .dlc]
  | .gapTimerExpiry _ => [.adu]
  | .mucProfileLoad => [.muc, .dlc, .hpt, .handoffs]
  | .fcuProfileLoad | .faceBackOnline _ | .languageRotationExpiry | .recordCompleted _ _ | .recordNotCompleted _ _ => [.fcu, .handoffs]
  | .fscProfileLoad | .demand _ _ | .candidateAging _ _ | .pollDue _ | .faceReply _ | .replyWaitExpiry | .musterAdoptionFsc
  | .fetchHeaderRead _ _ _ _ | .fetchNoAnswer | .fetchEndGood _ => stringBlocks
  | .returnToQuietFcu => [.fcu, .fsc, .handoffs]
  | .pcaProfileLoad | .advertReceipt _ _ | .changedDestinationReport _ | .programmeReport _ _ _ | .minuteEventFcu _ _ | .musterReportFcu
  | .privacyChange _ | .suppliedChainEnded _ | .heldPageFaultReport => [.handoffs]
  | .frameArrival _ _ _ => [.dlc, .hpt, .handoffs]
  | .transmissionStart _ => [.rtu, .adu, .dlc]
  | .collision _ => [.adu, .dlc, .hpt, .freeCount]
  | .backoffExpiry _ | .transmissionComplete _ => [.dlc]
  | .advertArrival _ | .silenceTimerExpiry _ => [.lgm, .hpt, .handoffs]
  | .doorInputChange _ _ => [.lgm]
  | .doorLevelTaken _ => [.lgm, .dlc, .hpt, .handoffs]
  | .conditionApply _ | .crowdLifetimeExpiry _ | .musterReportLgm | .returnToQuietLgm => [.lgm, .handoffs]
  | .alarmReceipt _ _ _ => [.muc, .hpt, .handoffs, .dlc]
  | .repeatTimerExpiry => [.dlc, .hpt]
  | .standDownTimerExpiry => [.muc, .hpt, .handoffs]
  | .secondsTimerExpiry | .clockFrameReceipt _ => [.sck, .handoffs]
  | .minuteEventPlu _ _ => [.plu, .handoffs]
  | .programmeOffer _ => [.plu, .handoffs, .hpt]
  | .holdRequest _ | .releaseRequest _ => [.pca, .handoffs]
  | .unknownCommand _ _ | .status _ | .readNotice _ | .readMuster _ | .readRoute _ | .readLeg _ | .readFace _ | .startFaceChain _
  | .haltFace _ | .releaseFace _ | .setFaceLanguage _ | .loadItem _ | .withdrawItem _ | .setClock _ | .raisePhase _ | .setCondition _
  | .restart _ | .selectRelease _ => hostBlocks

/-! ### Outcomes -/

theorem completes_next {t : State} {post : State → Prop} (h : post t) : Completes (.next t) post := ⟨t, rfl, h⟩

theorem Completes.mono {o : Out} {P Q : State → Prop} (h : Completes o P) (hPQ : ∀ t, P t → Q t) : Completes o Q := by
  obtain ⟨t, rfl, ht⟩ := h
  exact completes_next (hPQ t ht)

theorem Completes.ite {c : Prop} [Decidable c] {a b : Out} {post : State → Prop} (ha : c → Completes a post) (hb : ¬ c → Completes b post) :
    Completes (if c then a else b) post := by
  split
  · exact ha ‹_›
  · exact hb ‹_›

/-- An update that leaves the notices and every part outside a list as they are. -/
theorem Within.of_updates {B : List Block} {s t : State} (hB : Frame.only B s t) (hn : t.hpt.notices = s.hpt.notices) : Within B s t :=
  Within.ofEq hB hn

/-- The command taken off the hand-offs first. -/
theorem Within.after_take {B : List Block} {s t : State} (e : Instr) (h : Within B (s.take e) t) (hB : Block.handoffs ∈ B) :
    Within B s t :=
  ((take_within s e).mono (by simpa using hB)).trans h

section
variable {s : State}

/-! ### Profile loader -/

theorem start_within (s : State) : Within (touched .start) s s.start :=
  ⟨fun b hb => by cases b <;> first | rfl | exact absurd (by simp [touched]) hb, fun _ => Nat.zero_le _⟩

theorem enterFallback_within (s : State) (id : Byte) : Within (touched (.profileReadEnd none)) s (s.enterFallback id) :=
  ⟨fun b hb => by cases b <;> first | rfl | exact absurd (by simp [touched]) hb, fun _ => by simp [State.enterFallback, noticesOk]⟩

theorem enterRunning_within (s : State) (b : List Byte) : Within (touched (.profileReadEnd none)) s (s.enterRunning b) :=
  .ofEq (fun b hb => by cases b <;> first | rfl | exact absurd (by simp [touched]) hb) rfl

theorem execProfileReadEnd_within (m : Option (List Byte)) (s : State) :
    Completes (execProfileReadEnd m s) (Within (touched (.profileReadEnd m)) s) := by
  refine completes_next (Within.ite ?_ (.refl _ s))
  cases m.filter profilePasses with
  | none => exact enterFallback_within s _
  | some b => exact enterRunning_within s b

/-! ### Deck links -/

theorem execFrameArrival_within (p : Port) (w : Bool) (bytes : List Byte) (s : State) :
    Completes (execFrameArrival p w bytes s) (Within (touched (.frameArrival p w bytes)) s) := by
  unfold execFrameArrival
  cases readFrame bytes with
  | none => exact completes_next (.refl _ s)
  | some a =>
    cases s.pfl.node with
    | starting => exact completes_next (.refl _ s)
    | running => exact completes_next (arriveRunning_within s p w a)
    | fallback => exact completes_next (arriveFallback_within s p w a)

theorem execTransmissionStart_within (p : Port) (s : State) :
    Completes (execTransmissionStart p s) (Within (touched (.transmissionStart p)) s) := by
  unfold execTransmissionStart
  dsimp only
  split
  · exact completes_next (((setPort_within s p _).mono (by simp [touched])).trans ((marksOnStart_within _ p _).mono (by simp [touched])))
  · exact completes_next (.refl _ s)

theorem execCollision_within (p : Port) (s : State) : Completes (execCollision p s) (Within (touched (.collision p)) s) := by
  unfold execCollision
  dsimp only
  split
  · exact completes_next ((((setPort_within s p _).mono (by simp [touched])).trans
      ((spendFree_within _).mono (by simp [touched]))).trans ((afterCollision_within _ p _).mono (by simp [touched])))
  · exact completes_next (.refl _ s)

theorem execBackoffExpiry_within (p : Port) (s : State) : Completes (execBackoffExpiry p s) (Within (touched (.backoffExpiry p)) s) := by
  unfold execBackoffExpiry
  dsimp only
  split
  · exact completes_next (setPort_within s p _)
  · exact completes_next (.refl _ s)

theorem execTransmissionComplete_within (p : Port) (s : State) :
    Completes (execTransmissionComplete p s) (Within (touched (.transmissionComplete p)) s) := by
  unfold execTransmissionComplete
  dsimp only
  split
  · exact completes_next (setPort_within s p _)
  · exact completes_next (.refl _ s)

/-! ### Adverts and routes -/

theorem execAduProfileLoad_within (s : State) : Completes (execAduProfileLoad s) (Within (touched .aduProfileLoad) s) := by
  have hstart : Within (touched .aduProfileLoad) s
      { s.take .aduProfileLoad with adu := { (s.take .aduProfileLoad).adu with tickRunning := true } } :=
    .ofEq (fun b hb => by cases b <;> first | rfl | exact absurd (by simp [touched]) hb) rfl
  refine .ite (fun _ => completes_next ?_) (fun _ => completes_next ((take_within s _).mono (by simp [touched])))
  exact (hstart.trans ((urgeChanged_within _ .da).mono (by simp [touched]))).trans
    ((urgeChanged_within _ .db).mono (by simp [touched]))

theorem execAdvertReceipt_within (p : Port) (f : AdvertFrame) (s : State) :
    Completes (execAdvertReceipt p f s) (Within (touched (.advertReceipt p f)) s) := by
  refine .ite (fun _ => ?_) (fun _ => completes_next (take_within s _))
  split
  · exact completes_next ((take_within s _).trans (handOffs_within _ _))
  · exact completes_next (take_within s _)

theorem execChangedFlagReport_within (p : Port) (d : DestIx) (s : State) :
    Completes (execChangedFlagReport p d s) (Within (touched (.changedFlagReport p d)) s) :=
  .ite (fun _ => completes_next (.after_take (.changedFlagReport p d) ((markUrgent_within _ p _).mono (by simp [touched])) (by simp [touched])))
    (fun _ => completes_next ((take_within s _).mono (by simp [touched])))

theorem execRtuProfileLoad_within (s : State) : Completes (execRtuProfileLoad s) (Within (touched .rtuProfileLoad) s) := by
  refine .ite (fun _ => completes_next (.refl _ s)) (fun _ => .ite (fun _ => completes_next ?_)
    (fun _ => completes_next ((take_within s _).mono (by simp [touched]))))
  refine .trans ?_ ((fullRecompute_within _).mono (by simp [touched]))
  exact .ofEq (fun b hb => by cases b <;> first | rfl | exact absurd (by simp [touched]) hb) rfl

theorem execAdvertisedCostWrite_within (l : LegIx) (d : DestIx) (v : Cost) (s : State) :
    Completes (execAdvertisedCostWrite l d v s) (Within (touched (.advertisedCostWrite l d v)) s) := by
  refine .ite (fun _ => completes_next ?_) (fun _ => completes_next ((take_within s _).mono (by simp [touched])))
  refine .after_take (.advertisedCostWrite l d v) (.trans ?_ (recompute_within _ [d])) (by simp [touched])
  exact .ofEq (fun b hb => by cases b <;> first | rfl | exact absurd (by simp [touched]) hb) rfl

theorem execLegReport_within (r : LegReport) (s : State) : Completes (execLegReport r s) (Within (touched (.legReport r)) s) := by
  refine .ite (fun _ => completes_next (.after_take (.legReport r) ?_ (by simp [touched])))
    (fun _ => completes_next ((take_within s _).mono (by simp [touched])))
  have hwrite : ∀ u : State, ∀ x : Rtu, Within [.rtu, .handoffs] u { u with rtu := x } := fun u x =>
    .ofEq (fun b hb => by cases b <;> first | rfl | exact absurd (by simp) hb) rfl
  exact .ite ((hwrite _ _).trans (fullRecompute_within _)) (hwrite _ _)

/-! ### Legs -/

theorem announceDoor_within (s : State) (l : LegIx) : Within [.lgm, .dlc, .hpt] s (s.announceDoor l) :=
  .ite (originateDoor_within s l) (.refl _ s)

theorem execLgmProfileLoad_within (s : State) : Completes (execLgmProfileLoad s) (Within (touched .lgmProfileLoad) s) := by
  refine .ite (fun _ => completes_next ?_) (fun _ => completes_next ((take_within s _).mono (by simp [touched])))
  refine .trans ?_ ((Within.foldl announceDoor_within _ _).mono (by simp [touched]))
  exact .ofEq (fun b hb => by cases b <;> first | rfl | exact absurd (by simp [touched]) hb) rfl

theorem execAdvertArrival_within (l : LegIx) (s : State) : Completes (execAdvertArrival l s) (Within (touched (.advertArrival l)) s) := by
  refine .ite (fun _ => completes_next ?_) (fun _ => completes_next ((take_within s _).mono (by simp [touched])))
  have hmove : ∀ r es, Within (touched (.advertArrival l)) s ((s.setLeg l r).takeGiving (.advertArrival l) es) := fun r es =>
    ((setLeg_within s l r).mono (by simp [touched])).trans ((takeGiving_within _ _ _).mono (by simp [touched]))
  exact .ite ((hmove _ _).trans ((notice_within _ _).mono (by simp [touched]))) (hmove _ _)

theorem execSilenceTimerExpiry_within (l : LegIx) (s : State) :
    Completes (execSilenceTimerExpiry l s) (Within (touched (.silenceTimerExpiry l)) s) :=
  .ite (fun _ => completes_next ((((setLeg_within s l _).mono (by simp [touched])).trans
    ((handAhead_within _ _ _).mono (by simp [touched]))).trans ((notice_within _ _).mono (by simp [touched]))))
    (fun _ => completes_next (.refl _ s))

theorem setDoor_within (s : State) (l : LegIx) (d : DoorInput) : Within [.lgm] s (s.setDoor l d) :=
  .ofEq (fun b hb => by cases b <;> first | rfl | exact absurd (by simp) hb) rfl

theorem execDoorLevelTaken_within (l : LegIx) (s : State) :
    Completes (execDoorLevelTaken l s) (Within (touched (.doorLevelTaken l)) s) := by
  refine .ite (fun _ => completes_next ?_) (fun _ => completes_next (.refl _ s))
  refine .trans ((setDoor_within s l _).mono (by simp [touched])) (.ite (.refl _ _) ?_)
  exact ((changeLeg_within _ l _).mono (by simp [touched])).trans ((originateDoor_within _ l).mono (by simp [touched]))

/-! ### Muster and clock -/

theorem execMucProfileLoad_within (s : State) : Completes (execMucProfileLoad s) (Within (touched .mucProfileLoad) s) := by
  refine .ite (fun _ => completes_next ?_) (fun _ => completes_next ((take_within s _).mono (by simp [touched])))
  refine .after_take .mucProfileLoad (.trans ((placeAlarm_within _).mono (by simp [touched])) ?_) (by simp [touched])
  exact .ofEq (fun b hb => by cases b <;> first | rfl | exact absurd (by simp [touched]) hb) rfl

theorem execAlarmReceipt_within (p : Port) (hop : Nat) (a : AlarmBody) (s : State) :
    Completes (execAlarmReceipt p hop a s) (Within (touched (.alarmReceipt p hop a)) s) := by
  have htake : Within (touched (.alarmReceipt p hop a)) s (s.take (.alarmReceipt p hop a)) := (take_within s _).mono (by simp [touched])
  unfold execAlarmReceipt
  cases phaseOfCode a.phaseCode with
  | none => exact completes_next htake
  | some ph =>
    exact .ite (fun _ => completes_next (htake.trans (((adopt_within _ _ _ _ _).mono (by simp [touched])).trans
      ((relay_within _ _ _ _ _ _).mono (by simp [touched]))))) (fun _ => completes_next htake)

theorem execStandDownTimerExpiry_within (s : State) :
    Completes (execStandDownTimerExpiry s) (Within (touched .standDownTimerExpiry) s) := by
  refine .ite (fun _ => completes_next ?_) (fun _ => completes_next (.refl _ s))
  have hquiet : Within (touched .standDownTimerExpiry) s ({ s with muc := s.muc.toQuiet } : State).setMusterChange :=
    .ofEq (fun b hb => by cases b <;> first | rfl | exact absurd (by simp [touched]) hb) rfl
  exact .ite (hquiet.trans ((handOffs_within _ _).mono (by simp [touched]))) hquiet

theorem execMinuteEventPlu_within (old : Option Nat) (new : Nat) (s : State) :
    Completes (execMinuteEventPlu old new s) (Within (touched (.minuteEventPlu old new)) s) := by
  have htake : Within (touched (.minuteEventPlu old new)) s (s.take (.minuteEventPlu old new)) := (take_within s _).mono (by simp [touched])
  have hplu : ∀ u : State, ∀ x, Within (touched (.minuteEventPlu old new)) u { u with plu := x } := fun u x =>
    .ofEq (fun b hb => by cases b <;> first | rfl | exact absurd (by simp [touched]) hb) rfl
  unfold execMinuteEventPlu
  dsimp only
  split
  · exact completes_next ((htake.trans (hplu _ _)).trans ((handOffs_within _ _).mono (by simp [touched])))
  · exact completes_next (htake.trans (hplu _ _))
  · exact completes_next htake

/-! ### Faces -/

theorem execFcuProfileLoad_within (s : State) : Completes (execFcuProfileLoad s) (Within (touched .fcuProfileLoad) s) := by
  refine .ite (fun _ => completes_next ?_) (fun _ => completes_next ((take_within s _).mono (by simp [touched])))
  refine .trans ?_ ((recomputeFaces_within _ _).mono (by simp [touched]))
  exact .ofEq (fun b hb => by cases b <;> first | rfl | exact absurd (by simp [touched]) hb) rfl

/-- A command of the FCU that recomputes some faces in RUNNING (R162). -/
theorem take_recomputeFaces_within (e : Instr) (which : FaceConfig → Bool) (s : State) :
    Within [.handoffs] s (if (s.take e).running then (s.take e).recomputeFaces which else s.take e) :=
  (take_within s e).trans (.ite (recomputeFaces_within _ _) (.refl _ _))

theorem take_recomputeFace_within (e : Instr) (f : FaceIx) (s : State) :
    Within [.handoffs] s (if (s.take e).running then (s.take e).recomputeFace f else s.take e) :=
  (take_within s e).trans (.ite (recomputeFace_within _ _) (.refl _ _))

theorem execReturnToQuietFcu_within (s : State) : Completes (execReturnToQuietFcu s) (Within (touched .returnToQuietFcu) s) := by
  refine completes_next (.after_take .returnToQuietFcu (.ite ?_ (.refl _ _)) (by simp [touched]))
  refine .trans ?_ ((recomputeFaces_within _ _).mono (by simp [touched]))
  exact .ofEq (fun b hb => by cases b <;> first | rfl | exact absurd (by simp [touched]) hb) rfl

/-! ### The face string and the page cache -/

theorem execFscProfileLoad_within (s : State) : Completes (execFscProfileLoad s) (Within (touched .fscProfileLoad) s) := by
  refine .ite (fun _ => completes_next ?_) (fun _ => completes_next ((take_within s _).mono (by simp [touched])))
  have hpoll : ∀ (u : State) (f : FaceIx), StringWithin u (u.pollAtLoad f) := fun u f => .ite (pollFallsDue_within u f) (.refl _ u)
  refine .trans (.trans ?_ (Within.foldl hpoll _ _)) ((recomputeFaces_within _ _).mono (by simp [touched]))
  exact .ofEq (fun b hb => by cases b <;> first | rfl | exact absurd (by simp [touched]) hb) rfl

theorem execFaceReply_within (bytes : List Byte) (s : State) : Completes (execFaceReply bytes s) (Within (touched (.faceReply bytes)) s) := by
  unfold execFaceReply
  dsimp only
  split
  · refine completes_next ((arbitrate_within s).trans ?_)
    cases readReply _ true bytes with
    | none => exact .refl _ _
    | some x => exact drawReply_within _ _ _ x
  · refine completes_next ((arbitrate_within s).trans ?_)
    cases readReply _ false bytes with
    | none => exact .refl _ _
    | some x => exact pollReply_within _ _ _ x
  · exact completes_next (arbitrate_within s)

theorem execReplyWaitExpiry_within (s : State) : Completes (execReplyWaitExpiry s) (Within (touched .replyWaitExpiry) s) := by
  unfold execReplyWaitExpiry
  dsimp only
  split
  · exact completes_next ((arbitrate_within s).trans (drawSilent_within _ _ _))
  · exact completes_next ((arbitrate_within s).trans (pollSilent_within _ _))
  · exact completes_next (arbitrate_within s)

theorem setFetch_within (s : State) (x : Option Fetch) : StringWithin s (s.setFetch x) :=
  .ofEq (fun b hb => by cases b <;> first | rfl | exact absurd (by simp) hb) rfl

theorem execFetchHeaderRead_within (m k hi lo : Byte) (s : State) :
    Completes (execFetchHeaderRead m k hi lo s) (Within (touched (.fetchHeaderRead m k hi lo)) s) := by
  unfold execFetchHeaderRead
  dsimp only
  split
  · exact completes_next ((fetching_within s).trans (.ite (setFetch_within _ _) (fetchFault_within _ _)))
  · exact completes_next (fetching_within s)

theorem execFetchNoAnswer_within (s : State) : Completes (execFetchNoAnswer s) (Within (touched .fetchNoAnswer) s) := by
  unfold execFetchNoAnswer
  dsimp only
  split
  · exact completes_next ((fetching_within s).trans (fetchFault_within _ _))
  · exact completes_next (fetching_within s)

theorem execFetchEndGood_within (body : List Byte) (s : State) :
    Completes (execFetchEndGood body s) (Within (touched (.fetchEndGood body)) s) := by
  unfold execFetchEndGood
  split
  · exact completes_next (.ite (fetchGood_within _ _ _) (.refl _ s))
  · exact completes_next (.refl _ s)

/-- A request to the PCA changes the cache alone. -/
theorem take_setPca_within (e : Instr) (p : Pca) (s : State) :
    Within [.pca, .handoffs] s (if (s.take e).running then (s.take e).setPca p else s.take e) :=
  .after_take e (.ite (.ofEq (fun b hb => by cases b <;> first | rfl | exact absurd (by simp) hb) rfl) (.refl _ _)) (by simp)

/-! ### The host port -/

theorem host_ite_within {c : Prop} [Decidable c] {a b : State × Response} (ha : Within hostBlocks s a.1) (hb : Within hostBlocks s b.1) :
    Within hostBlocks s (if c then a else b).1 := by
  split <;> assumption

theorem readStatus_within (s : State) : Within hostBlocks s s.readStatus.1 :=
  host_ite_within ((spendFree_within s).mono (by simp)) (.ofEq (fun b hb => by cases b <;> first | rfl | exact absurd (by simp) hb) rfl)

theorem takeHead_within (s : State) : Within hostBlocks s s.takeHead.1 := by
  unfold State.takeHead
  split
  · exact .refl _ s
  · next n rest h =>
    refine ⟨fun b hb => by cases b <;> first | rfl | exact absurd (by simp) hb, fun hle => ?_⟩
    rw [h] at hle
    exact (Nat.le_succ _).trans hle

theorem readRecord_within (s : State) : Within hostBlocks s s.readRecord.1 :=
  .ofEq (fun b hb => by cases b <;> first | rfl | exact absurd (by simp) hb) rfl

theorem noteRestart_within (s : State) : Within hostBlocks s s.noteRestart.1 :=
  .ofEq (fun b hb => by cases b <;> first | rfl | exact absurd (by simp) hb) rfl

end

/-- Every command completes, and touches only what `touched` names. -/
theorem exec_within (i : Instr) (s : State) : Completes (exec i s) (Within (touched i) s) := by
  cases i with
  | start => exact completes_next (start_within s)
  | profileReadEnd m => exact execProfileReadEnd_within m s
  | profileFrameNotReady m => exact completes_next (.ite (enterFallback_within s _) (.refl _ s))
  | fallbackPageReadEnd f =>
    exact completes_next (.ite (.ofEq (fun b hb => by cases b <;> first | rfl | exact absurd (by simp [touched]) hb) rfl) (.refl _ s))
  | rtuProfileLoad => exact execRtuProfileLoad_within s
  | lgmProfileLoad => exact execLgmProfileLoad_within s
  | aduProfileLoad => exact execAduProfileLoad_within s
  | mucProfileLoad => exact execMucProfileLoad_within s
  | fcuProfileLoad => exact execFcuProfileLoad_within s
  | fscProfileLoad => exact execFscProfileLoad_within s
  | pcaProfileLoad => exact completes_next (take_within s _)
  | frameArrival p w bytes => exact execFrameArrival_within p w bytes s
  | transmissionStart p => exact execTransmissionStart_within p s
  | collision p => exact execCollision_within p s
  | backoffExpiry p => exact execBackoffExpiry_within p s
  | transmissionComplete p => exact execTransmissionComplete_within p s
  | advertReceipt p f => exact execAdvertReceipt_within p f s
  | advertisedCostWrite l d v => exact execAdvertisedCostWrite_within l d v s
  | legReport r => exact execLegReport_within r s
  | changedFlagReport p d => exact execChangedFlagReport_within p d s
  | advertTick =>
    exact .ite (fun _ => completes_next ((rotatePort_within s .da).trans (rotatePort_within _ .db))) (fun _ => completes_next (.refl _ s))
  | gapTimerExpiry p => exact completes_next (.ofEq (fun b hb => by cases b <;> first | rfl | exact absurd (by simp [touched]) hb) rfl)
  | advertArrival l => exact execAdvertArrival_within l s
  | silenceTimerExpiry l => exact execSilenceTimerExpiry_within l s
  | doorInputChange l c => exact .ite (fun _ => completes_next (.refl _ s)) (fun _ => completes_next (setDoor_within s l _))
  | doorLevelTaken l => exact execDoorLevelTaken_within l s
  | conditionApply c => exact completes_next (.after_take (.conditionApply c) (.ite (applyCondition_within _ c) (.refl _ _)) (by simp [touched]))
  | crowdLifetimeExpiry l => exact .ite (fun _ => completes_next (changeLegTo_within s l _)) (fun _ => completes_next (.refl _ s))
  | musterReportLgm => exact completes_next (.after_take (.musterReportLgm) (.ite (reevaluateAll_within _) (.refl _ _)) (by simp [touched]))
  | returnToQuietLgm => exact completes_next (.after_take (.returnToQuietLgm) (.ite (reevaluateAll_within _) (.refl _ _)) (by simp [touched]))
  | alarmReceipt p hop a => exact execAlarmReceipt_within p hop a s
  | repeatTimerExpiry => exact completes_next (.ite (placeAlarm_within s) (.refl _ s))
  | standDownTimerExpiry => exact execStandDownTimerExpiry_within s
  | secondsTimerExpiry => exact completes_next (.ite (clockMoves_within s _) (.refl _ s))
  | clockFrameReceipt c => exact completes_next (.after_take (.clockFrameReceipt c) (.ite (clockMoves_within _ _) (.refl _ _)) (by simp [touched]))
  | minuteEventPlu old new => exact execMinuteEventPlu_within old new s
  | programmeOffer o => exact completes_next (.after_take (.programmeOffer o) (.ite (offer_within _ o) (.refl _ _)) (by simp [touched]))
  | changedDestinationReport d => exact completes_next (take_recomputeFaces_within _ _ s)
  | programmeReport v n k => exact completes_next (take_recomputeFaces_within _ _ s)
  | minuteEventFcu old new => exact completes_next (take_recomputeFaces_within _ _ s)
  | musterReportFcu => exact completes_next (take_recomputeFaces_within _ _ s)
  | returnToQuietFcu => exact execReturnToQuietFcu_within s
  | privacyChange f => exact completes_next (take_recomputeFace_within _ f s)
  | languageRotationExpiry => exact completes_next (.ite (Within.foldl rotateFace_within _ _) (.refl _ s))
  | recordCompleted f d =>
    exact completes_next (.after_take (.recordCompleted f d) (.ite ((recordCompleted_within _ f d).mono (by simp [touched])) (.refl _ _)) (by simp [touched]))
  | recordNotCompleted f d =>
    exact completes_next (.after_take (.recordNotCompleted f d) (.ite ((recordNotCompleted_within _ f d).mono (by simp [touched])) (.refl _ _)) (by simp [touched]))
  | suppliedChainEnded f => exact completes_next (take_recomputeFace_within _ f s)
  | faceBackOnline f =>
    exact completes_next (.after_take (.faceBackOnline f) (.ite (((setFace_within _ f _).mono (by simp [touched])).trans
      ((recomputeFace_within _ f).mono (by simp [touched]))) (.refl _ _)) (by simp [touched]))
  | heldPageFaultReport => exact completes_next (take_recomputeFaces_within _ _ s)
  | demand f k => exact completes_next (.after_take (.demand f k) (.ite (takeDemand_within _ f k) (.refl _ _)) (by simp [touched]))
  | candidateAging f a => exact completes_next (age_within s f a)
  | pollDue fs => exact completes_next (Within.foldl pollFallsDue_within _ _)
  | faceReply bytes => exact execFaceReply_within bytes s
  | replyWaitExpiry => exact execReplyWaitExpiry_within s
  | musterAdoptionFsc => exact completes_next (.after_take (.musterAdoptionFsc) (.ite (Within.foldl musterFace_within _ _) (.refl _ _)) (by simp [touched]))
  | fetchHeaderRead m k hi lo => exact execFetchHeaderRead_within m k hi lo s
  | fetchNoAnswer => exact execFetchNoAnswer_within s
  | fetchEndGood body => exact execFetchEndGood_within body s
  | holdRequest ph => exact completes_next (take_setPca_within _ _ s)
  | releaseRequest ph => exact completes_next (take_setPca_within _ _ s)
  | unknownCommand c ps => exact completes_next ((closeTransaction_within s).trans ((respond_within _ _).mono (by simp)))
  | status ps => exact completes_next (hostCommand_within s _ _ _ readStatus_within)
  | readNotice ps => exact completes_next (hostCommand_within s _ _ _ takeHead_within)
  | readMuster ps => exact completes_next (hostCommand_within s _ _ _ readRecord_within)
  | readRoute ps =>
    refine completes_next (hostCommand_within s _ _ _ fun t => ?_)
    cases indexOf 64 (byteAt ps 0) with
    | none => exact .refl _ t
    | some f => exact .refl _ t
  | readLeg ps =>
    refine completes_next (hostCommand_within s _ _ _ fun t => ?_)
    cases indexOf 6 (byteAt ps 0) with
    | none => exact .refl _ t
    | some f => exact .refl _ t
  | readFace ps =>
    refine completes_next (hostCommand_within s _ _ _ fun t => ?_)
    cases indexOf 32 (byteAt ps 0) with
    | none => exact .refl _ t
    | some f => exact (readWord_within t f).mono (by simp)
  | startFaceChain ps =>
    refine completes_next (hostCommand_within s _ _ _ fun t => ?_)
    cases indexOf 32 (byteAt ps 0) with
    | none => exact .refl _ t
    | some f => exact host_ite_within ((startChain_within t f _).mono (by simp)) (.refl _ t)
  | haltFace ps =>
    refine completes_next (hostCommand_within s _ _ _ fun t => ?_)
    cases indexOf 32 (byteAt ps 0) with
    | none => exact .refl _ t
    | some f => exact host_ite_within (.refl _ t) ((haltFace_within t f).mono (by simp))
  | releaseFace ps =>
    refine completes_next (hostCommand_within s _ _ _ fun t => ?_)
    cases indexOf 32 (byteAt ps 0) with
    | none => exact .refl _ t
    | some f => exact host_ite_within (.refl _ t) ((releaseHold_within t f).mono (by simp))
  | setFaceLanguage ps =>
    refine completes_next (hostCommand_within s _ _ _ fun t => ?_)
    cases indexOf 32 (byteAt ps 0) with
    | none => exact .refl _ t
    | some f => exact host_ite_within (.refl _ t) ((setLanguage_within t f _).mono (by simp))
  | loadItem ps => exact completes_next (hostCommand_within s _ _ _ fun t => (loadItem_within t _ _ _).mono (by simp))
  | withdrawItem ps => exact completes_next (hostCommand_within s _ _ _ fun t => (withdrawItem_within t _ _ _).mono (by simp))
  | setClock ps => exact completes_next (hostCommand_within s _ _ _ fun t => (setClockCommand_within t _).mono (by simp))
  | raisePhase ps => exact completes_next (hostCommand_within s _ _ _ fun t => (raisePhase_within t _ _).mono (by simp))
  | setCondition ps => exact completes_next (hostCommand_within s _ _ _ fun t => (setCondition_within t _).mono (by simp))
  | restart ps => exact completes_next (hostCommand_within s _ _ _ noteRestart_within)
  | selectRelease n => exact completes_next (releaseSelect_within s n)

theorem pending_not_touched (i : Instr) : Block.pending ∉ touched i := by
  cases i <;> simp [touched]

/-- Settles O2: no command's frame names the queue. -/
theorem everyCommandCompletesAndKeepsQueue : Obligations.EveryCommandCompletesAndKeepsQueue := fun i s =>
  (exec_within i s).mono fun _ h => frame_pending h.same (pending_not_touched i)

end Sys2Proof.Machine
end

section
/-! PROOFS. The hand-offs the invariants speak of, the FSC's load event and ALARM receipts: no operation but the entry to RUNNING and
the arrival of a frame hands one over. -/

namespace Sys2Proof.Machine

/-- An event that `Limits` or `PinsOk` speaks of. -/
def tracked : Instr → Bool
  | .fscProfileLoad | .alarmReceipt _ _ _ => true
  | _ => false

/-- No tracked event is outstanding more often than before. -/
def NoNew (s t : State) : Prop := ∀ e, tracked e = true → t.handoffs.count e ≤ s.handoffs.count e

/-- None of some events is tracked. -/
def Untracked (es : List Instr) : Prop := ∀ e ∈ es, tracked e = false

/-! ### Composition -/

theorem NoNew.refl (s : State) : NoNew s s := fun _ _ => le_rfl

theorem NoNew.trans {s t u : State} (h : NoNew s t) (k : NoNew t u) : NoNew s u := fun e he => (k e he).trans (h e he)

theorem NoNew.ite {s t u : State} {c : Prop} [Decidable c] (h : NoNew s t) (k : NoNew s u) : NoNew s (if c then t else u) := by
  split <;> assumption

theorem NoNew.foldl {α : Type} {f : State → α → State} (h : ∀ s x, NoNew s (f s x)) (xs : List α) (s : State) :
    NoNew s (xs.foldl f s) := by
  induction xs generalizing s with
  | nil => exact .refl s
  | cons x xs ih => exact (h s x).trans (ih _)

theorem noNew_of_same {s t : State} (h : t.handoffs = s.handoffs) : NoNew s t := fun _ _ => h ▸ le_rfl

theorem noNew_of_frame {B : List Block} {s t : State} (h : Frame.only B s t) (hB : Block.handoffs ∉ B) : NoNew s t :=
  noNew_of_same (h .handoffs hB)

theorem Untracked.count_eq_zero {es : List Instr} (h : Untracked es) {e : Instr} (he : tracked e = true) : es.count e = 0 :=
  List.count_eq_zero.mpr fun hm => by simp [h e hm] at he

theorem untracked_one {e : Instr} (h : tracked e = false) : Untracked [e] := by
  simpa [Untracked] using h

theorem untracked_append {es fs : List Instr} (h : Untracked es) (k : Untracked fs) : Untracked (es ++ fs) := fun e he =>
  (List.mem_append.mp he).elim (h e) (k e)

theorem noNew_of_append {s t : State} {es : List Instr} (h : t.handoffs = s.handoffs ++ es) (hes : Untracked es) : NoNew s t :=
  fun e he => by rw [h, List.count_append, hes.count_eq_zero he]; exact le_rfl

/-! ### Handing over and taking -/

theorem handOff_noNew (s : State) {e : Instr} (h : tracked e = false) : NoNew s (s.handOff e) :=
  noNew_of_append rfl (untracked_one h)

theorem handOffs_noNew (s : State) {es : List Instr} (h : Untracked es) : NoNew s (s.handOffs es) := noNew_of_append rfl h

theorem take_noNew (s : State) (e : Instr) : NoNew s (s.take e) := fun _ _ => List.erase_sublist.count_le _

theorem replaceFirst_count (e x : Instr) {es : List Instr} (hx : es.count x = 0) (xs : List Instr) :
    (replaceFirst e es xs).count x ≤ xs.count x := by
  induction xs with
  | nil => simp [replaceFirst, hx]
  | cons y ys ih =>
    unfold replaceFirst
    split
    · rw [List.count_append, hx, Nat.zero_add]
      exact (List.sublist_cons_self y ys).count_le _
    · rw [List.count_cons, List.count_cons]
      omega

theorem insertAhead_count (e x : Instr) {es : List Instr} (hx : es.count x = 0) (xs : List Instr) :
    (insertAhead e es xs).count x ≤ xs.count x := by
  induction xs with
  | nil => simp [insertAhead, hx]
  | cons y ys ih =>
    unfold insertAhead
    split
    · rw [List.count_append, hx, Nat.zero_add]
    · rw [List.count_cons, List.count_cons]
      omega

theorem takeGiving_noNew (s : State) (e : Instr) {es : List Instr} (h : Untracked es) : NoNew s (s.takeGiving e es) :=
  fun x hx => replaceFirst_count e x (h.count_eq_zero hx) s.handoffs

theorem handAhead_noNew (s : State) (e : Instr) {es : List Instr} (h : Untracked es) : NoNew s (s.handAhead e es) :=
  fun x hx => insertAhead_count e x (h.count_eq_zero hx) s.handoffs

/-! ### Routes and legs -/

theorem untracked_changeReports (d : DestIx) : Untracked (changeReports d) := by simp [Untracked, changeReports, tracked]

theorem untracked_recomputeList (env : RouteEnv) (ds : List DestIx) (r : Rtu) : Untracked (r.recomputeList env ds).2 := by
  induction ds generalizing r with
  | nil => exact fun e he => absurd he List.not_mem_nil
  | cons d ds ih =>
    refine untracked_append ?_ (ih _)
    show Untracked (if entryMoves env r.legs r.table[d] then changeReports d else [])
    split
    · exact untracked_changeReports d
    · exact fun e he => absurd he List.not_mem_nil

theorem recompute_noNew (s : State) (ds : List DestIx) : NoNew s (s.recompute ds) :=
  noNew_of_append rfl (untracked_recomputeList _ ds _)

theorem untracked_reportEvents (r : Option LegReport) : Untracked (reportEvents r) := by
  cases r <;> simp [Untracked, reportEvents, tracked]

theorem changeLegTo_noNew (s : State) (l : LegIx) (r : LegRecord) : NoNew s (s.changeLegTo l r) :=
  noNew_of_append (changeLegTo_handoffs s l r) (untracked_reportEvents _)

theorem reevaluateAll_noNew (s : State) : NoNew s s.reevaluateAll :=
  .foldl (fun _ _ => .ite (changeLegTo_noNew _ _ _) (.refl _)) _ _

theorem applyCondition_noNew (s : State) (c : ConditionBody) : NoNew s (s.applyCondition c) := by
  unfold State.applyCondition
  split
  · refine .foldl (fun t l => ?_) _ _
    unfold applyToLeg
    split
    · exact .ite (changeLegTo_noNew _ _ _) (.refl _)
    · exact .refl _
  · exact .refl s

/-! ### Muster, clock, programme -/

theorem untracked_holdRequests (h : Option Phase) (ph : Phase) : Untracked (holdRequests h ph) := by
  unfold holdRequests
  split
  · exact fun e he => absurd he List.not_mem_nil
  · cases h <;> simp [Untracked, tracked]

theorem adopt_noNew (s : State) (e : Word) (ph : Phase) (o : Byte) (z : List Byte) : NoNew s (s.adopt e ph o z) :=
  noNew_of_append rfl (untracked_append (by simp [Untracked, tracked]) (untracked_holdRequests _ _))

theorem raise_noNew (s : State) (ph : Phase) (z : List Byte) : NoNew s (s.raise ph z) :=
  (adopt_noNew s _ _ _ _).trans (noNew_of_frame (placeAlarm_within _).same (by simp))

theorem untracked_quietHandOffs (h : Option Phase) : Untracked (quietHandOffs h) := by
  cases h <;> simp [Untracked, quietHandOffs, tracked]

theorem minuteEvent_noNew (s : State) (o : Option Nat) (n : Nat) : NoNew s (s.minuteEvent o n) := by
  unfold State.minuteEvent
  split
  · exact handOffs_noNew s (by simp [Untracked, tracked])
  · exact handOff_noNew s rfl
  · exact .refl s

theorem clockMoves_noNew (s : State) (c : Sck) : NoNew s (s.clockMoves c) := by
  have hset : NoNew s { s with sck := c } := noNew_of_same rfl
  exact .ite hset (hset.trans (minuteEvent_noNew _ _ _))

theorem setClockByHost_noNew (s : State) (d m x : Nat) : NoNew s (s.setClockByHost d m x) :=
  .trans (.trans (t := { s with sck := { s.sck with counter := s.sck.counter + 1 } }) (noNew_of_same rfl) (clockMoves_noNew _ _))
    (noNew_of_frame (originate_within _ _).same (by simp))

theorem untracked_minuteReports (p : Plu) (now : Nat) : Untracked (p.minuteReports now) := by
  intro e he
  obtain ⟨i, -, hi⟩ := List.mem_filterMap.mp he
  obtain ⟨k, -, rfl⟩ := Option.map_eq_some_iff.mp hi
  rfl

theorem replaceItem_noNew (s : State) (old new : Item) : NoNew s (s.replaceItem old new) := by
  refine noNew_of_append rfl ?_
  split <;> simp [Untracked, itemReport, tracked]

theorem endItem_noNew (s : State) (held : Option Item) : NoNew s (s.endItem held) := by
  cases held with
  | none => exact .refl s
  | some old => exact noNew_of_append rfl (untracked_one rfl)

theorem notice_noNew (s : State) (n : Notice) : NoNew s (s.notice n) := noNew_of_frame (notice_within s n).same (by simp)

theorem storeItem_noNew (s : State) (x : Item) : NoNew s (s.storeItem x).1 := by
  unfold State.storeItem
  split
  · exact noNew_of_append rfl (untracked_one rfl)
  · split
    · exact .refl s
    · split
      · exact notice_noNew s _
      · refine .trans (noNew_of_append rfl ?_) (notice_noNew _ _)
        simp [Untracked, itemReport, tracked]

theorem offer_noNew (s : State) (o : Offer) : NoNew s (s.offer o).1 := by
  unfold State.offer
  dsimp only
  split
  · exact .refl s
  · split
    · exact .refl s
    · split
      · exact endItem_noNew s _
      · split
        · exact replaceItem_noNew s _ _
        · exact storeItem_noNew s _

theorem hostOffer_noNew (s : State) (o : Offer) (t m : Word) : NoNew s (s.hostOffer o t m).1 :=
  .ite ((offer_noNew s o).trans (noNew_of_frame (originate_within _ _).same (by simp))) (offer_noNew s o)

/-! ### Faces -/

theorem recomputeFace_noNew (s : State) (f : FaceIx) : NoNew s (s.recomputeFace f) := .ite (.refl s) (handOff_noNew s rfl)

theorem recomputeFaces_noNew (s : State) (p : FaceConfig → Bool) : NoNew s (s.recomputeFaces p) :=
  .foldl (fun _ _ => .ite (recomputeFace_noNew _ _) (.refl _)) _ _

theorem setFace_noNew (s : State) (f : FaceIx) (fs : FaceState) : NoNew s (s.setFace f fs) := noNew_of_same rfl

theorem rotateFace_noNew (s : State) (f : FaceIx) : NoNew s (s.rotateFace f) := by
  unfold State.rotateFace
  split
  · exact .ite ((setFace_noNew s _ _).trans (recomputeFace_noNew _ _)) (.refl s)
  · exact .refl s

/-- A command of the FCU that acts in RUNNING on what it has taken. -/
theorem take_then_noNew (s : State) (e : Instr) {c : Prop} [Decidable c] {t : State} (h : NoNew (s.take e) t) :
    NoNew s (if c then t else s.take e) := (take_noNew s e).trans (.ite h (.refl _))

end Sys2Proof.Machine
end

section
/-! PROOFS. What every operation of the face string keeps: it hands over no tracked event, and no face word's chains use more of the
pool (R176). Only a chain the host starts takes pool slots. -/

namespace Sys2Proof.Machine

set_option Elab.async false

/-- No tracked event is handed over, and no face word uses more of the pool. -/
structure StringKeeps (s t : State) : Prop where
  events : NoNew s t
  pool   : ∀ f : FaceIx, t.fsc.words[f].poolUse ≤ s.fsc.words[f].poolUse

/-! ### Composition -/

theorem StringKeeps.refl (s : State) : StringKeeps s s := ⟨.refl s, fun _ => le_rfl⟩

theorem StringKeeps.trans {s t u : State} (h : StringKeeps s t) (k : StringKeeps t u) : StringKeeps s u :=
  ⟨h.events.trans k.events, fun f => (k.pool f).trans (h.pool f)⟩

theorem StringKeeps.ite {s t u : State} {c : Prop} [Decidable c] (h : c → StringKeeps s t) (k : ¬ c → StringKeeps s u) :
    StringKeeps s (if c then t else u) := by
  split
  · exact h ‹_›
  · exact k ‹_›

theorem StringKeeps.foldl {α : Type} {f : State → α → State} (h : ∀ s x, StringKeeps s (f s x)) (xs : List α) (s : State) :
    StringKeeps s (xs.foldl f s) := by
  induction xs generalizing s with
  | nil => exact .refl s
  | cons x xs ih => exact (h s x).trans (ih _)

/-- An operation that leaves the face words and hands over nothing tracked. -/
theorem keeps_of_noNew {s t : State} (h : NoNew s t) (hw : t.fsc.words = s.fsc.words) : StringKeeps s t := ⟨h, fun _ => hw ▸ le_rfl⟩

theorem keeps_of_same {s t : State} (hh : t.handoffs = s.handoffs) (hw : t.fsc.words = s.fsc.words) : StringKeeps s t :=
  keeps_of_noNew (noNew_of_same hh) hw

theorem keeps_of_within {B : List Block} {s t : State} (h : Within B s t) (hh : Block.handoffs ∉ B) (hw : Block.fsc ∉ B) :
    StringKeeps s t := keeps_of_same (h.same _ hh) (congrArg Fsc.words (h.same _ hw))

/-! ### Face words -/

theorem setWord_word_other {s : State} {f g : FaceIx} {w : FaceWord} (h : f ≠ g) : (s.setWord f w).fsc.words[g] = s.fsc.words[g] :=
  setAt_other _ f g w h

theorem setWord_keeps (s : State) (f : FaceIx) {w : FaceWord} (h : w.poolUse ≤ s.fsc.words[f].poolUse) : StringKeeps s (s.setWord f w) := by
  refine ⟨noNew_of_same rfl, fun g => ?_⟩
  by_cases hg : f = g
  · subst hg; rw [setWord_word]; exact h
  · rw [setWord_word_other hg]

/-- A write of fields other than the chains. -/
theorem setWord_keeps_of_chains (s : State) (f : FaceIx) {w : FaceWord} (ha : w.active = s.fsc.words[f].active := by rfl)
    (hp : w.pending = s.fsc.words[f].pending := by rfl) : StringKeeps s (s.setWord f w) :=
  setWord_keeps s f (by unfold FaceWord.poolUse; rw [ha, hp])

theorem poolUse_le_of_active_none {w v : FaceWord} (ha : w.active = none) (hp : w.pending = v.pending) : w.poolUse ≤ v.poolUse := by
  unfold FaceWord.poolUse
  rw [ha, hp]
  exact Nat.add_le_add_right (Nat.zero_le _) _

theorem poolUse_le_of_pending_none {w v : FaceWord} (ha : w.active = v.active) (hp : w.pending = none) : w.poolUse ≤ v.poolUse := by
  unfold FaceWord.poolUse
  rw [ha, hp]
  exact Nat.le_add_right _ _

theorem setString_keeps (s : State) (x : Option Exchange) : StringKeeps s (s.setString x) := keeps_of_same rfl rfl

theorem setPca_keeps (s : State) (p : Pca) : StringKeeps s (s.setPca p) := keeps_of_same rfl rfl

theorem issue_keeps (s : State) : StringKeeps s s.issue := keeps_of_same rfl rfl

theorem notice_keeps (s : State) (n : Notice) : StringKeeps s (s.notice n) := keeps_of_within (notice_within s n) (by simp) (by simp)

theorem recordCompleted_keeps (s : State) (f : FaceIx) (d : Drawn) : StringKeeps s (s.recordCompleted f d) :=
  keeps_of_within (recordCompleted_within s f d) (by simp) (by simp)

theorem recordNotCompleted_keeps (s : State) (f : FaceIx) (d : DrawTarget) : StringKeeps s (s.recordNotCompleted f d) :=
  keeps_of_within (recordNotCompleted_within s f d) (by simp) (by simp)

theorem handOff_keeps (s : State) {e : Instr} (h : tracked e = false) : StringKeeps s (s.handOff e) :=
  keeps_of_noNew (handOff_noNew s h) rfl

theorem settle_keeps (s : State) (f : FaceIx) : StringKeeps s (s.settle f) := setWord_keeps_of_chains s f

/-! ### Chains -/

theorem dropPrefetch_keeps (s : State) (f : FaceIx) : StringKeeps s (s.dropPrefetch f) :=
  (setWord_keeps_of_chains s f).trans (setPca_keeps _ _)

theorem withdrawRecord_keeps (s : State) (f : FaceIx) : StringKeeps s (s.withdrawRecord f) :=
  (setWord_keeps_of_chains s f).trans (setPca_keeps _ _)

theorem clearChain_keeps (s : State) (f : FaceIx) : StringKeeps s (s.clearChain f) :=
  ((withdrawRecord_keeps s f).trans (setWord_keeps _ f (by exact poolUse_le_of_active_none rfl rfl))).trans (dropPrefetch_keeps _ f)

theorem giveEnding_keeps (s : State) (f : FaceIx) (e : ChainEnding) : StringKeeps s (s.giveEnding f e) :=
  .ite (fun _ => notice_keeps _ _) (fun _ => setWord_keeps_of_chains s f)

theorem discardPending_keeps (s : State) (f : FaceIx) (c : Condition) : StringKeeps s (s.discardPending f c) := by
  unfold State.discardPending
  split
  · exact ((setWord_keeps s f (by exact poolUse_le_of_pending_none rfl rfl)).trans (dropPrefetch_keeps _ f)).trans (giveEnding_keeps _ f _)
  · exact .refl s

theorem activatePending_keeps (s : State) (f : FaceIx) : StringKeeps s (s.activatePending f) := by
  unfold State.activatePending
  split
  · next records h =>
    refine ((issue_keeps s).trans (setWord_keeps _ f ?_)).trans (settle_keeps _ f)
    have hp : s.issue.fsc.words[f].pending = some records := h
    unfold FaceWord.poolUse
    rw [hp]
    exact Nat.le_add_left _ _
  · exact .refl s

theorem followUp_keeps (s : State) (f : FaceIx) : StringKeeps s (s.followUp f) :=
  .ite (fun _ => (issue_keeps s).trans (setWord_keeps_of_chains _ f)) (fun _ => .refl s)

theorem drawFault_keeps (s : State) (f : FaceIx) (k : DemandClass) (c : Condition) (p : Part) : StringKeeps s (s.drawFault f k c p) :=
  (recordNotCompleted_keeps s f _).trans (notice_keeps _ _)

theorem endGenerated_keeps (s : State) (f : FaceIx) (k : DemandClass) (c : Condition) (p : Option Part) :
    StringKeeps s (s.endGenerated f k c p) := by
  have htold : StringKeeps s (p.elim (s.clearChain f) ((s.clearChain f).drawFault f k c)) := by
    cases p with
    | none => exact clearChain_keeps s f
    | some p => exact (clearChain_keeps s f).trans (drawFault_keeps _ f k c p)
  exact .ite (fun _ => htold)
    (fun _ => ((htold.trans (activatePending_keeps _ f)).trans (followUp_keeps _ f)).trans (settle_keeps _ f))

theorem endSupplied_keeps (s : State) (f : FaceIx) (r : List SuppliedRecord) (n : Nat) (c : Condition) :
    StringKeeps s (s.endSupplied f r n c) :=
  ((((clearChain_keeps s f).trans (setWord_keeps_of_chains _ f)).trans (giveEnding_keeps _ f _)).trans
    (handOff_keeps _ rfl)).trans (settle_keeps _ f)

theorem endChain_keeps (s : State) (f : FaceIx) (c : Condition) : StringKeeps s (s.endChain f c) := by
  unfold State.endChain
  split
  · exact endGenerated_keeps s f _ c _
  · exact endSupplied_keeps s f _ _ c
  · exact .refl s

theorem takeDemand_keeps (s : State) (f : FaceIx) (k : DemandClass) : StringKeeps s (s.takeDemand f k) :=
  .ite (fun _ => .refl s) (fun _ => .ite (fun _ => setWord_keeps_of_chains s f) (fun _ =>
    .ite (fun _ => setWord_keeps_of_chains s f) (fun _ => (issue_keeps s).trans (setWord_keeps_of_chains _ f))))

/-! ### Records and picks -/

theorem prefetchNext_keeps (s : State) (f : FaceIx) (c : ActiveChain) : StringKeeps s (s.prefetchNext f c) :=
  .ite (fun _ => .refl s) (fun _ => (setWord_keeps_of_chains s f).trans (setPca_keeps _ _))

theorem beginTransfer_keeps (s : State) (f : FaceIx) (c : ActiveChain) (r : DrawRecord) : StringKeeps s (s.beginTransfer f c r) := by
  have hon : StringKeeps s ((s.setString (some (.draw f r))).setWord f
      { s.fsc.words[f] with state := .transfer, retry := 0, started := none, waiting := none, recordAged := false }) :=
    (setString_keeps s _).trans (setWord_keeps_of_chains _ f)
  exact (StringKeeps.ite (fun _ => hon.trans (notice_keeps _ _)) (fun _ => hon)).trans (prefetchNext_keeps _ f c)

theorem requestPage_keeps (s : State) (f : FaceIx) (c : ActiveChain) (r : DrawRecord) : StringKeeps s (s.requestPage f c r) :=
  .ite (fun _ => (setPca_keeps s _).trans (beginTransfer_keeps _ f c r))
    (fun _ => (setPca_keeps s _).trans (setWord_keeps_of_chains _ f))

theorem prepare_keeps (s : State) (f : FaceIx) (c : ActiveChain) : StringKeeps s (s.prepare f c) := by
  unfold State.prepare
  split
  · exact endChain_keeps s f _
  · split
    · exact beginTransfer_keeps s f c _
    · exact .ite (fun _ => beginTransfer_keeps s f c _) (fun _ => requestPage_keeps s f c _)

theorem startGenerated_keeps (s : State) (f : FaceIx) : StringKeeps s (s.startGenerated f) := by
  refine .ite (fun _ => setWord_keeps_of_chains s f) (fun _ => (setWord_keeps s f ?_).trans (prepare_keeps _ f _))
  exact Nat.add_le_add_right (Nat.zero_le _) _

theorem beginPoll_keeps (s : State) (f : FaceIx) : StringKeeps s (s.beginPoll f) := by
  refine .trans (setWord_keeps_of_chains s f) (keeps_of_same rfl rfl)

theorem takeCandidate_keeps (s : State) (c : Candidate) : StringKeeps s (s.takeCandidate c) := by
  unfold State.takeCandidate
  split
  · exact startGenerated_keeps s _
  · cases s.fsc.words[c.face].active with
    | none => exact .refl s
    | some a => exact prepare_keeps s _ a
  · exact beginPoll_keeps s _

theorem pickUpTo_keeps (n : Nat) (s : State) : StringKeeps s (s.pickUpTo n) := by
  induction n generalizing s with
  | zero => exact .refl s
  | succ n ih =>
    unfold State.pickUpTo
    split
    · exact (takeCandidate_keeps s _).trans (ih _)
    · exact .refl s

theorem arbitrate_keeps (s : State) : StringKeeps s s.arbitrate := pickUpTo_keeps _ s

/-! ### Ends of exchanges -/

theorem releaseRecord_keeps (s : State) (r : DrawRecord) : StringKeeps s (s.releaseRecord r) :=
  (setString_keeps s _).trans (setPca_keeps _ _)

theorem continueChain_keeps (s : State) (f : FaceIx) (c : ActiveChain) : StringKeeps s (s.continueChain f c) := by
  unfold State.continueChain
  split
  · exact .ite (fun _ => settle_keeps s f) (fun _ => endGenerated_keeps s f _ _ _)
  · exact .ite (fun _ => endSupplied_keeps s f _ _ _)
      (fun _ => .ite (fun _ => settle_keeps s f) (fun _ => endSupplied_keeps s f _ _ _))

/-- A record done leaves the chain its records. -/
theorem poolUse_advance {w v : FaceWord} {c : ActiveChain} (hc : v.active = some c) (ha : w.active = some c.advance)
    (hp : w.pending = v.pending) : w.poolUse ≤ v.poolUse := by
  unfold FaceWord.poolUse
  rw [hc, ha, hp]
  obtain ⟨body, i, n⟩ := c
  cases body <;> exact le_rfl

theorem recordDone_keeps (s : State) (f : FaceIx) (r : DrawRecord) : StringKeeps s (s.recordDone f r) := by
  have hdone : StringKeeps s ((s.releaseRecord r).recordCompleted f r.drawn) :=
    (releaseRecord_keeps s r).trans (recordCompleted_keeps _ f _)
  unfold State.recordDone
  dsimp only
  split
  · next c hc => exact (hdone.trans (setWord_keeps _ f (by exact poolUse_advance hc rfl rfl))).trans (continueChain_keeps _ f _)
  · exact hdone.trans (settle_keeps _ f)

theorem tellFailedPicture_keeps (s : State) (f : FaceIx) (r : DrawRecord) : StringKeeps s (s.tellFailedPicture f r) := by
  unfold State.tellFailedPicture
  split
  · exact recordNotCompleted_keeps s f _
  · exact .refl s

theorem recordFault_keeps (s : State) (f : FaceIx) (r : DrawRecord) : StringKeeps s (s.recordFault f r) :=
  ((releaseRecord_keeps s r).trans (tellFailedPicture_keeps _ f r)).trans (endChain_keeps _ f _)

theorem goOffline_keeps (s : State) (f : FaceIx) : StringKeeps s (s.goOffline f) :=
  ((((((setWord_keeps_of_chains s f).trans (endChain_keeps _ f _)).trans (withdrawRecord_keeps _ f)).trans
    (dropPrefetch_keeps _ f)).trans (setWord_keeps_of_chains _ f)).trans (discardPending_keeps _ f _)).trans (notice_keeps _ _)

theorem recordSilent_keeps (s : State) (f : FaceIx) (r : DrawRecord) : StringKeeps s (s.recordSilent f r) :=
  ((releaseRecord_keeps s r).trans (tellFailedPicture_keeps _ f r)).trans (goOffline_keeps _ f)

theorem setAck_keeps (s : State) (x : Option (FaceIx × AckAnswer)) : StringKeeps s { s with fsc := { s.fsc with lastAck := x } } :=
  keeps_of_same rfl rfl

theorem answerAttention_keeps (s : State) (f : FaceIx) (c : Byte) : StringKeeps s (s.answerAttention f c) :=
  .ite (fun _ => setAck_keeps s _) (fun _ => .ite (fun _ => (setAck_keeps s _).trans (notice_keeps _ _))
    (fun _ => (setAck_keeps s _).trans (setWord_keeps_of_chains _ f)))

theorem attend_keeps (s : State) (f : FaceIx) (c : Byte) : StringKeeps s (s.attend f c) :=
  (StringKeeps.ite (fun _ => (setWord_keeps_of_chains s f).trans (handOff_keeps _ rfl)) (fun _ => .refl s)).trans
    (answerAttention_keeps _ f c)

theorem pollEffect_keeps (s : State) (f : FaceIx) (b : Bool) (r : Reply) : StringKeeps s (s.pollEffect f b r) := by
  cases r with
  | done => exact .refl s
  | fault c => exact notice_keeps s _
  | nothing => exact .ite (fun _ => setWord_keeps_of_chains s f) (fun _ => .refl s)
  | attention c => exact attend_keeps s f c

theorem backOnline_keeps (s : State) (f : FaceIx) : StringKeeps s (s.backOnline f) :=
  ((setWord_keeps_of_chains s f).trans (notice_keeps _ _)).trans (handOff_keeps _ rfl)

theorem pollReply_keeps (s : State) (f : FaceIx) (b : Bool) (r : Reply) : StringKeeps s (s.pollReply f b r) :=
  ((((setString_keeps s none).trans (.ite (fun _ => backOnline_keeps _ f) (fun _ => .refl _))).trans
    (pollEffect_keeps _ f b r)).trans (setWord_keeps_of_chains _ f)).trans (settle_keeps _ f)

theorem pollSilent_keeps (s : State) (f : FaceIx) : StringKeeps s (s.pollSilent f) :=
  .ite (fun _ => (setString_keeps s none).trans (setWord_keeps_of_chains _ f))
    (fun _ => .ite (fun _ => setWord_keeps_of_chains s f) (fun _ => (setString_keeps s none).trans (goOffline_keeps _ f)))

theorem drawReply_keeps (s : State) (f : FaceIx) (r : DrawRecord) (x : Reply) : StringKeeps s (s.drawReply f r x) := by
  cases x with
  | done => exact recordDone_keeps s f r
  | fault c => exact recordFault_keeps s f r
  | nothing => exact .refl s
  | attention c => exact .refl s

theorem drawSilent_keeps (s : State) (f : FaceIx) (r : DrawRecord) : StringKeeps s (s.drawSilent f r) :=
  .ite (fun _ => setWord_keeps_of_chains s f) (fun _ => recordSilent_keeps s f r)

/-! ### Ends of fetches -/

theorem pageReady_keeps (s : State) (f : FaceIx) : StringKeeps s (s.pageReady f) :=
  (setWord_keeps_of_chains s f).trans (settle_keeps _ f)

theorem tellFault_keeps (s : State) (w : Waiter) : StringKeeps s (s.tellFault w) := by
  cases w with
  | face f => exact (setWord_keeps_of_chains s f).trans (endChain_keeps _ f _)
  | hold => exact (setPca_keeps s _).trans (handOff_keeps _ rfl)
  | prefetch f => exact .refl s

theorem fetchFault_keeps (s : State) (i : Fin 16) : StringKeeps s (s.fetchFault i) :=
  ((setPca_keeps s _).trans (.foldl tellFault_keeps _ _)).trans (setPca_keeps _ _)

theorem fetchGood_keeps (s : State) (i : Fin 16) (b : List Byte) : StringKeeps s (s.fetchGood i b) :=
  (setPca_keeps s _).trans (.foldl pageReady_keeps _ _)

theorem fetching_keeps (s : State) : StringKeeps s s.fetching := .ite (fun _ => .refl s) (fun _ => arbitrate_keeps s)

/-! ### Ages, polls, muster entry -/

theorem pollFallsDue_keeps (s : State) (f : FaceIx) : StringKeeps s (s.pollFallsDue f) :=
  (issue_keeps s).trans (setWord_keeps_of_chains _ f)

theorem age_keeps (s : State) (f : FaceIx) (a : Aging) : StringKeeps s (s.age f a) := by
  unfold State.age
  dsimp only
  split
  · exact .ite (fun _ => setWord_keeps_of_chains s f) (fun _ => .refl s)
  · exact setWord_keeps_of_chains s f
  · exact .refl s

/-- A halt requested leaves the chain its records. -/
theorem poolUse_requestHalt {w v : FaceWord} (ha : w.active = v.active.map ActiveChain.requestHalt) (hp : w.pending = v.pending) :
    w.poolUse ≤ v.poolUse := by
  unfold FaceWord.poolUse
  rw [ha, hp]
  match v.active with
  | none => exact le_rfl
  | some { body := .generated _ _, .. } => exact le_rfl
  | some { body := .supplied _ _ _, .. } => exact le_rfl

theorem haltSupplied_keeps (s : State) (f : FaceIx) : StringKeeps s (s.haltSupplied f) :=
  .ite (fun _ => .ite (fun _ => setWord_keeps s f (by exact poolUse_requestHalt rfl rfl)) (fun _ => endChain_keeps s f _)) (fun _ => .refl s)

theorem musterFace_keeps (s : State) (f : FaceIx) : StringKeeps s (s.musterFace f) :=
  .ite (fun _ => ((haltSupplied_keeps s f).trans (discardPending_keeps _ f _)).trans (takeDemand_keeps _ f _)) (fun _ => .refl s)

/-! ### Host commands on faces -/

theorem recomputeFace_keeps (s : State) (f : FaceIx) : StringKeeps s (s.recomputeFace f) :=
  .ite (fun _ => .refl s) (fun _ => handOff_keeps s rfl)

theorem recomputeFaces_keeps (s : State) (p : FaceConfig → Bool) : StringKeeps s (s.recomputeFaces p) :=
  .foldl (fun _ _ => .ite (fun _ => recomputeFace_keeps _ _) (fun _ => .refl _)) _ _

theorem readWord_keeps (s : State) (f : FaceIx) : StringKeeps s (s.readWord f).1 := setWord_keeps_of_chains s f

theorem haltFace_keeps (s : State) (f : FaceIx) : StringKeeps s (s.haltFace f).1 := by
  unfold State.haltFace
  dsimp only
  split
  · exact discardPending_keeps s f _
  · split
    · split
      · exact setWord_keeps s f (by exact poolUse_requestHalt rfl rfl)
      · exact endChain_keeps s f _
    · exact .refl s

theorem releaseHold_keeps (s : State) (f : FaceIx) : StringKeeps s (s.releaseHold f) :=
  (setWord_keeps_of_chains s f).trans (recomputeFace_keeps _ f)

theorem setFace_keeps (s : State) (f : FaceIx) (fs : FaceState) : StringKeeps s (s.setFace f fs) := keeps_of_same rfl rfl

theorem setLanguage_keeps (s : State) (f : FaceIx) (n : Nat) : StringKeeps s (s.setLanguage f n).1 := by
  unfold State.setLanguage
  split
  · exact .refl s
  · split
    · exact .refl s
    · exact (setFace_keeps s f _).trans (recomputeFace_keeps _ f)

/-! ### The pool -/

theorem poolUsed_le {c d : Fsc} (h : ∀ f : FaceIx, d.words[f].poolUse ≤ c.words[f].poolUse) : d.poolUsed ≤ c.poolUsed :=
  List.sum_le_sum fun f _ => h f

theorem StringKeeps.poolOk {s t : State} (h : StringKeeps s t) (ok : poolOk s.fsc) : poolOk t.fsc := (poolUsed_le h.pool).trans ok

end Sys2Proof.Machine
end

section
/-! PROOFS. One lemma per field for the operations that place frames and hand over notices: what they leave. -/

namespace Sys2Proof.Machine

/-! ### notice -/

@[simp] theorem State.notice_rtu (s : State) (n : Notice) : (s.notice n).rtu = s.rtu :=
  (notice_within s n).same .rtu (by simp)
@[simp] theorem State.notice_lgm (s : State) (n : Notice) : (s.notice n).lgm = s.lgm :=
  (notice_within s n).same .lgm (by simp)
@[simp] theorem State.notice_adu (s : State) (n : Notice) : (s.notice n).adu = s.adu :=
  (notice_within s n).same .adu (by simp)
@[simp] theorem State.notice_dlc (s : State) (n : Notice) : (s.notice n).dlc = s.dlc :=
  (notice_within s n).same .dlc (by simp)
@[simp] theorem State.notice_muc (s : State) (n : Notice) : (s.notice n).muc = s.muc :=
  (notice_within s n).same .muc (by simp)
@[simp] theorem State.notice_sck (s : State) (n : Notice) : (s.notice n).sck = s.sck :=
  (notice_within s n).same .sck (by simp)
@[simp] theorem State.notice_plu (s : State) (n : Notice) : (s.notice n).plu = s.plu :=
  (notice_within s n).same .plu (by simp)
@[simp] theorem State.notice_fcu (s : State) (n : Notice) : (s.notice n).fcu = s.fcu :=
  (notice_within s n).same .fcu (by simp)
@[simp] theorem State.notice_fsc (s : State) (n : Notice) : (s.notice n).fsc = s.fsc :=
  (notice_within s n).same .fsc (by simp)
@[simp] theorem State.notice_pca (s : State) (n : Notice) : (s.notice n).pca = s.pca :=
  (notice_within s n).same .pca (by simp)
@[simp] theorem State.notice_pfl (s : State) (n : Notice) : (s.notice n).pfl = s.pfl :=
  (notice_within s n).same .pfl (by simp)
@[simp] theorem State.notice_handoffs (s : State) (n : Notice) : (s.notice n).handoffs = s.handoffs :=
  (notice_within s n).same .handoffs (by simp)
@[simp] theorem State.notice_freeCount (s : State) (n : Notice) : (s.notice n).freeCount = s.freeCount :=
  (notice_within s n).same .freeCount (by simp)
@[simp] theorem State.notice_pending (s : State) (n : Notice) : (s.notice n).pending = s.pending :=
  (notice_within s n).same .pending (by simp)

/-! ### place -/

@[simp] theorem State.place_rtu (s : State) (p : Port) (why : Purpose) (fr : Frame) : (s.place p why fr).rtu = s.rtu :=
  (place_within s p why fr).same .rtu (by simp)
@[simp] theorem State.place_lgm (s : State) (p : Port) (why : Purpose) (fr : Frame) : (s.place p why fr).lgm = s.lgm :=
  (place_within s p why fr).same .lgm (by simp)
@[simp] theorem State.place_adu (s : State) (p : Port) (why : Purpose) (fr : Frame) : (s.place p why fr).adu = s.adu :=
  (place_within s p why fr).same .adu (by simp)
@[simp] theorem State.place_muc (s : State) (p : Port) (why : Purpose) (fr : Frame) : (s.place p why fr).muc = s.muc :=
  (place_within s p why fr).same .muc (by simp)
@[simp] theorem State.place_sck (s : State) (p : Port) (why : Purpose) (fr : Frame) : (s.place p why fr).sck = s.sck :=
  (place_within s p why fr).same .sck (by simp)
@[simp] theorem State.place_plu (s : State) (p : Port) (why : Purpose) (fr : Frame) : (s.place p why fr).plu = s.plu :=
  (place_within s p why fr).same .plu (by simp)
@[simp] theorem State.place_fcu (s : State) (p : Port) (why : Purpose) (fr : Frame) : (s.place p why fr).fcu = s.fcu :=
  (place_within s p why fr).same .fcu (by simp)
@[simp] theorem State.place_fsc (s : State) (p : Port) (why : Purpose) (fr : Frame) : (s.place p why fr).fsc = s.fsc :=
  (place_within s p why fr).same .fsc (by simp)
@[simp] theorem State.place_pca (s : State) (p : Port) (why : Purpose) (fr : Frame) : (s.place p why fr).pca = s.pca :=
  (place_within s p why fr).same .pca (by simp)
@[simp] theorem State.place_pfl (s : State) (p : Port) (why : Purpose) (fr : Frame) : (s.place p why fr).pfl = s.pfl :=
  (place_within s p why fr).same .pfl (by simp)
@[simp] theorem State.place_handoffs (s : State) (p : Port) (why : Purpose) (fr : Frame) : (s.place p why fr).handoffs = s.handoffs :=
  (place_within s p why fr).same .handoffs (by simp)
@[simp] theorem State.place_freeCount (s : State) (p : Port) (why : Purpose) (fr : Frame) : (s.place p why fr).freeCount = s.freeCount :=
  (place_within s p why fr).same .freeCount (by simp)
@[simp] theorem State.place_pending (s : State) (p : Port) (why : Purpose) (fr : Frame) : (s.place p why fr).pending = s.pending :=
  (place_within s p why fr).same .pending (by simp)

theorem State.place_dlc (s : State) (p : Port) (why : Purpose) (fr : Frame) :
    (s.place p why fr).dlc = { s.dlc with
      ports := s.dlc.ports.set p ((s.dlc.ports.get p).place why fr s.dlc.stamp).1, stamp := s.dlc.stamp + 1 } := by
  unfold State.place
  split
  next lp out h =>
    rw [h]
    cases out with
    | none => rfl
    | some f => exact State.notice_dlc _ _

/-! ### originate -/

@[simp] theorem State.originate_rtu (s : State) (b : FloodBody) : (s.originate b).rtu = s.rtu :=
  (originate_within s b).same .rtu (by simp)
@[simp] theorem State.originate_lgm (s : State) (b : FloodBody) : (s.originate b).lgm = s.lgm :=
  (originate_within s b).same .lgm (by simp)
@[simp] theorem State.originate_adu (s : State) (b : FloodBody) : (s.originate b).adu = s.adu :=
  (originate_within s b).same .adu (by simp)
@[simp] theorem State.originate_muc (s : State) (b : FloodBody) : (s.originate b).muc = s.muc :=
  (originate_within s b).same .muc (by simp)
@[simp] theorem State.originate_sck (s : State) (b : FloodBody) : (s.originate b).sck = s.sck :=
  (originate_within s b).same .sck (by simp)
@[simp] theorem State.originate_plu (s : State) (b : FloodBody) : (s.originate b).plu = s.plu :=
  (originate_within s b).same .plu (by simp)
@[simp] theorem State.originate_fcu (s : State) (b : FloodBody) : (s.originate b).fcu = s.fcu :=
  (originate_within s b).same .fcu (by simp)
@[simp] theorem State.originate_fsc (s : State) (b : FloodBody) : (s.originate b).fsc = s.fsc :=
  (originate_within s b).same .fsc (by simp)
@[simp] theorem State.originate_pca (s : State) (b : FloodBody) : (s.originate b).pca = s.pca :=
  (originate_within s b).same .pca (by simp)
@[simp] theorem State.originate_pfl (s : State) (b : FloodBody) : (s.originate b).pfl = s.pfl :=
  (originate_within s b).same .pfl (by simp)
@[simp] theorem State.originate_handoffs (s : State) (b : FloodBody) : (s.originate b).handoffs = s.handoffs :=
  (originate_within s b).same .handoffs (by simp)
@[simp] theorem State.originate_freeCount (s : State) (b : FloodBody) : (s.originate b).freeCount = s.freeCount :=
  (originate_within s b).same .freeCount (by simp)
@[simp] theorem State.originate_pending (s : State) (b : FloodBody) : (s.originate b).pending = s.pending :=
  (originate_within s b).same .pending (by simp)

/-! ### relay -/

@[simp] theorem State.relay_rtu (s : State) (p : Port) (hop limit : Nat) (x : Byte) (b : FloodBody) : (s.relay p hop limit x b).rtu = s.rtu :=
  (relay_within s p hop limit x b).same .rtu (by simp)
@[simp] theorem State.relay_lgm (s : State) (p : Port) (hop limit : Nat) (x : Byte) (b : FloodBody) : (s.relay p hop limit x b).lgm = s.lgm :=
  (relay_within s p hop limit x b).same .lgm (by simp)
@[simp] theorem State.relay_adu (s : State) (p : Port) (hop limit : Nat) (x : Byte) (b : FloodBody) : (s.relay p hop limit x b).adu = s.adu :=
  (relay_within s p hop limit x b).same .adu (by simp)
@[simp] theorem State.relay_muc (s : State) (p : Port) (hop limit : Nat) (x : Byte) (b : FloodBody) : (s.relay p hop limit x b).muc = s.muc :=
  (relay_within s p hop limit x b).same .muc (by simp)
@[simp] theorem State.relay_sck (s : State) (p : Port) (hop limit : Nat) (x : Byte) (b : FloodBody) : (s.relay p hop limit x b).sck = s.sck :=
  (relay_within s p hop limit x b).same .sck (by simp)
@[simp] theorem State.relay_plu (s : State) (p : Port) (hop limit : Nat) (x : Byte) (b : FloodBody) : (s.relay p hop limit x b).plu = s.plu :=
  (relay_within s p hop limit x b).same .plu (by simp)
@[simp] theorem State.relay_fcu (s : State) (p : Port) (hop limit : Nat) (x : Byte) (b : FloodBody) : (s.relay p hop limit x b).fcu = s.fcu :=
  (relay_within s p hop limit x b).same .fcu (by simp)
@[simp] theorem State.relay_fsc (s : State) (p : Port) (hop limit : Nat) (x : Byte) (b : FloodBody) : (s.relay p hop limit x b).fsc = s.fsc :=
  (relay_within s p hop limit x b).same .fsc (by simp)
@[simp] theorem State.relay_pca (s : State) (p : Port) (hop limit : Nat) (x : Byte) (b : FloodBody) : (s.relay p hop limit x b).pca = s.pca :=
  (relay_within s p hop limit x b).same .pca (by simp)
@[simp] theorem State.relay_pfl (s : State) (p : Port) (hop limit : Nat) (x : Byte) (b : FloodBody) : (s.relay p hop limit x b).pfl = s.pfl :=
  (relay_within s p hop limit x b).same .pfl (by simp)
@[simp] theorem State.relay_handoffs (s : State) (p : Port) (hop limit : Nat) (x : Byte) (b : FloodBody) : (s.relay p hop limit x b).handoffs = s.handoffs :=
  (relay_within s p hop limit x b).same .handoffs (by simp)
@[simp] theorem State.relay_freeCount (s : State) (p : Port) (hop limit : Nat) (x : Byte) (b : FloodBody) : (s.relay p hop limit x b).freeCount = s.freeCount :=
  (relay_within s p hop limit x b).same .freeCount (by simp)
@[simp] theorem State.relay_pending (s : State) (p : Port) (hop limit : Nat) (x : Byte) (b : FloodBody) : (s.relay p hop limit x b).pending = s.pending :=
  (relay_within s p hop limit x b).same .pending (by simp)

/-! ### placeAlarm -/

@[simp] theorem State.placeAlarm_rtu (s : State) : (s.placeAlarm).rtu = s.rtu :=
  (placeAlarm_within s).same .rtu (by simp)
@[simp] theorem State.placeAlarm_lgm (s : State) : (s.placeAlarm).lgm = s.lgm :=
  (placeAlarm_within s).same .lgm (by simp)
@[simp] theorem State.placeAlarm_adu (s : State) : (s.placeAlarm).adu = s.adu :=
  (placeAlarm_within s).same .adu (by simp)
@[simp] theorem State.placeAlarm_muc (s : State) : (s.placeAlarm).muc = s.muc :=
  (placeAlarm_within s).same .muc (by simp)
@[simp] theorem State.placeAlarm_sck (s : State) : (s.placeAlarm).sck = s.sck :=
  (placeAlarm_within s).same .sck (by simp)
@[simp] theorem State.placeAlarm_plu (s : State) : (s.placeAlarm).plu = s.plu :=
  (placeAlarm_within s).same .plu (by simp)
@[simp] theorem State.placeAlarm_fcu (s : State) : (s.placeAlarm).fcu = s.fcu :=
  (placeAlarm_within s).same .fcu (by simp)
@[simp] theorem State.placeAlarm_fsc (s : State) : (s.placeAlarm).fsc = s.fsc :=
  (placeAlarm_within s).same .fsc (by simp)
@[simp] theorem State.placeAlarm_pca (s : State) : (s.placeAlarm).pca = s.pca :=
  (placeAlarm_within s).same .pca (by simp)
@[simp] theorem State.placeAlarm_pfl (s : State) : (s.placeAlarm).pfl = s.pfl :=
  (placeAlarm_within s).same .pfl (by simp)
@[simp] theorem State.placeAlarm_handoffs (s : State) : (s.placeAlarm).handoffs = s.handoffs :=
  (placeAlarm_within s).same .handoffs (by simp)
@[simp] theorem State.placeAlarm_freeCount (s : State) : (s.placeAlarm).freeCount = s.freeCount :=
  (placeAlarm_within s).same .freeCount (by simp)
@[simp] theorem State.placeAlarm_pending (s : State) : (s.placeAlarm).pending = s.pending :=
  (placeAlarm_within s).same .pending (by simp)

end Sys2Proof.Machine
end

section
/-! PROOFS. The limits block by block: what each block's operations keep (R1, R32, R66, R72, R101, R115, R127, R134). -/

namespace Sys2Proof.Machine

/-! ### Deck links (R66, R72) -/

/-- Relay memory and both PROGRAMME queues within their limits. -/
def DlcOk (d : Dlc) : Prop := ringOk d.ring ∧ ∀ p : Port, queueOk (d.ports.get p)

theorem dlcOk_initial : DlcOk Dlc.initial := ⟨⟨by decide, List.nodup_nil⟩, fun p => by cases p <;> exact Nat.zero_le _⟩

/-- Ports written with a queue within its limit. -/
theorem dlcOk_of_port {d d' : Dlc} {p : Port} {lp : LinkPort} (h : DlcOk d) (hring : d'.ring = d.ring)
    (hports : d'.ports = d.ports.set p lp) (hlp : queueOk lp) : DlcOk d' := by
  obtain ⟨ring, queues⟩ := h
  refine ⟨hring ▸ ring, fun q => ?_⟩
  rw [hports]
  by_cases hq : p = q
  · subst hq; rw [PerPort.get_set]; exact hlp
  · rw [PerPort.get_set_other _ _ _ _ hq]; exact queues q

theorem placeQueue_length_le {q : List (Held Frame)} (h : q.length ≤ Config.programmeQueueCapacity) (inFlight : Bool) (fr : Frame)
    (fresh : Nat) : (placeQueue q inFlight fr fresh).1.length ≤ Config.programmeQueueCapacity := by
  unfold placeQueue
  by_cases hroom : q.length < Config.programmeQueueCapacity
  · rw [if_pos hroom, List.length_append]
    exact hroom
  · have hfull : q.length = 8 := Nat.le_antisymm h (not_lt.mp hroom)
    rw [if_neg hroom]
    match q, inFlight, hfull with
    | [_], true, hfull => exact absurd hfull (by simp)
    | _ :: _ :: _, true, hfull => simpa [Config.programmeQueueCapacity] using hfull.le
    | _ :: _, false, hfull => simpa [Config.programmeQueueCapacity] using hfull.le

theorem linkPort_place_queueOk {lp : LinkPort} (h : queueOk lp) (why : Purpose) (fr : Frame) (fresh : Nat) :
    queueOk (lp.place why fr fresh).1 := by
  obtain ⟨hop, sender, body⟩ := fr
  cases why with
  | door l => exact h
  | flood =>
    cases body with
    | programme b => exact placeQueue_length_le h _ _ _
    | _ => exact h

theorem launch_queueOk {lp : LinkPort} (h : queueOk lp) (advert : BlockIx → List Byte) (n : SlotName) : queueOk (lp.launch advert n) := by
  cases n <;> exact h

theorem finish_queueOk {lp : LinkPort} (h : queueOk lp) (n : SlotName) : queueOk (lp.finish n) := by
  cases n with
  | programme => exact (List.tail_sublist _).length_le.trans h
  | _ => exact h

theorem collideQueue_length_le (q : List (Held Frame)) : (collideQueue q).1.length ≤ q.length := by
  cases q with
  | nil => exact le_rfl
  | cons w rest =>
    show ((collideHeld w).1.toList ++ rest).length ≤ rest.length + 1
    rw [List.length_append, add_comm]
    exact Nat.add_le_add_left (by cases (collideHeld w).1 <;> simp) _

theorem collide_queueOk {lp : LinkPort} (h : queueOk lp) (n : SlotName) : queueOk (lp.collide n).1 := by
  cases n with
  | programme => exact (collideQueue_length_le _).trans h
  | _ => exact h

theorem ringOk_enterKey {ring : List Key} (h : ringOk ring) (k : Key) : ringOk (enterKey ring k) := by
  obtain ⟨hlen, hnodup⟩ := h
  unfold enterKey
  by_cases hk : k ∈ ring
  · rw [if_pos (List.contains_iff_mem.mpr hk)]
    exact ⟨hlen, hnodup⟩
  · rw [if_neg (fun hc => hk (List.contains_iff_mem.mp hc))]
    split
    · next hroom => exact ⟨by simpa using hroom, hnodup.append (List.nodup_singleton k) (by simpa using hk)⟩
    · have htail : k ∉ ring.tail := fun hm => hk (List.mem_of_mem_tail hm)
      refine ⟨?_, (hnodup.sublist (List.tail_sublist ring)).append (List.nodup_singleton k) (by simpa using htail)⟩
      rw [List.length_append, List.length_tail, List.length_singleton]
      unfold Config.ringCapacity at *
      omega

section
variable {s : State} (h : DlcOk s.dlc)
include h

theorem setPort_dlcOk (p : Port) {lp : LinkPort} (hlp : queueOk lp) : DlcOk (s.setPort p lp).dlc := dlcOk_of_port h rfl rfl hlp

theorem place_dlcOk (p : Port) (why : Purpose) (fr : Frame) : DlcOk (s.place p why fr).dlc := by
  rw [State.place_dlc]
  exact dlcOk_of_port h rfl rfl (linkPort_place_queueOk (h.2 p) why fr _)

theorem enterKey_dlcOk (k : Key) : DlcOk (s.enterKey k).dlc := ⟨ringOk_enterKey h.1 k, h.2⟩

theorem placeBoth_dlcOk (fr : Frame) : DlcOk (s.placeBoth fr).dlc := place_dlcOk (place_dlcOk h _ _ _) _ _ _

theorem originate_dlcOk (b : FloodBody) : DlcOk (s.originate b).dlc := placeBoth_dlcOk (enterKey_dlcOk h _) _

theorem relay_dlcOk (p : Port) (hop limit : Nat) (sender : Byte) (b : FloodBody) : DlcOk (s.relay p hop limit sender b).dlc := by
  unfold State.relay
  split
  · exact place_dlcOk h _ _ _
  · exact h

theorem originateDoor_dlcOk (l : LegIx) : DlcOk (s.originateDoor l).dlc := by
  unfold State.originateDoor
  split
  · exact h
  · exact place_dlcOk (enterKey_dlcOk (s := s.nextCondSeq) h _) _ _ _

theorem placeAlarm_dlcOk : DlcOk s.placeAlarm.dlc := by
  unfold State.placeAlarm
  split
  · split
    · exact h
    · exact placeBoth_dlcOk h _
  · exact h

theorem requestAdvert_dlcOk (p : Port) (b : BlockIx) (u : Bool) : DlcOk (s.requestAdvert p b u).dlc := dlcOk_of_port h rfl rfl (h.2 p)

theorem markUrgent_dlcOk (p : Port) (b : BlockIx) : DlcOk (s.markUrgent p b).dlc := requestAdvert_dlcOk (s := s.setUrgent p b true) h p b true

theorem urgeChanged_dlcOk (p : Port) : DlcOk (s.urgeChanged p).dlc := by
  refine List.foldlRecOn (motive := fun t : State => DlcOk t.dlc) _ _ h fun t ht b _ => ?_
  split
  · exact markUrgent_dlcOk ht p b
  · exact ht

theorem rotatePort_dlcOk (p : Port) : DlcOk (s.rotatePort p).dlc := requestAdvert_dlcOk h p _ false

theorem announceDoors_dlcOk (ls : List LegIx) : DlcOk (ls.foldl State.announceDoor s).dlc := by
  refine List.foldlRecOn (motive := fun t : State => DlcOk t.dlc) _ _ h fun t ht l _ => ?_
  unfold State.announceDoor
  split
  · exact originateDoor_dlcOk ht l
  · exact ht

theorem handToOwner_dlcOk (p : Port) (hop : Nat) (b : FloodBody) : DlcOk (s.handToOwner p hop b).dlc := by
  rw [(handToOwner_within s p hop b).same .dlc (by simp)]
  exact h

theorem dispatchFlood_dlcOk (p : Port) (f : Frame) : DlcOk (s.dispatchFlood p f).dlc := by
  unfold State.dispatchFlood
  split
  · exact handToOwner_dlcOk h _ _ _
  · split
    · exact h
    · exact relay_dlcOk (handToOwner_dlcOk (enterKey_dlcOk h _) _ _ _) _ _ _ _ _

theorem arriveRunning_dlcOk (p : Port) (w : Bool) (a : Arrived) : DlcOk (s.arriveRunning p w a).dlc := by
  unfold State.arriveRunning
  split
  · exact h
  · split
    · split <;> exact h
    · split
      · exact h
      · split
        · exact h
        · exact dispatchFlood_dlcOk h p _

theorem arriveFallback_dlcOk (p : Port) (w : Bool) (a : Arrived) : DlcOk (s.arriveFallback p w a).dlc := by
  unfold State.arriveFallback
  split
  · exact h
  · split
    · exact h
    · split
      · exact h
      · exact relay_dlcOk (enterKey_dlcOk h _) _ _ _ _ _

theorem marksOnStart_dlcOk (p : Port) (n : SlotName) : DlcOk (s.marksOnStart p n).dlc := by
  cases n <;> exact h

theorem afterCollision_dlcOk (p : Port) (c : Collided) : DlcOk (s.afterCollision p c).dlc := by
  unfold State.afterCollision
  split
  · rw [State.notice_dlc]; exact h
  · exact markUrgent_dlcOk (by rw [State.notice_dlc]; exact h) p _
  · exact h

end

/-! ### Programme list (R134) -/

theorem Item.before_trans {a b c : Item} (hab : a.before b = true) (hbc : b.before c = true) : a.before c = true := by
  simp only [Item.before, Bool.or_eq_true, decide_eq_true_eq, Bool.and_eq_true, beq_iff_eq] at *
  omega

theorem Item.before_of_not_before {a b : Item} (h : a.before b = false) (hne : a.id ≠ b.id) : b.before a = true := by
  simp only [Item.before, ← Bool.not_eq_true, Bool.or_eq_true, decide_eq_true_eq, Bool.and_eq_true, beq_iff_eq] at *
  omega

theorem mem_insertItem {x y : Item} {l : List Item} : y ∈ insertItem x l ↔ y = x ∨ y ∈ l := by
  induction l with
  | nil => simp [insertItem]
  | cons z zs ih =>
    unfold insertItem
    split
    · simp
    · rw [List.mem_cons, ih, List.mem_cons]
      tauto

theorem length_insertItem (x : Item) (l : List Item) : (insertItem x l).length = l.length + 1 := by
  induction l with
  | nil => rfl
  | cons z zs ih =>
    unfold insertItem
    split
    · rfl
    · rw [List.length_cons, ih, List.length_cons]

/-- An item entered by its start absolute and id leaves the list in order, when no item has its id. -/
theorem insertItem_pairwise {x : Item} {l : List Item} (h : l.Pairwise itemOrder) (hx : ∀ y ∈ l, x.id ≠ y.id) :
    (insertItem x l).Pairwise itemOrder := by
  induction l with
  | nil => exact List.pairwise_singleton _ x
  | cons z zs ih =>
    obtain ⟨hz, hzs⟩ := List.pairwise_cons.mp h
    have hxz : x.id ≠ z.id := hx z List.mem_cons_self
    unfold insertItem
    by_cases hb : x.before z = true
    · rw [if_pos hb]
      refine List.pairwise_cons.mpr ⟨fun y hy => ⟨?_, hx y hy⟩, h⟩
      rcases List.mem_cons.mp hy with rfl | hy
      · exact hb
      · exact Item.before_trans hb (hz y hy).1
    · rw [if_neg hb]
      refine List.pairwise_cons.mpr ⟨fun y hy => ?_, ih hzs fun y hy => hx y (List.mem_cons_of_mem z hy)⟩
      rcases mem_insertItem.mp hy with rfl | hy
      · exact ⟨Item.before_of_not_before (by simpa using hb) hxz, hxz.symm⟩
      · exact hz y hy

/-- What a minute event keeps of an item is the item, its state aside. -/
theorem judge_kept {now : Nat} {i j : Item} (h : (i.judge now).1 = some j) : j.id = i.id ∧ j.startAbs = i.startAbs := by
  unfold Item.judge at h
  split at h
  · split at h
    · exact absurd h (by simp)
    · cases h; exact ⟨rfl, rfl⟩
  · split at h
    · exact absurd h (by simp)
    · split at h <;> cases h <;> exact ⟨rfl, rfl⟩

theorem itemsOk_atMinute {p : Plu} (h : itemsOk p.items) (now : Nat) : itemsOk (p.atMinute now).items := by
  refine ⟨(List.length_filterMap_le _ _).trans h.1, List.Pairwise.filterMap _ (fun a b hab a' ha b' hb => ?_) h.2⟩
  obtain ⟨haid, hastart⟩ := judge_kept ha
  obtain ⟨hbid, hbstart⟩ := judge_kept hb
  unfold itemOrder Item.before at *
  rw [haid, hastart, hbid, hbstart]
  exact hab

theorem itemsOk_remove {p : Plu} (h : itemsOk p.items) (id : Nat) : itemsOk (p.remove id).items :=
  ⟨(List.length_filter_le _ _).trans h.1, h.2.filter _⟩

theorem Plu.find_eq_none_iff {p : Plu} {id : Nat} : p.find id = none ↔ ∀ y ∈ p.items, y.id ≠ id := by
  simp [Plu.find, List.find?_eq_none]

theorem Plu.find_some {p : Plu} {id : Nat} {i : Item} (h : p.find id = some i) : i ∈ p.items ∧ i.id = id :=
  ⟨List.mem_of_find?_eq_some h, by simpa using List.find?_some h⟩

section
variable {s : State} (h : itemsOk s.plu.items)
include h

theorem replaceItem_itemsOk {old new : Item} (hold : old ∈ s.plu.items) (hid : new.id = old.id) :
    itemsOk (s.replaceItem old new).plu.items := by
  have hout : ∀ y ∈ (s.plu.remove old.id).items, new.id ≠ y.id := fun y hy => by
    have hne : y.id ≠ old.id := by simpa using (List.mem_filter.mp hy).2
    rw [hid]; exact hne.symm
  refine ⟨?_, insertItem_pairwise (itemsOk_remove h _).2 hout⟩
  have hfewer : (s.plu.remove old.id).items.length < s.plu.items.length :=
    List.length_filter_lt_length_iff_exists.mpr ⟨old, hold, by simp⟩
  exact (length_insertItem _ _).trans_le ((Nat.succ_le_of_lt hfewer).trans h.1)

theorem endItem_itemsOk (held : Option Item) : itemsOk (s.endItem held).plu.items := by
  cases held with
  | none => exact h
  | some old => exact itemsOk_remove h _

theorem storeItem_itemsOk {x : Item} (hx : s.plu.find x.id = none) : itemsOk (s.storeItem x).1.plu.items := by
  have hnew : ∀ y ∈ s.plu.items, x.id ≠ y.id := fun y hy => (Plu.find_eq_none_iff.mp hx y hy).symm
  unfold State.storeItem
  split
  · next hroom => exact ⟨(length_insertItem _ _).trans_le hroom, insertItem_pairwise h.2 hnew⟩
  · split
    · exact h
    · split
      · rw [State.notice_plu]; exact h
      · next hfull _ last hlast _ =>
        rw [State.notice_plu]
        refine ⟨?_, insertItem_pairwise (h.2.sublist (List.dropLast_sublist _)) fun y hy => hnew y (List.mem_of_mem_dropLast hy)⟩
        have hpos : 0 < s.plu.items.length := List.length_pos_of_mem (List.mem_of_getLast? hlast)
        refine (length_insertItem _ _).trans_le ?_
        rw [List.length_dropLast, Nat.sub_add_cancel hpos]
        exact h.1

theorem offer_itemsOk (o : Offer) : itemsOk (s.offer o).1.plu.items := by
  unfold State.offer
  dsimp only
  split
  · exact h
  · split
    · exact h
    · split
      · exact endItem_itemsOk h _
      · split
        · next old hold => exact replaceItem_itemsOk h (Plu.find_some hold).1 (Plu.find_some hold).2.symm
        · next hnone => exact storeItem_itemsOk h hnone

theorem hostOffer_itemsOk (o : Offer) (t m : Word) : itemsOk (s.hostOffer o t m).1.plu.items := by
  unfold State.hostOffer
  dsimp only
  split
  · rw [State.originate_plu]; exact offer_itemsOk h o
  · exact offer_itemsOk h o

end

/-! ### Clock (R127) -/

theorem clockOk_advance {c : Sck} (h : clockOk c) : clockOk c.advance := by
  obtain ⟨hday, hminute, hsecond⟩ := h
  unfold Sck.advance
  split
  · next hs => exact ⟨hday, hminute, hs⟩
  · split
    · next hm => exact ⟨hday, hm, Nat.zero_le _⟩
    · split
      · next hd => exact ⟨hd, Nat.zero_le _, Nat.zero_le _⟩
      · exact ⟨hday, hminute, hsecond⟩

theorem clockMoves_sck (s : State) (c : Sck) : (s.clockMoves c).sck = c := by
  unfold State.clockMoves
  dsimp only
  split
  · rfl
  · exact (minuteEvent_within _ _ _).same .sck (by simp)

/-- A CLOCK frame that is not ignored carries a time in range. -/
theorem clockOk_of_not_ignores {c : Sck} {f : ClockBody} (h : c.ignores f = false) :
    f.minute.toNat ≤ 1439 ∧ f.second.toNat ≤ 59 := by
  simp only [Sck.ignores, Bool.or_eq_false_iff, decide_eq_false_iff_not, not_lt] at h
  obtain ⟨⟨⟨⟨hm, hs⟩, -⟩, -⟩, -⟩ := h
  exact ⟨hm, hs⟩

theorem byte_le (b : Byte) : b.toNat ≤ 255 := Nat.le_of_lt_succ b.isLt

theorem setClockByHost_sck (s : State) (d m x : Nat) :
    (s.setClockByHost d m x).sck = { s.sck with
      isSet := true, day := d, minute := m, second := x, lastOrigin := s.pfl.profile.nodeId, lastSeq := s.sck.counter + 1
      timerRunning := true, counter := s.sck.counter + 1 } := by
  unfold State.setClockByHost
  rw [State.originate_sck]
  exact clockMoves_sck _ _

/-! ### Muster record (R101, R115) -/

/-- The muster record within its limits. -/
def MucOk (m : Muc) : Prop := musterOk m ∧ zonesOk m ∧ standDownOk m

theorem mucOk_initial : MucOk Muc.initial := ⟨fun _ => rfl, Nat.zero_le _, Nat.zero_le _⟩

theorem mucOk_adopt {m : Muc} (e : Word) (ph : Phase) (o : Byte) {z : List Byte} (hz : z.length ≤ 8) : MucOk (m.adopt e ph o z) := by
  refine ⟨fun h => absurd h (by simp [Muc.adopt]), hz, ?_⟩
  unfold standDownOk Muc.adopt Config.standDownSeconds
  dsimp only
  split <;> omega

theorem adopt_mucOk (s : State) (e : Word) (ph : Phase) (o : Byte) {z : List Byte} (hz : z.length ≤ 8) : MucOk (s.adopt e ph o z).muc :=
  mucOk_adopt (m := s.muc) e ph o hz

theorem mucOk_tick {m : Muc} (h : MucOk m) : MucOk m.tick := by
  obtain ⟨horigin, hzones, htimer⟩ := h
  unfold Muc.tick
  split
  · exact ⟨horigin, hzones, (Nat.sub_le _ _).trans htimer⟩
  · exact ⟨horigin, hzones, htimer⟩

theorem standDownAtLoad_le {m : Muc} (h : MucOk m) : m.standDownAtLoad ≤ 60 := by
  unfold Muc.standDownAtLoad
  split
  · exact le_rfl
  · exact h.2.2

/-! ### Crowd levels (R32) -/

theorem evaluated_crowd (s : State) (r : LegRecord) : (s.evaluated r).crowd = r.crowd := by
  unfold State.evaluated LegRecord.evaluate
  split <;> rfl

theorem crowdsOk_setAt {legs : Vector LegRecord 6} (h : crowdsOk legs) (l : LegIx) {r : LegRecord} (hr : r.crowd ≤ 7) :
    crowdsOk (setAt legs l r) := by
  intro k
  by_cases hk : l = k
  · subst hk; rw [setAt_same]; exact hr
  · rw [setAt_other _ _ _ _ hk]; exact h k

section
variable {s : State} (h : crowdsOk s.lgm.legs)
include h

theorem changeLegTo_crowdsOk (l : LegIx) {r : LegRecord} (hr : r.crowd ≤ 7) : crowdsOk (s.changeLegTo l r).lgm.legs := by
  rw [changeLegTo_lgm]
  exact crowdsOk_setAt h l hr

theorem changeLeg_crowdsOk (l : LegIx) {f : LegRecord → LegRecord} (hf : (f s.lgm.legs[l]).crowd ≤ 7) :
    crowdsOk (s.changeLeg l f).lgm.legs :=
  changeLegTo_crowdsOk h l ((evaluated_crowd _ _).trans_le hf)

theorem reevaluateAll_crowdsOk : crowdsOk s.reevaluateAll.lgm.legs := by
  refine List.foldlRecOn (motive := fun t : State => crowdsOk t.lgm.legs) _ _ h fun t ht l _ => ?_
  unfold State.reevaluate
  split
  · exact changeLeg_crowdsOk ht l (ht l)
  · exact ht

theorem applyCondition_crowdsOk (c : ConditionBody) : crowdsOk (s.applyCondition c).lgm.legs := by
  have hreport : ∀ r : LegRecord, r.crowd ≤ 7 → (r.applyReport c).crowd ≤ 7 := fun r hr => by
    unfold LegRecord.applyReport
    split
    · exact Nat.min_le_left _ _
    · exact hr
  unfold State.applyCondition
  split
  · refine List.foldlRecOn (motive := fun t : State => crowdsOk t.lgm.legs) _ _ h fun t ht l _ => ?_
    unfold applyToLeg
    split
    · split
      · exact changeLeg_crowdsOk ht l (hreport _ (ht l))
      · exact ht
    · exact ht
  · exact h

theorem originateDoor_crowdsOk (l : LegIx) : crowdsOk (s.originateDoor l).lgm.legs := by
  unfold State.originateDoor
  split
  · exact h
  · rw [State.place_lgm]; exact h

theorem announceDoors_crowdsOk (ls : List LegIx) : crowdsOk (ls.foldl State.announceDoor s).lgm.legs := by
  refine List.foldlRecOn (motive := fun t : State => crowdsOk t.lgm.legs) _ _ h fun t ht l _ => ?_
  unfold State.announceDoor
  split
  · exact originateDoor_crowdsOk ht l
  · exact ht

end

/-! ### Costs (R1, R3, R93) -/

theorem costWithin_unknown (n : Nat) : costWithin n .unknown := nofun

theorem costWithin_unreachable (n : Nat) : costWithin n .unreachable := nofun

theorem costWithin_saturate (horizon n : Nat) : costWithin horizon (saturate horizon n) := by
  unfold saturate
  split
  · next h => intro m hm; cases hm; exact h
  · exact costWithin_unreachable _

theorem costWithin_storedCost (horizon : Nat) (v : Cost) : costWithin horizon (storedCost horizon v) := by
  cases v with
  | finite n => exact costWithin_saturate _ _
  | unknown => exact costWithin_unknown _
  | unreachable => exact costWithin_unreachable _

theorem costWithin_legCandidate (horizon : Nat) (r : LegRecord) (pace : Option LegPace) (adv : Cost) :
    costWithin horizon (legCandidate horizon r pace adv) := by
  unfold legCandidate
  split
  · exact costWithin_unreachable _
  · split
    · exact costWithin_unreachable _
    · split
      · exact costWithin_unknown _
      · exact costWithin_unreachable _
      · exact costWithin_saturate _ _

/-- Best selection takes a way's candidate: within every bound that holds of the legs' candidates and the anchor. -/
theorem costWithin_select {bound margin : Nat} {cands : Vector Cost 6} {anchor : Option Nat} (cur : WayOut)
    (hleg : ∀ l : LegIx, costWithin bound cands[l]) (hanchor : ∀ a, anchor = some a → a ≤ bound) :
    costWithin bound (select margin cands anchor cur).2 := by
  have hway : ∀ w c, isWay cands anchor w c → c ≤ bound := fun w c h => by
    cases w with
    | leg l => exact hleg l c h
    | here => exact hanchor c h
    | none => exact h.elim
  cases hM : lowest cands anchor with
  | none =>
    rw [select_of_lowest_eq_none hM]
    dsimp only
    split
    · exact costWithin_unknown _
    · exact costWithin_unreachable _
  | some M =>
    obtain ⟨w, m⟩ := M
    have hm : costWithin bound (.finite m) := fun n hn => by
      cases hn; exact hway w m (isLowest_of_lowest_eq_some hM).way
    cases hc : currentFinite cands anchor cur with
    | none => rw [select_of_current_not_finite hM hc]; exact hm
    | some c =>
      rw [select_of_current_finite hM hc]
      split
      · exact hm
      · intro n hn; cases hn; exact hway cur c (currentFinite_eq_some_iff.mp hc)

/-- An entry within the horizon. -/
structure EntryOk (horizon : Nat) (e : Entry) : Prop where
  best   : costWithin horizon e.cost
  adv    : ∀ l : LegIx, costWithin horizon e.adv[l]
  anchor : ∀ a, e.anchor = some a → a ≤ 255

theorem entryOk_recompute {env : RouteEnv} (paces : Vector (Option LegPace) 6) {e : Entry} (hmin : 255 ≤ env.horizon)
    (h : EntryOk env.horizon e) : EntryOk env.horizon (recomputeEntry env paces e) := by
  unfold recomputeEntry
  split
  · refine ⟨costWithin_select _ (fun l => ?_) (fun a ha => (h.anchor a ha).trans hmin), h.adv, h.anchor⟩
    unfold legCandidates
    rw [tabulate_get]
    exact costWithin_legCandidate _ _ _ _
  · exact h

/-- Every entry of a route table within the horizon. -/
def TableOk (horizon : Nat) (t : Vector Entry 64) : Prop := ∀ d : DestIx, EntryOk horizon t[d]

theorem tableOk_setAt {horizon : Nat} {t : Vector Entry 64} (h : TableOk horizon t) (d : DestIx) {e : Entry} (he : EntryOk horizon e) :
    TableOk horizon (setAt t d e) := by
  intro k
  by_cases hk : d = k
  · subst hk; rw [setAt_same]; exact he
  · rw [setAt_other _ _ _ _ hk]; exact h k

theorem tableOk_recomputeList {env : RouteEnv} (hmin : 255 ≤ env.horizon) (ds : List DestIx) {r : Rtu}
    (h : TableOk env.horizon r.table) : TableOk env.horizon (r.recomputeList env ds).1.table := by
  induction ds generalizing r with
  | nil => exact h
  | cons d ds ih => exact ih (r := (r.recompute env d).1) (tableOk_setAt h d (entryOk_recompute r.legs hmin (h d)))

theorem tableOk_installAnchors {horizon : Nat} {as : List (Nat × Nat)} (has : ∀ a ∈ as, a.2 ≤ 255) {t : Vector Entry 64}
    (h : TableOk horizon t) : TableOk horizon (as.foldl installAnchor t) := by
  refine List.foldlRecOn (motive := TableOk horizon) _ _ h fun t ht a ha => ?_
  unfold installAnchor
  split
  · refine tableOk_setAt ht _ ?_
    dsimp only
    split
    · exact ht _
    · exact ⟨(ht _).best, (ht _).adv, fun x hx => by cases hx; exact has a ha⟩
  · exact ht

theorem entryOk_initial (horizon : Nat) : EntryOk horizon Entry.initial :=
  ⟨costWithin_unknown _, fun l => by simp [Entry.initial, costWithin_unknown], nofun⟩

theorem tableOk_initial (horizon : Nat) : TableOk horizon Rtu.initial.table := fun d => by
  rw [Rtu.initial, replicate_get]; exact entryOk_initial horizon

theorem costsOk_iff {s : State} : CostsOk s ↔
    (1000 ≤ s.pfl.profile.horizon ∧ s.pfl.profile.horizon ≤ 60000) ∧ (∀ a ∈ s.pfl.profile.anchors, a.2 ≤ 255)
    ∧ TableOk s.pfl.profile.horizon s.rtu.table
    ∧ (s.running = false → ∀ d : DestIx, s.rtu.table[d].anchor = none ∧ (∀ n, s.rtu.table[d].cost ≠ .finite n)
        ∧ ∀ (l : LegIx) (n : Nat), s.rtu.table[d].adv[l] ≠ .finite n) :=
  ⟨fun h => ⟨h.horizon, h.listed, fun d => ⟨h.best d, h.adv d, h.anchor d⟩, h.empty⟩,
   fun ⟨hh, hl, ht, he⟩ => ⟨hh, hl, fun d => (ht d).best, fun d => (ht d).adv, fun d => (ht d).anchor, he⟩⟩

/-- Outside the profile, a table within the horizon is all there is to keep in RUNNING. -/
theorem costsOk_of_table {s t : State} (h : CostsOk s) (hrun : s.running = true) (hpfl : t.pfl = s.pfl)
    (htable : TableOk s.pfl.profile.horizon t.rtu.table) : CostsOk t := by
  obtain ⟨hh, hl, -, -⟩ := costsOk_iff.mp h
  refine costsOk_iff.mpr ⟨hpfl ▸ hh, hpfl ▸ hl, hpfl ▸ htable, fun hn => ?_⟩
  rw [State.running, hpfl] at hn
  exact absurd hrun (by rw [State.running, hn]; decide)

theorem costsOk_same {s t : State} (h : CostsOk s) (hpfl : t.pfl = s.pfl) (hrtu : t.rtu = s.rtu) : CostsOk t := by
  obtain ⟨hh, hl, ht, he⟩ := costsOk_iff.mp h
  refine costsOk_iff.mpr ⟨hpfl ▸ hh, hpfl ▸ hl, hpfl ▸ hrtu ▸ ht, fun hn => hrtu ▸ he ?_⟩
  rw [State.running, ← hpfl]; exact hn

theorem costsOk_recompute {s : State} (h : CostsOk s) (hrun : s.running = true) (ds : List DestIx) : CostsOk (s.recompute ds) := by
  obtain ⟨hh, -, ht, -⟩ := costsOk_iff.mp h
  exact costsOk_of_table h hrun rfl (tableOk_recomputeList (env := s.routeEnv) (le_trans (by decide) hh.1) ds ht)

end Sys2Proof.Machine
end

section
/-! PROOFS. Every step keeps the limits (95, "What each step holds"). -/

namespace Sys2Proof.Machine

/-! ### The limits by block -/

/-- ALARM receipts among some events list at most 8 zones. -/
def AlarmsIn (es : List Instr) : Prop := ∀ p hop a, Instr.alarmReceipt p hop a ∈ es → a.zones.length ≤ 8

/-- What `Limits` says of one part of the state; the costs stand in the route table and in the profile. -/
def BlockOk (s : State) : Block → Prop
  | .rtu | .pfl => CostsOk s
  | .lgm => crowdsOk s.lgm.legs
  | .dlc => DlcOk s.dlc
  | .muc => MucOk s.muc
  | .sck => clockOk s.sck
  | .plu => itemsOk s.plu.items
  | .fsc => poolOk s.fsc
  | .hpt => noticesOk s.hpt.notices
  | .handoffs => AlarmsIn s.handoffs
  | .pending => AlarmsIn s.pending
  | .adu | .fcu | .pca | .freeCount => True

theorem alarmsOk_iff {s : State} : alarmsOk s ↔ AlarmsIn s.pending ∧ AlarmsIn s.handoffs := by
  unfold alarmsOk AlarmsIn
  constructor
  · exact fun h => ⟨fun p hop a ha => h p hop a (List.mem_append_left _ ha), fun p hop a ha => h p hop a (List.mem_append_right _ ha)⟩
  · exact fun h p hop a ha => (List.mem_append.mp ha).elim (h.1 p hop a) (h.2 p hop a)

theorem limits_iff {s : State} : Limits s ↔ ∀ b, BlockOk s b := by
  constructor
  · intro h b
    cases b with
    | rtu | pfl => exact h.costs
    | lgm => exact h.crowds
    | dlc => exact ⟨h.ring, fun p => by cases p; exacts [h.queueDA, h.queueDB]⟩
    | muc => exact ⟨h.muster, h.zones, h.timer⟩
    | sck => exact h.clock
    | plu => exact h.items
    | fsc => exact h.pool
    | hpt => exact h.notices
    | handoffs => exact (alarmsOk_iff.mp h.alarms).2
    | pending => exact (alarmsOk_iff.mp h.alarms).1
    | adu | fcu | pca | freeCount => trivial
  · intro h
    have hdlc : DlcOk s.dlc := h .dlc
    have hmuc : MucOk s.muc := h .muc
    exact ⟨hdlc.1, h .hpt, h .plu, hdlc.2 .da, hdlc.2 .db, h .sck, hmuc.1, h .lgm, hmuc.2.1, alarmsOk_iff.mpr ⟨h .pending, h .handoffs⟩,
      hmuc.2.2, h .fsc, h .rtu⟩

/-- A part of the state other than the two the costs stand in keeps its limits as long as it is the same. -/
theorem blockOk_same {s t : State} {b : Block} (h : BlockOk s b) (same : Same s t b) (hrtu : b ≠ .rtu) (hpfl : b ≠ .pfl) :
    BlockOk t b := by
  cases b with
  | rtu => exact absurd rfl hrtu
  | pfl => exact absurd rfl hpfl
  | adu | fcu | pca | freeCount => trivial
  | _ => unfold BlockOk at *; rw [same]; exact h

/-- The limits of the parts listed, the notice queue aside. -/
def BlocksOk (t : State) (B : List Block) : Prop := ∀ b ∈ B, b ≠ .hpt → BlockOk t b

theorem BlocksOk.nil {t : State} : BlocksOk t [] := fun _ h => absurd h List.not_mem_nil

theorem BlocksOk.cons {t : State} {b : Block} {B : List Block} (h : BlockOk t b) (k : BlocksOk t B) : BlocksOk t (b :: B) :=
  List.forall_mem_cons.mpr ⟨fun _ => h, k⟩

theorem BlocksOk.hpt {t : State} {B : List Block} (k : BlocksOk t B) : BlocksOk t (.hpt :: B) :=
  List.forall_mem_cons.mpr ⟨fun h => absurd rfl h, k⟩

/-- The limits are kept when they are kept in the parts touched; the notice queue's is kept by every operation. -/
theorem limits_of_within {B : List Block} {s t : State} (L : Limits s) (h : Within B s t) (hB : BlocksOk t B) :
    Limits t := by
  rw [limits_iff] at L ⊢
  have costs : CostsOk t := by
    by_cases hrtu : Block.rtu ∈ B
    · exact hB _ hrtu (by decide)
    · by_cases hpfl : Block.pfl ∈ B
      · exact hB _ hpfl (by decide)
      · exact costsOk_same (L .rtu) (h.same _ hpfl) (h.same _ hrtu)
  intro b
  by_cases hr : b = .rtu
  · subst hr; exact costs
  by_cases hp : b = .pfl
  · subst hp; exact costs
  by_cases hn : b = .hpt
  · subst hn; exact h.notices (L .hpt)
  · by_cases hb : b ∈ B
    · exact hB b hb hn
    · exact blockOk_same (L b) (h.same b hb) hr hp

theorem limits_ite {t u : State} {c : Prop} [Decidable c] (h : c → Limits t) (k : ¬ c → Limits u) : Limits (if c then t else u) := by
  split
  · exact h ‹_›
  · exact k ‹_›

/-! ### The hand-offs -/

theorem NoNew.alarmsIn {s t : State} (h : NoNew s t) (ok : AlarmsIn s.handoffs) : AlarmsIn t.handoffs := fun p hop a ha =>
  ok p hop a (List.count_pos_iff.mp ((List.count_pos_iff.mpr ha).trans_le (h _ rfl)))

theorem alarmsIn_nil : AlarmsIn [] := fun _ _ _ h => absurd h List.not_mem_nil

theorem alarmsIn_append {es fs : List Instr} (h : AlarmsIn es) (k : Untracked fs) : AlarmsIn (es ++ fs) := fun p hop a ha =>
  (List.mem_append.mp ha).elim (h p hop a) fun hm => absurd (k _ hm) (by simp [tracked])

theorem Limits.handoffs {s : State} (L : Limits s) : AlarmsIn s.handoffs := (alarmsOk_iff.mp L.alarms).2

theorem Limits.dlc {s : State} (L : Limits s) : DlcOk s.dlc := limits_iff.mp L .dlc

theorem Limits.muc {s : State} (L : Limits s) : MucOk s.muc := limits_iff.mp L .muc

/-- An operation that touches the hand-offs alone. -/
theorem limits_of_events {s t : State} (L : Limits s) (h : Within [.handoffs] s t) (k : NoNew s t) : Limits t :=
  limits_of_within L h (.cons (k.alarmsIn L.handoffs) .nil)

/-- An operation of the face string. -/
theorem limits_of_string {s t : State} (L : Limits s) (h : StringWithin s t) (k : StringKeeps s t) : Limits t :=
  limits_of_within L h (.cons trivial (.cons (k.poolOk L.pool) (.cons trivial (.hpt (.cons (k.events.alarmsIn L.handoffs) .nil)))))

theorem take_limits {s : State} (L : Limits s) (e : Instr) : Limits (s.take e) := limits_of_events L (take_within s e) (take_noNew s e)

theorem notice_limits {s : State} (L : Limits s) (n : Notice) : Limits (s.notice n) := limits_of_within L (notice_within s n) (.hpt .nil)

/-- An ALARM that has passed R63 lists at most 8 zones. -/
theorem readFrame_alarm {bytes : List Byte} {f : Frame} {a : AlarmBody} (h : readFrame bytes = some (.flooded f)) (hb : f.body = .alarm a) :
    a.zones.length ≤ 8 := by
  unfold readFrame at h
  split at h
  · exact absurd h (by simp)
  · split at h
    · exact absurd h (by simp)
    · unfold readFrameBody at h
      dsimp only at h
      split at h <;> (try split at h) <;> cases h <;> cases hb
      next _ hlen =>
        exact (List.length_take_le _ _).trans hlen.2

section
variable {s : State} (L : Limits s)
include L

/-! ### Profile loader and host port -/

theorem start_limits : Limits s.start :=
  limits_of_within L (start_within s)
    (.cons (costsOk_same costsOk_reset rfl rfl) (.cons limits_reset.crowds (.cons trivial (.cons dlcOk_initial (.cons mucOk_initial
      (.cons limits_reset.clock (.cons limits_reset.items (.cons trivial (.cons limits_reset.pool (.cons trivial (.hpt
        (.cons (costsOk_same costsOk_reset rfl rfl) (.cons alarmsIn_nil .nil)))))))))))))

theorem carryOutRestart_limits : Limits s.carryOutRestart :=
  have costs : CostsOk s.carryOutRestart := costsOk_same costsOk_reset rfl rfl
  have alarms : AlarmsIn s.carryOutRestart.handoffs := fun p hop a h => L.handoffs p hop a (List.mem_of_mem_filter h)
  limits_of_within L (carryOutRestart_within s)
    (.cons costs (.cons limits_reset.crowds (.cons trivial (.cons dlcOk_initial (.cons L.muc (.cons trivial (.cons limits_reset.pool
      (.cons trivial (.hpt (.cons costs (.cons alarms (.cons L.clock (.cons L.items (.cons trivial .nil))))))))))))))

theorem tick_limits : Limits s.tick := limits_of_within L (tick_within s) (.cons (mucOk_tick L.muc) .nil)

theorem enterFallback_limits (id : Byte) (hr : s.running = false) : Limits (s.enterFallback id) := by
  have costs : CostsOk (s.enterFallback id) := by
    obtain ⟨hh, hl, ht, he⟩ := costsOk_iff.mp L.costs
    exact costsOk_iff.mpr ⟨hh, hl, ht, fun _ => he hr⟩
  have muc : MucOk s.muc.enterFallback := ⟨L.muster, L.zones, Nat.zero_le _⟩
  exact limits_of_within L (enterFallback_within s id)
    (.cons dlcOk_initial (.cons muc (.cons limits_reset.items (.cons trivial (.cons limits_reset.pool (.cons trivial (.hpt
      (.cons costs (.cons alarmsIn_nil .nil)))))))))

omit L in
theorem clampTo_range {lo hi n : Nat} (h : lo ≤ hi) : lo ≤ clampTo lo hi n ∧ clampTo lo hi n ≤ hi :=
  ⟨Nat.le_max_left _ _, max_le h (Nat.min_le_left _ _)⟩

omit L in
theorem readProfile_horizon (b : List Byte) : 1000 ≤ (readProfile b).horizon ∧ (readProfile b).horizon ≤ 60000 := by
  show 1000 ≤ timingField _ 2 30000 1000 60000 _ ∧ timingField _ 2 30000 1000 60000 _ ≤ 60000
  unfold timingField
  split
  · decide
  · exact clampTo_range (by decide)

omit L in
theorem readProfile_anchors (b : List Byte) : ∀ a ∈ (readProfile b).anchors, a.2 ≤ 255 := by
  intro a ha
  obtain ⟨j, -, rfl⟩ := List.mem_map.mp ha
  exact byte_le _

theorem enterRunning_limits (b : List Byte) (hr : s.running = false) : Limits (s.enterRunning b) := by
  have costs : CostsOk (s.enterRunning b) := by
    refine costsOk_iff.mpr ⟨readProfile_horizon b, readProfile_anchors b, fun d => ?_, fun h => absurd h (by simp [State.running, State.enterRunning])⟩
    obtain ⟨hanchor, hcost, hadv⟩ := L.costs.empty hr d
    exact ⟨fun n hn => absurd hn (hcost n), fun l n hn => absurd hn (hadv l n), fun a ha => absurd (hanchor.symm.trans ha) (by simp)⟩
  have alarms : AlarmsIn (s.enterRunning b).handoffs := by
    intro p hop a h
    refine (List.mem_append.mp h).elim (L.handoffs p hop a) fun hm => absurd hm (by simp [entryEvents])
  exact limits_of_within L (enterRunning_within s b)
    (.cons L.dlc (.cons L.muc (.cons L.items (.cons trivial (.cons L.pool (.cons trivial (.hpt (.cons costs (.cons alarms .nil)))))))))

omit L in
theorem not_running_of_reading (h : s.readingProfile = true) : s.running = false := by
  simp only [State.readingProfile, Bool.and_eq_true, beq_iff_eq] at h
  simp [State.running, h.1]

theorem execProfileReadEnd_limits (m : Option (List Byte)) : Completes (execProfileReadEnd m s) Limits := by
  refine completes_next (limits_ite (fun hr => ?_) (fun _ => L))
  cases m.filter profilePasses with
  | none => exact enterFallback_limits L _ (not_running_of_reading hr)
  | some b => exact enterRunning_limits L b (not_running_of_reading hr)

theorem execFallbackPageReadEnd_limits (f : Option (List Byte)) : Completes (execFallbackPageReadEnd f s) Limits := by
  refine completes_next (limits_ite (fun _ => limits_of_within (B := [.pfl]) L ?_ (.cons ?_ .nil)) (fun _ => L))
  · exact .ofEq (fun b hb => by cases b <;> first | rfl | exact absurd (by simp) hb) rfl
  · obtain ⟨hh, hl, ht, he⟩ := costsOk_iff.mp L.costs
    exact costsOk_iff.mpr ⟨hh, hl, ht, he⟩

theorem respond_limits (r : Response) : Limits (s.respond r) := limits_of_within L (respond_within s r) (.hpt .nil)

theorem hpt_limits {h : Hpt} (hn : noticesOk h.notices) : Limits { s with hpt := h } :=
  ⟨L.ring, hn, L.items, L.queueDA, L.queueDB, L.clock, L.muster, L.crowds, L.zones, L.alarms, L.timer, L.pool, costsOk_same L.costs rfl rfl⟩

theorem releaseSelect_limits (n : Nat) : Limits (s.releaseSelect n) := by
  have hrel : Limits { s with hpt := s.hpt.release n } := hpt_limits L (by rw [release_notices]; exact L.notices)
  exact limits_ite (fun _ => carryOutRestart_limits hrel) (fun _ => hrel)

theorem closeTransaction_limits : Limits s.closeTransaction := by
  unfold State.closeTransaction
  split
  · exact releaseSelect_limits L _
  · exact L

theorem hostCommand_limits (a b : Bool) {act : State → State × Response} (hact : ∀ t, Limits t → Limits (act t).1) :
    Limits (s.hostCommand a b act) := by
  have hclose := closeTransaction_limits L
  unfold State.hostCommand
  dsimp only
  split
  · exact respond_limits hclose _
  · exact respond_limits (hact _ hclose) _

/-! ### Deck links and adverts -/

theorem place_limits (p : Port) (why : Purpose) (fr : Frame) : Limits (s.place p why fr) :=
  limits_of_within L (place_within s p why fr) (.cons (place_dlcOk L.dlc p why fr) (.hpt .nil))

theorem originate_limits (b : FloodBody) : Limits (s.originate b) :=
  limits_of_within L (originate_within s b) (.cons (originate_dlcOk L.dlc b) (.hpt .nil))

theorem relay_limits (p : Port) (hop limit : Nat) (x : Byte) (b : FloodBody) : Limits (s.relay p hop limit x b) :=
  limits_ite (fun _ => place_limits L _ _ _) (fun _ => L)

theorem placeAlarm_limits : Limits s.placeAlarm :=
  limits_of_within L (placeAlarm_within s) (.cons (placeAlarm_dlcOk L.dlc) (.hpt .nil))

theorem setPort_limits (p : Port) {lp : LinkPort} (h : queueOk lp) : Limits (s.setPort p lp) :=
  limits_of_within L (setPort_within s p lp) (.cons (setPort_dlcOk L.dlc p h) .nil)

theorem alarmsIn_handToOwner (p : Port) (hop : Nat) {b : FloodBody} (hb : ∀ a, b = .alarm a → a.zones.length ≤ 8) :
    AlarmsIn (s.handToOwner p hop b).handoffs := by
  cases b with
  | condition c => exact alarmsIn_append L.handoffs (untracked_one rfl)
  | clock c => exact alarmsIn_append L.handoffs (untracked_one rfl)
  | programme b =>
    show AlarmsIn (if zonePasses s.pfl.profile.zone b.target b.mask then s.handOff (.programmeOffer b.offer) else s).handoffs
    split
    · exact alarmsIn_append L.handoffs (untracked_one rfl)
    · exact L.handoffs
  | alarm a =>
    intro q k x hx
    refine (List.mem_append.mp hx).elim (L.handoffs q k x) fun hm => ?_
    injection List.mem_singleton.mp hm with _ _ hx
    exact hb x (by rw [hx])

theorem handToOwner_limits (p : Port) (hop : Nat) {b : FloodBody} (hb : ∀ a, b = .alarm a → a.zones.length ≤ 8) :
    Limits (s.handToOwner p hop b) :=
  limits_of_within L (handToOwner_within s p hop b) (.cons (alarmsIn_handToOwner L p hop hb) .nil)

theorem enterKey_limits (k : Key) : Limits (s.enterKey k) :=
  limits_of_within L (enterKey_within s k) (.cons (enterKey_dlcOk L.dlc k) (.hpt .nil))

theorem dispatchFlood_limits (p : Port) {f : Frame} (hf : ∀ a, f.body = .alarm a → a.zones.length ≤ 8) : Limits (s.dispatchFlood p f) :=
  limits_ite (fun _ => handToOwner_limits L p _ hf) (fun _ => limits_ite (fun _ => L) (fun _ =>
    relay_limits (handToOwner_limits (enterKey_limits L _) p _ hf) _ _ _ _ _))

theorem execFrameArrival_limits (p : Port) (w : Bool) (bytes : List Byte) : Completes (execFrameArrival p w bytes s) Limits := by
  have running : ∀ a, readFrame bytes = some a → Limits (s.arriveRunning p w a) := fun a ha => by
    refine limits_ite (fun _ => L) (fun _ => ?_)
    cases a with
    | advert f => exact limits_ite (fun _ => L) (fun _ => limits_of_events L (handOff_within s _) (handOff_noNew s rfl))
    | flooded f =>
      exact limits_ite (fun _ => L) (fun _ => limits_ite (fun _ => L) (fun _ => dispatchFlood_limits L p fun a hb => readFrame_alarm ha hb))
  have fallback : ∀ a, Limits (s.arriveFallback p w a) := fun a => by
    refine limits_ite (fun _ => L) (fun _ => ?_)
    cases a with
    | advert f => exact L
    | flooded f => exact limits_ite (fun _ => L) (fun _ => relay_limits (enterKey_limits L _) _ _ _ _ _)
  unfold execFrameArrival
  cases ha : readFrame bytes with
  | none => exact completes_next L
  | some a =>
    cases s.pfl.node with
    | starting => exact completes_next L
    | running => exact completes_next (running a ha)
    | fallback => exact completes_next (fallback a)

omit L in
theorem clearChanged_entryOk {horizon : Nat} {e : Entry} (h : EntryOk horizon e) (p : Port) : EntryOk horizon (clearChanged p e) := by
  cases p <;> exact ⟨h.best, h.adv, h.anchor⟩

/-- The marks an ADVERT's start clears are no costs. -/
theorem clearMarks_limits (p : Port) (b : BlockIx) : Limits (s.clearMarks p b) := by
  have hentry : ∀ d : DestIx, ∃ x y, (s.clearMarks p b).rtu.table[d] = { s.rtu.table[d] with changedDA := x, changedDB := y } := fun d => by
    simp only [State.clearMarks, tabulate_get]
    split
    · cases p <;> exact ⟨_, _, rfl⟩
    · exact ⟨_, _, rfl⟩
  have costs : CostsOk (s.clearMarks p b) := by
    obtain ⟨hh, hl, ht, he⟩ := costsOk_iff.mp L.costs
    refine costsOk_iff.mpr ⟨hh, hl, fun d => ?_, fun hr d => ?_⟩ <;> obtain ⟨x, y, hxy⟩ := hentry d <;> rw [hxy]
    · exact ⟨(ht d).best, (ht d).adv, (ht d).anchor⟩
    · exact he hr d
  exact limits_of_within L (marksOnStart_within s p (.advert b)) (.cons costs (.cons trivial .nil))

theorem execTransmissionStart_limits (p : Port) : Completes (execTransmissionStart p s) Limits := by
  unfold execTransmissionStart
  dsimp only
  split
  · next name _ _ =>
    have hport : Limits (s.setPort p ((s.dlc.ports.get p).launch (fun b => advertFrameBytes (buildAdvert s b)) name)) :=
      setPort_limits L p (launch_queueOk (L.dlc.2 p) _ _)
    cases name with
    | advert b => exact completes_next (clearMarks_limits hport p b)
    | _ => exact completes_next hport
  · exact completes_next L

theorem afterCollision_limits (p : Port) (c : Collided) : Limits (s.afterCollision p c) :=
  limits_of_within L (afterCollision_within s p c) (.cons trivial (.cons (afterCollision_dlcOk L.dlc p c) (.hpt .nil)))

theorem execCollision_limits (p : Port) : Completes (execCollision p s) Limits := by
  unfold execCollision
  dsimp only
  split
  · refine completes_next (afterCollision_limits (limits_of_within (setPort_limits L p ?_) (spendFree_within _) (.cons trivial .nil)) p _)
    exact collide_queueOk (L.dlc.2 p) _
  · exact completes_next L

theorem execBackoffExpiry_limits (p : Port) : Completes (execBackoffExpiry p s) Limits := by
  unfold execBackoffExpiry
  dsimp only
  split
  · exact completes_next (setPort_limits L p (L.dlc.2 p))
  · exact completes_next L

theorem execTransmissionComplete_limits (p : Port) : Completes (execTransmissionComplete p s) Limits := by
  unfold execTransmissionComplete
  dsimp only
  split
  · exact completes_next (setPort_limits L p (finish_queueOk (L.dlc.2 p) _))
  · exact completes_next L

theorem markUrgent_limits (p : Port) (b : BlockIx) : Limits (s.markUrgent p b) :=
  limits_of_within L (markUrgent_within s p b) (.cons trivial (.cons (markUrgent_dlcOk L.dlc p b) .nil))

theorem urgeChanged_limits (p : Port) : Limits (s.urgeChanged p) :=
  limits_of_within L (urgeChanged_within s p) (.cons trivial (.cons (urgeChanged_dlcOk L.dlc p) .nil))

theorem rotatePort_limits (p : Port) : Limits (s.rotatePort p) :=
  limits_of_within L (rotatePort_within s p) (.cons trivial (.cons (rotatePort_dlcOk L.dlc p) .nil))

theorem adu_limits (a : Adu) : Limits { s with adu := a } :=
  ⟨L.ring, L.notices, L.items, L.queueDA, L.queueDB, L.clock, L.muster, L.crowds, L.zones, L.alarms, L.timer, L.pool,
    costsOk_same L.costs rfl rfl⟩

theorem execAduProfileLoad_limits : Completes (execAduProfileLoad s) Limits :=
  .ite (fun _ => completes_next (urgeChanged_limits (urgeChanged_limits (adu_limits (take_limits L _) _) .da) .db))
    (fun _ => completes_next (take_limits L _))

omit L in
theorem untracked_receipt (self : Byte) (l : LegIx) (b : BlockIx) (f : AdvertFrame) :
    Untracked (.advertArrival l :: (indices 16).map (entryWrite self l b f)) := by
  intro e he
  rcases List.mem_cons.mp he with rfl | he
  · rfl
  · obtain ⟨i, -, rfl⟩ := List.mem_map.mp he
    rfl

theorem execAdvertReceipt_limits (p : Port) (f : AdvertFrame) : Completes (execAdvertReceipt p f s) Limits := by
  refine .ite (fun _ => ?_) (fun _ => completes_next (take_limits L _))
  split
  · exact completes_next (limits_of_events (take_limits L _) (handOffs_within _ _) (handOffs_noNew _ (untracked_receipt _ _ _ f)))
  · exact completes_next (take_limits L _)

/-! ### Routes -/

theorem recompute_limits (hr : s.running = true) (ds : List DestIx) : Limits (s.recompute ds) :=
  limits_of_within L (recompute_within s ds)
    (.cons (costsOk_recompute L.costs hr ds) (.cons ((recompute_noNew s ds).alarmsIn L.handoffs) .nil))

/-- A route table written in RUNNING, its entries within the horizon. -/
theorem rtu_limits (hr : s.running = true) {r : Rtu} (h : TableOk s.pfl.profile.horizon r.table) : Limits { s with rtu := r } :=
  ⟨L.ring, L.notices, L.items, L.queueDA, L.queueDB, L.clock, L.muster, L.crowds, L.zones, L.alarms, L.timer, L.pool,
    costsOk_of_table L.costs hr rfl h⟩

theorem Limits.table : TableOk s.pfl.profile.horizon s.rtu.table := (costsOk_iff.mp L.costs).2.2.1

theorem execRtuProfileLoad_limits : Completes (execRtuProfileLoad s) Limits := by
  refine .ite (fun _ => completes_next L) (fun _ => .ite (fun h => completes_next ?_) (fun _ => completes_next (take_limits L _)))
  have hr : s.running = true := (Bool.and_eq_true_iff.mp h).1
  have htake : Limits (s.take .rtuProfileLoad) := take_limits L _
  exact recompute_limits (rtu_limits htake hr (tableOk_installAnchors htake.costs.listed htake.table)) hr _

theorem execAdvertisedCostWrite_limits (l : LegIx) (d : DestIx) (v : Cost) : Completes (execAdvertisedCostWrite l d v s) Limits := by
  refine .ite (fun h => completes_next ?_) (fun _ => completes_next (take_limits L _))
  have hr : s.running = true := (Bool.and_eq_true_iff.mp (Bool.and_eq_true_iff.mp h).1).1
  have htable := L.table
  have hstore : EntryOk s.pfl.profile.horizon
      { s.rtu.table[d] with adv := setAt s.rtu.table[d].adv l (storedCost s.pfl.profile.horizon v) } := by
    refine ⟨(htable d).best, fun k => ?_, (htable d).anchor⟩
    by_cases hk : l = k
    · subst hk; rw [setAt_same]; exact costWithin_storedCost _ _
    · rw [setAt_other _ _ _ _ hk]; exact (htable d).adv k
  exact recompute_limits (rtu_limits (r := ((s.take (.advertisedCostWrite l d v)).storeAdvertised l d v).rtu)
    (take_limits L _) hr (tableOk_setAt htable d hstore)) hr _

omit L in
theorem tableOk_forgetLeg {horizon : Nat} {t : Vector Entry 64} (h : TableOk horizon t) (l : LegIx) : TableOk horizon (forgetLeg t l) := by
  intro d
  unfold forgetLeg
  rw [tabulate_get]
  refine ⟨(h d).best, fun k => ?_, (h d).anchor⟩
  by_cases hk : l = k
  · subst hk; rw [setAt_same]; exact costWithin_unknown _
  · rw [setAt_other _ _ _ _ hk]; exact (h d).adv k

theorem execLegReport_limits (r : LegReport) : Completes (execLegReport r s) Limits := by
  refine .ite (fun h => completes_next ?_) (fun _ => completes_next (take_limits L _))
  have hr : s.running = true := (Bool.and_eq_true_iff.mp (Bool.and_eq_true_iff.mp h).1).1
  have hwrite : ∀ paces, Limits { s.take (.legReport r) with
      rtu := { table := if r.link = some .silent then forgetLeg s.rtu.table r.leg else s.rtu.table, legs := paces } } := fun paces => by
    refine rtu_limits (take_limits L _) hr ?_
    dsimp only
    split
    · exact tableOk_forgetLeg L.table _
    · exact L.table
  exact limits_ite (fun _ => recompute_limits (hwrite _) hr _) (fun _ => hwrite _)

/-! ### Legs -/

theorem legs_limits {t : State} (h : Within [.lgm, .handoffs] s t) (hc : crowdsOk t.lgm.legs) (k : NoNew s t) : Limits t :=
  limits_of_within L h (.cons hc (.cons (k.alarmsIn L.handoffs) .nil))

theorem setLeg_limits (l : LegIx) {r : LegRecord} (hr : r.crowd ≤ 7) : Limits (s.setLeg l r) :=
  limits_of_within L (setLeg_within s l r) (.cons (crowdsOk_setAt L.crowds l hr) .nil)

theorem lgm_limits {g : Lgm} (h : crowdsOk g.legs) : Limits { s with lgm := g } :=
  ⟨L.ring, L.notices, L.items, L.queueDA, L.queueDB, L.clock, L.muster, h, L.zones, L.alarms, L.timer, L.pool, costsOk_same L.costs rfl rfl⟩

theorem announceDoors_limits (ls : List LegIx) : Limits (ls.foldl State.announceDoor s) :=
  limits_of_within L (Within.foldl announceDoor_within _ _)
    (.cons (announceDoors_crowdsOk L.crowds ls) (.cons (announceDoors_dlcOk L.dlc ls) (.hpt .nil)))

theorem execLgmProfileLoad_limits : Completes (execLgmProfileLoad s) Limits := by
  refine .ite (fun _ => completes_next ?_) (fun _ => completes_next (take_limits L _))
  refine announceDoors_limits (lgm_limits (take_limits L .lgmProfileLoad) fun l => ?_) _
  rw [tabulate_get, evaluated_crowd]
  exact Nat.zero_le _

theorem execAdvertArrival_limits (l : LegIx) : Completes (execAdvertArrival l s) Limits := by
  refine .ite (fun _ => completes_next ?_) (fun _ => completes_next (take_limits L _))
  have hmove : ∀ r es, r.crowd ≤ 7 → Untracked es → Limits ((s.setLeg l r).takeGiving (.advertArrival l) es) := fun r es hr hes =>
    limits_of_events (setLeg_limits L l hr) (takeGiving_within _ _ _) (takeGiving_noNew _ _ hes)
  have hcrowd : (if s.lgm.legs[l].link = .up then s.lgm.legs[l].heard else s.evaluated s.lgm.legs[l].heard).crowd ≤ 7 := by
    split
    · exact L.crowds l
    · rw [evaluated_crowd]; exact L.crowds l
  exact limits_ite (fun _ => notice_limits (hmove _ _ hcrowd (untracked_reportEvents _)) _)
    (fun _ => hmove _ _ hcrowd (untracked_reportEvents _))

theorem execSilenceTimerExpiry_limits (l : LegIx) : Completes (execSilenceTimerExpiry l s) Limits := by
  refine .ite (fun _ => completes_next ?_) (fun _ => completes_next L)
  refine notice_limits (limits_of_events (setLeg_limits L l ?_) (handAhead_within _ _ _) (handAhead_noNew _ _ (untracked_reportEvents _))) _
  rw [evaluated_crowd]
  exact L.crowds l

theorem originateDoor_limits (l : LegIx) : Limits (s.originateDoor l) :=
  limits_of_within L (originateDoor_within s l) (.cons (originateDoor_crowdsOk L.crowds l) (.cons (originateDoor_dlcOk L.dlc l) (.hpt .nil)))

theorem changeLeg_limits (l : LegIx) {f : LegRecord → LegRecord} (hf : (f s.lgm.legs[l]).crowd ≤ 7) : Limits (s.changeLeg l f) :=
  legs_limits L (changeLeg_within s l f) (changeLeg_crowdsOk L.crowds l hf) (changeLegTo_noNew s l _)

theorem setDoor_limits (l : LegIx) (d : DoorInput) : Limits (s.setDoor l d) := limits_of_within L (setDoor_within s l d) (.cons L.crowds .nil)

theorem execDoorLevelTaken_limits (l : LegIx) : Completes (execDoorLevelTaken l s) Limits := by
  refine .ite (fun _ => completes_next ?_) (fun _ => completes_next L)
  have hdoor := setDoor_limits L l { s.lgm.doors[l] with wait := false }
  exact limits_ite (fun _ => hdoor) (fun _ => originateDoor_limits (changeLeg_limits hdoor l (hdoor.crowds l)) l)

theorem applyCondition_limits (c : ConditionBody) : Limits (s.applyCondition c) :=
  legs_limits L (applyCondition_within s c) (applyCondition_crowdsOk L.crowds c) (applyCondition_noNew s c)

theorem reevaluateAll_limits : Limits s.reevaluateAll :=
  legs_limits L (reevaluateAll_within s) (reevaluateAll_crowdsOk L.crowds) (reevaluateAll_noNew s)

/-! ### Muster, clock, programme -/

theorem muc_limits {m : Muc} (h : MucOk m) : Limits { s with muc := m } :=
  ⟨L.ring, L.notices, L.items, L.queueDA, L.queueDB, L.clock, h.1, L.crowds, h.2.1, L.alarms, h.2.2, L.pool, costsOk_same L.costs rfl rfl⟩

theorem adopt_limits (e : Word) (ph : Phase) (o : Byte) {z : List Byte} (hz : z.length ≤ 8) : Limits (s.adopt e ph o z) :=
  limits_of_within L (adopt_within s e ph o z)
    (.cons (adopt_mucOk s e ph o hz) (.hpt (.cons ((adopt_noNew s e ph o z).alarmsIn L.handoffs) .nil)))

theorem execMucProfileLoad_limits : Completes (execMucProfileLoad s) Limits := by
  refine .ite (fun _ => completes_next ?_) (fun _ => completes_next (take_limits L _))
  have hplace : Limits (s.take .mucProfileLoad).placeAlarm := placeAlarm_limits (take_limits L _)
  refine limits_of_events (muc_limits hplace ?_) (handOff_within _ _) (handOff_noNew _ rfl)
  exact ⟨hplace.muster, hplace.zones, standDownAtLoad_le hplace.muc⟩

theorem execAlarmReceipt_limits (p : Port) (hop : Nat) {a : AlarmBody} (ha : a.zones.length ≤ 8) :
    Completes (execAlarmReceipt p hop a s) Limits := by
  have htake := take_limits L (.alarmReceipt p hop a)
  unfold execAlarmReceipt
  cases phaseOfCode a.phaseCode with
  | none => exact completes_next htake
  | some ph =>
    exact .ite (fun _ => completes_next (relay_limits (adopt_limits htake _ _ _ ha) _ _ _ _ _)) (fun _ => completes_next htake)

theorem execStandDownTimerExpiry_limits : Completes (execStandDownTimerExpiry s) Limits := by
  refine .ite (fun _ => completes_next ?_) (fun _ => completes_next L)
  have hquiet : Limits ({ s with muc := s.muc.toQuiet } : State).setMusterChange := by
    refine limits_of_within (muc_limits L ?_) (setMusterChange_within _) (.hpt .nil)
    exact ⟨L.muster, L.zones, Nat.zero_le _⟩
  exact limits_ite (fun _ => limits_of_events hquiet (handOffs_within _ _) (handOffs_noNew _ (untracked_quietHandOffs _))) (fun _ => hquiet)

theorem clockMoves_limits {c : Sck} (h : clockOk c) : Limits (s.clockMoves c) :=
  limits_of_within L (clockMoves_within s c)
    (.cons (by unfold BlockOk; rw [clockMoves_sck]; exact h) (.cons ((clockMoves_noNew s c).alarmsIn L.handoffs) .nil))

theorem execClockFrameReceipt_limits (c : ClockBody) : Completes (execClockFrameReceipt c s) Limits := by
  refine completes_next (limits_ite (fun h => ?_) (fun _ => take_limits L _))
  simp only [Bool.and_eq_true, Bool.not_eq_true'] at h
  obtain ⟨hm, hs⟩ := clockOk_of_not_ignores h.2
  exact clockMoves_limits (take_limits L (.clockFrameReceipt c)) ⟨byte_le _, hm, hs⟩

theorem plu_limits {p : Plu} (h : itemsOk p.items) : Limits { s with plu := p } :=
  ⟨L.ring, L.notices, h, L.queueDA, L.queueDB, L.clock, L.muster, L.crowds, L.zones, L.alarms, L.timer, L.pool, costsOk_same L.costs rfl rfl⟩

theorem execMinuteEventPlu_limits (old : Option Nat) (new : Nat) : Completes (execMinuteEventPlu old new s) Limits := by
  have htake := take_limits L (.minuteEventPlu old new)
  have hplu := plu_limits htake (itemsOk_atMinute htake.items new)
  unfold execMinuteEventPlu
  dsimp only
  split
  · exact completes_next (limits_of_events hplu (handOffs_within _ _) (handOffs_noNew _ (untracked_minuteReports _ _)))
  · exact completes_next hplu
  · exact completes_next htake

theorem offer_limits (o : Offer) : Limits (s.offer o).1 :=
  limits_of_within L (offer_within s o) (.cons (offer_itemsOk L.items o) (.cons ((offer_noNew s o).alarmsIn L.handoffs) (.hpt .nil)))

theorem hostOffer_limits (o : Offer) (t m : Word) : Limits (s.hostOffer o t m).1 :=
  limits_ite (fun _ => originate_limits (offer_limits L o) _) (fun _ => offer_limits L o)

/-! ### Faces and the face string -/

theorem fcu_limits (c : Fcu) : Limits { s with fcu := c } :=
  ⟨L.ring, L.notices, L.items, L.queueDA, L.queueDB, L.clock, L.muster, L.crowds, L.zones, L.alarms, L.timer, L.pool,
    costsOk_same L.costs rfl rfl⟩

theorem fsc_limits {c : Fsc} (h : poolOk c) : Limits { s with fsc := c } :=
  ⟨L.ring, L.notices, L.items, L.queueDA, L.queueDB, L.clock, L.muster, L.crowds, L.zones, L.alarms, L.timer, h,
    costsOk_same L.costs rfl rfl⟩

theorem pca_limits (p : Pca) : Limits { s with pca := p } :=
  ⟨L.ring, L.notices, L.items, L.queueDA, L.queueDB, L.clock, L.muster, L.crowds, L.zones, L.alarms, L.timer, L.pool,
    costsOk_same L.costs rfl rfl⟩

theorem recomputeFaces_limits (which : FaceConfig → Bool) : Limits (s.recomputeFaces which) :=
  limits_of_events L (recomputeFaces_within s which) (recomputeFaces_noNew s which)

theorem recomputeFace_limits (f : FaceIx) : Limits (s.recomputeFace f) :=
  limits_of_events L (recomputeFace_within s f) (recomputeFace_noNew s f)

theorem execFcuProfileLoad_limits : Completes (execFcuProfileLoad s) Limits :=
  .ite (fun _ => completes_next (recomputeFaces_limits (fcu_limits (take_limits L _) _) _)) (fun _ => completes_next (take_limits L _))

theorem rotateFaces_limits (fs : List FaceIx) : Limits (fs.foldl State.rotateFace s) := by
  refine List.foldlRecOn (motive := Limits) _ _ L fun t ht f _ => ?_
  unfold State.rotateFace
  split
  · exact limits_ite (fun _ => recomputeFace_limits (fcu_limits ht _) f) (fun _ => ht)
  · exact ht

theorem clearHostHolds_limits : Limits s.clearHostHolds := by
  refine fsc_limits L ((poolUsed_le fun f => ?_).trans L.pool)
  rw [tabulate_get]
  exact le_rfl

omit L in
theorem poolUsed_eq_sum (c : Fsc) : c.poolUsed = ∑ f : FaceIx, c.words[f].poolUse := by
  rw [Fsc.poolUsed, indices, List.map_ofFn, List.sum_ofFn]
  rfl

omit L in
/-- A face word written takes no more than the slots it adds. -/
theorem poolUsed_setWord_le (s : State) (f : FaceIx) {w : FaceWord} {n : Nat} (h : w.poolUse ≤ s.fsc.words[f].poolUse + n) :
    (s.setWord f w).fsc.poolUsed ≤ s.fsc.poolUsed + n := by
  rw [poolUsed_eq_sum, poolUsed_eq_sum]
  calc ∑ g : FaceIx, (s.setWord f w).fsc.words[g].poolUse
      ≤ ∑ g : FaceIx, (s.fsc.words[g].poolUse + if f = g then n else 0) := Finset.sum_le_sum fun g _ => by
        by_cases hg : f = g
        · subst hg; rw [setWord_word, if_pos rfl]; exact h
        · rw [setWord_word_other hg, if_neg hg]; exact le_rfl
    _ = ∑ g : FaceIx, s.fsc.words[g].poolUse + n := by rw [Finset.sum_add_distrib, Finset.sum_ite_eq]; simp

theorem execFscProfileLoad_limits : Completes (execFscProfileLoad s) Limits := by
  refine .ite (fun _ => completes_next ?_) (fun _ => completes_next (take_limits L _))
  have hpoll : ∀ (u : State) (f : FaceIx), StringWithin u (u.pollAtLoad f) ∧ StringKeeps u (u.pollAtLoad f) := fun u f =>
    ⟨.ite (pollFallsDue_within u f) (.refl _ u), .ite (fun _ => pollFallsDue_keeps u f) (fun _ => .refl u)⟩
  refine recomputeFaces_limits (limits_of_string (fsc_limits (take_limits L .fscProfileLoad) ?_)
    (Within.foldl (fun u f => (hpoll u f).1) _ _) (.foldl (fun u f => (hpoll u f).2) _ _)) _
  refine le_trans (le_of_eq ?_) (Nat.zero_le 64)
  rw [poolUsed_eq_sum]
  exact Finset.sum_eq_zero fun f _ => by rw [tabulate_get]; rfl

theorem execFaceReply_limits (bytes : List Byte) : Completes (execFaceReply bytes s) Limits := by
  have harb := limits_of_string L (arbitrate_within s) (arbitrate_keeps s)
  unfold execFaceReply
  dsimp only
  split
  · cases readReply _ true bytes with
    | none => exact completes_next harb
    | some x => exact completes_next (limits_of_string harb (drawReply_within _ _ _ x) (drawReply_keeps _ _ _ x))
  · cases readReply _ false bytes with
    | none => exact completes_next harb
    | some x => exact completes_next (limits_of_string harb (pollReply_within _ _ _ x) (pollReply_keeps _ _ _ x))
  · exact completes_next harb

theorem execReplyWaitExpiry_limits : Completes (execReplyWaitExpiry s) Limits := by
  have harb := limits_of_string L (arbitrate_within s) (arbitrate_keeps s)
  unfold execReplyWaitExpiry
  dsimp only
  split
  · exact completes_next (limits_of_string harb (drawSilent_within _ _ _) (drawSilent_keeps _ _ _))
  · exact completes_next (limits_of_string harb (pollSilent_within _ _) (pollSilent_keeps _ _))
  · exact completes_next harb

theorem fetchFault_limits (i : Fin 16) : Limits (s.fetchFault i) := limits_of_string L (fetchFault_within s i) (fetchFault_keeps s i)

theorem fetching_limits : Limits s.fetching := limits_of_string L (fetching_within s) (fetching_keeps s)

theorem execFetchHeaderRead_limits (m k hi lo : Byte) : Completes (execFetchHeaderRead m k hi lo s) Limits := by
  unfold execFetchHeaderRead
  dsimp only
  split
  · exact completes_next (limits_ite (fun _ => pca_limits (fetching_limits L) _) (fun _ => fetchFault_limits (fetching_limits L) _))
  · exact completes_next (fetching_limits L)

theorem execFetchNoAnswer_limits : Completes (execFetchNoAnswer s) Limits := by
  unfold execFetchNoAnswer
  dsimp only
  split
  · exact completes_next (fetchFault_limits (fetching_limits L) _)
  · exact completes_next (fetching_limits L)

theorem execFetchEndGood_limits (body : List Byte) : Completes (execFetchEndGood body s) Limits := by
  unfold execFetchEndGood
  split
  · exact completes_next (limits_ite (fun _ => limits_of_string L (fetchGood_within _ _ _) (fetchGood_keeps _ _ _)) (fun _ => L))
  · exact completes_next L

/-! ### Host commands -/

omit L in
theorem active_none_of_idle {w : FaceWord} (hs : w.suppliedActive = false) (hg : w.generatedActive = false) : w.active = none := by
  unfold FaceWord.suppliedActive FaceWord.generatedActive at *
  cases hw : w.active with
  | none => rfl
  | some c =>
    rw [hw, Option.any_some] at hs hg
    rw [hg] at hs
    exact absurd hs (by decide)

/-- A face word takes slots the pool has free. -/
theorem setWord_limits_of_free (f : FaceIx) {w : FaceWord} {n : Nat} (hfree : ¬ s.fsc.poolFree < n)
    (hw : w.poolUse ≤ s.fsc.words[f].poolUse + n) : Limits (s.setWord f w) := by
  refine fsc_limits L ((poolUsed_setWord_le s f hw).trans ?_)
  have hpool : s.fsc.poolUsed ≤ 64 := L.pool
  have hroom : n ≤ 64 - s.fsc.poolUsed := not_lt.mp hfree
  show s.fsc.poolUsed + n ≤ 64
  omega

/-- A supplied chain the host starts fits the pool's free slots (R177). -/
theorem startChain_limits (f : FaceIx) (rs : List SuppliedRecord) : Limits (s.startChain f rs).1 := by
  unfold State.startChain
  dsimp only
  split
  · exact L
  split
  · exact L
  split
  · exact L
  split
  · exact L
  next hidle hfree =>
    simp only [Bool.or_eq_true, not_or, Bool.not_eq_true] at hidle
    obtain ⟨⟨hsupplied, hpending⟩, -⟩ := hidle
    split
    · exact limits_of_string L (giveEnding_within s f _) (giveEnding_keeps s f _)
    split
    · refine setWord_limits_of_free L f hfree ?_
      unfold FaceWord.poolUse
      rw [add_assoc]
      exact Nat.add_le_add_left (Nat.le_add_left _ _) _
    · next hgen =>
      have hissue : Limits s.issue := limits_of_string L (issue_within s) (issue_keeps s)
      refine limits_of_string (setWord_limits_of_free hissue f hfree (Nat.le_add_left _ _)) (settle_within _ f) (settle_keeps _ f)

theorem raisePhase_limits (code : Byte) (zones : List Byte) : Limits (s.raisePhase code zones).1 := by
  unfold State.raisePhase
  split
  · exact L
  · split
    · exact L
    · next h => exact placeAlarm_limits (adopt_limits L _ _ _ (not_lt.mp (not_or.mp h).1))

theorem setClockCommand_limits (params : List Byte) : Limits (s.setClockCommand params).1 := by
  unfold State.setClockCommand
  dsimp only
  split
  · exact L
  · next h =>
    obtain ⟨hm, hs⟩ := not_or.mp h
    refine limits_of_within L (setClockByHost_within s _ _ _) (.cons ?_ (.cons ?_ (.cons ?_ (.hpt .nil))))
    · unfold BlockOk
      rw [setClockByHost_sck]
      exact ⟨byte_le _, not_lt.mp hm, not_lt.mp hs⟩
    · exact (setClockByHost_noNew s _ _ _).alarmsIn L.handoffs
    · refine originate_dlcOk ?_ _
      rw [State.setClock, (clockMoves_within _ _).same .dlc (by simp)]
      exact L.dlc

theorem setCondition_limits (params : List Byte) : Limits (s.setCondition params).1 := by
  unfold State.setCondition
  dsimp only
  split
  · have hseq : Limits s.nextCondSeq := lgm_limits L L.crowds
    dsimp only
    exact originate_limits (applyCondition_limits hseq _) _
  · exact L

theorem withdrawItem_limits (id : Nat) (t m : Word) : Limits (s.withdrawItem id t m).1 := by
  unfold State.withdrawItem
  split
  · exact L
  · split
    · exact L
    · exact hostOffer_limits L _ t m

omit L in
theorem takeHead_limits (t : State) (L : Limits t) : Limits t.takeHead.1 := by
  unfold State.takeHead
  split
  · exact L
  · next n rest h =>
    have hle := L.notices
    rw [h] at hle
    exact hpt_limits L ((Nat.le_succ _).trans hle)

omit L in
theorem readStatus_limits (t : State) (L : Limits t) : Limits t.readStatus.1 := by
  unfold State.readStatus
  split
  · exact limits_of_within L (spendFree_within t) (.cons trivial .nil)
  · exact hpt_limits L L.notices

end

/-- A response of a host command with a check on an operand before the owner's part. -/
theorem limits_ite_fst {c : Prop} [Decidable c] {a b : State × Response} (ha : Limits a.1) (hb : Limits b.1) :
    Limits (if c then a else b).1 := by
  split <;> assumption

/-- Every command keeps the limits; an ALARM receipt brings a list within its limit. -/
theorem exec_limits (i : Instr) {s : State} (L : Limits s) (hi : ∀ p hop a, i = .alarmReceipt p hop a → a.zones.length ≤ 8) :
    Completes (exec i s) Limits := by
  cases i with
  | start => exact completes_next (start_limits L)
  | profileReadEnd m => exact execProfileReadEnd_limits L m
  | profileFrameNotReady m =>
    exact completes_next (limits_ite (fun hr => enterFallback_limits L _ (not_running_of_reading hr)) (fun _ => L))
  | fallbackPageReadEnd f => exact execFallbackPageReadEnd_limits L f
  | rtuProfileLoad => exact execRtuProfileLoad_limits L
  | lgmProfileLoad => exact execLgmProfileLoad_limits L
  | aduProfileLoad => exact execAduProfileLoad_limits L
  | mucProfileLoad => exact execMucProfileLoad_limits L
  | fcuProfileLoad => exact execFcuProfileLoad_limits L
  | fscProfileLoad => exact execFscProfileLoad_limits L
  | pcaProfileLoad => exact completes_next (take_limits L _)
  | frameArrival p w bytes => exact execFrameArrival_limits L p w bytes
  | transmissionStart p => exact execTransmissionStart_limits L p
  | collision p => exact execCollision_limits L p
  | backoffExpiry p => exact execBackoffExpiry_limits L p
  | transmissionComplete p => exact execTransmissionComplete_limits L p
  | advertReceipt p f => exact execAdvertReceipt_limits L p f
  | advertisedCostWrite l d v => exact execAdvertisedCostWrite_limits L l d v
  | legReport r => exact execLegReport_limits L r
  | changedFlagReport p d =>
    exact .ite (fun _ => completes_next (markUrgent_limits (take_limits L _) p _)) (fun _ => completes_next (take_limits L _))
  | advertTick => exact .ite (fun _ => completes_next (rotatePort_limits (rotatePort_limits L .da) .db)) (fun _ => completes_next L)
  | gapTimerExpiry p => exact completes_next (adu_limits L _)
  | advertArrival l => exact execAdvertArrival_limits L l
  | silenceTimerExpiry l => exact execSilenceTimerExpiry_limits L l
  | doorInputChange l c => exact .ite (fun _ => completes_next L) (fun _ => completes_next (setDoor_limits L l _))
  | doorLevelTaken l => exact execDoorLevelTaken_limits L l
  | conditionApply c => exact completes_next (limits_ite (fun _ => applyCondition_limits (take_limits L _) c) (fun _ => take_limits L _))
  | crowdLifetimeExpiry l =>
    exact .ite (fun _ => completes_next (legs_limits L (changeLegTo_within s l _) (changeLegTo_crowdsOk L.crowds l (Nat.zero_le _))
      (changeLegTo_noNew s l _))) (fun _ => completes_next L)
  | musterReportLgm => exact completes_next (limits_ite (fun _ => reevaluateAll_limits (take_limits L _)) (fun _ => take_limits L _))
  | returnToQuietLgm => exact completes_next (limits_ite (fun _ => reevaluateAll_limits (take_limits L _)) (fun _ => take_limits L _))
  | alarmReceipt p hop a => exact execAlarmReceipt_limits L p hop (hi p hop a rfl)
  | repeatTimerExpiry => exact completes_next (limits_ite (fun _ => placeAlarm_limits L) (fun _ => L))
  | standDownTimerExpiry => exact execStandDownTimerExpiry_limits L
  | secondsTimerExpiry => exact completes_next (limits_ite (fun _ => clockMoves_limits L (clockOk_advance L.clock)) (fun _ => L))
  | clockFrameReceipt c => exact execClockFrameReceipt_limits L c
  | minuteEventPlu old new => exact execMinuteEventPlu_limits L old new
  | programmeOffer o => exact completes_next (limits_ite (fun _ => offer_limits (take_limits L _) o) (fun _ => take_limits L _))
  | changedDestinationReport d => exact completes_next (limits_ite (fun _ => recomputeFaces_limits (take_limits L _) _) (fun _ => take_limits L _))
  | programmeReport v n k => exact completes_next (limits_ite (fun _ => recomputeFaces_limits (take_limits L _) _) (fun _ => take_limits L _))
  | minuteEventFcu old new => exact completes_next (limits_ite (fun _ => recomputeFaces_limits (take_limits L _) _) (fun _ => take_limits L _))
  | musterReportFcu => exact completes_next (limits_ite (fun _ => recomputeFaces_limits (take_limits L _) _) (fun _ => take_limits L _))
  | returnToQuietFcu =>
    exact completes_next (limits_ite (fun _ => recomputeFaces_limits (fcu_limits (clearHostHolds_limits (take_limits L _)) _) _)
      (fun _ => take_limits L _))
  | privacyChange f => exact completes_next (limits_ite (fun _ => recomputeFace_limits (take_limits L _) f) (fun _ => take_limits L _))
  | languageRotationExpiry => exact completes_next (limits_ite (fun _ => rotateFaces_limits L _) (fun _ => L))
  | recordCompleted f d =>
    exact completes_next (limits_ite (fun _ => limits_of_within (take_limits L _) (recordCompleted_within _ f d) (.cons trivial .nil))
      (fun _ => take_limits L _))
  | recordNotCompleted f d =>
    exact completes_next (limits_ite (fun _ => limits_of_within (take_limits L _) (recordNotCompleted_within _ f d) (.cons trivial .nil))
      (fun _ => take_limits L _))
  | suppliedChainEnded f => exact completes_next (limits_ite (fun _ => recomputeFace_limits (take_limits L _) f) (fun _ => take_limits L _))
  | faceBackOnline f =>
    exact completes_next (limits_ite (fun _ => recomputeFace_limits (fcu_limits (take_limits L _) _) f) (fun _ => take_limits L _))
  | heldPageFaultReport => exact completes_next (limits_ite (fun _ => recomputeFaces_limits (take_limits L _) _) (fun _ => take_limits L _))
  | demand f k =>
    exact completes_next (limits_ite (fun _ => limits_of_string (take_limits L _) (takeDemand_within _ f k) (takeDemand_keeps _ f k))
      (fun _ => take_limits L _))
  | candidateAging f a => exact completes_next (limits_of_string L (age_within s f a) (age_keeps s f a))
  | pollDue fs => exact completes_next (limits_of_string L (Within.foldl pollFallsDue_within _ _) (.foldl pollFallsDue_keeps _ _))
  | faceReply bytes => exact execFaceReply_limits L bytes
  | replyWaitExpiry => exact execReplyWaitExpiry_limits L
  | musterAdoptionFsc =>
    exact completes_next (limits_ite (fun _ => limits_of_string (take_limits L _) (Within.foldl musterFace_within _ _)
      (.foldl musterFace_keeps _ _)) (fun _ => take_limits L _))
  | fetchHeaderRead m k hh lo => exact execFetchHeaderRead_limits L m k hh lo
  | fetchNoAnswer => exact execFetchNoAnswer_limits L
  | fetchEndGood body => exact execFetchEndGood_limits L body
  | holdRequest ph => exact completes_next (limits_ite (fun _ => pca_limits (take_limits L _) _) (fun _ => take_limits L _))
  | releaseRequest ph => exact completes_next (limits_ite (fun _ => pca_limits (take_limits L _) _) (fun _ => take_limits L _))
  | unknownCommand c ps => exact completes_next (respond_limits (closeTransaction_limits L) _)
  | status ps => exact completes_next (hostCommand_limits L _ _ readStatus_limits)
  | readNotice ps => exact completes_next (hostCommand_limits L _ _ takeHead_limits)
  | readMuster ps => exact completes_next (hostCommand_limits L _ _ fun t L => hpt_limits L L.notices)
  | readRoute ps =>
    refine completes_next (hostCommand_limits L _ _ fun t L => ?_)
    cases indexOf 64 (byteAt ps 0) <;> exact L
  | readLeg ps =>
    refine completes_next (hostCommand_limits L _ _ fun t L => ?_)
    cases indexOf 6 (byteAt ps 0) <;> exact L
  | readFace ps =>
    refine completes_next (hostCommand_limits L _ _ fun t L => ?_)
    cases indexOf 32 (byteAt ps 0) with
    | none => exact L
    | some f => exact limits_of_string L (readWord_within t f) (readWord_keeps t f)
  | startFaceChain ps =>
    refine completes_next (hostCommand_limits L _ _ fun t L => ?_)
    cases indexOf 32 (byteAt ps 0) with
    | none => exact L
    | some f => exact limits_ite_fst (startChain_limits L f _) L
  | haltFace ps =>
    refine completes_next (hostCommand_limits L _ _ fun t L => ?_)
    cases indexOf 32 (byteAt ps 0) with
    | none => exact L
    | some f => exact limits_ite_fst L (limits_of_string L (haltFace_within t f) (haltFace_keeps t f))
  | releaseFace ps =>
    refine completes_next (hostCommand_limits L _ _ fun t L => ?_)
    cases indexOf 32 (byteAt ps 0) with
    | none => exact L
    | some f => exact limits_ite_fst L (limits_of_string L (releaseHold_within t f) (releaseHold_keeps t f))
  | setFaceLanguage ps =>
    refine completes_next (hostCommand_limits L _ _ fun t L => ?_)
    cases indexOf 32 (byteAt ps 0) with
    | none => exact L
    | some f => exact limits_ite_fst L (limits_of_string L (setLanguage_within t f _) (setLanguage_keeps t f _))
  | loadItem ps => exact completes_next (hostCommand_limits L _ _ fun t L => hostOffer_limits L _ _ _)
  | withdrawItem ps => exact completes_next (hostCommand_limits L _ _ fun t L => withdrawItem_limits L _ _ _)
  | setClock ps => exact completes_next (hostCommand_limits L _ _ fun t L => setClockCommand_limits L ps)
  | raisePhase ps => exact completes_next (hostCommand_limits L _ _ fun t L => raisePhase_limits L _ _)
  | setCondition ps => exact completes_next (hostCommand_limits L _ _ fun t L => setCondition_limits L ps)
  | restart ps => exact completes_next (hostCommand_limits L _ _ fun t L => hpt_limits L L.notices)
  | selectRelease n => exact completes_next (releaseSelect_limits L n)

/-! ### A step -/

/-- What holds after every command, every hand-off and every idle step holds after every step. -/
theorem step_cases {s t : State} (h : step s = .next t) {P : State → Prop}
    (hcommand : ∀ c rest, s.pending = c :: rest → Completes (exec c { s with pending := rest }) P)
    (hevent : ∀ e es, s.handoffs = e :: es → Completes (exec e s) P) (hpick : ∀ c, s.choice = some c → P (s.takeCandidate c))
    (htick : P s.tick) : P t := by
  have of_completes : ∀ {o : Out}, o = .next t → Completes o P → P t := fun ho hP => by
    obtain ⟨u, hu, hP⟩ := hP
    cases ho.symm.trans hu
    exact hP
  cases hp : s.pending with
  | cons c rest => exact of_completes ((step_of_pending hp).symm.trans h) (hcommand c rest hp)
  | nil =>
    cases hh : s.handoffs with
    | cons e es => exact of_completes ((step_of_handoff hp hh).symm.trans h) (hevent e es hh)
    | nil =>
      cases (step_of_nothing_waiting hp hh).symm.trans h
      cases hc : s.choice with
      | some c => rw [idle_of_choice hc]; exact hpick c hc
      | none => rw [idle_of_no_choice hc]; exact htick

theorem pending_limits {s : State} (L : Limits s) {rest : List Instr} (h : ∀ e ∈ rest, e ∈ s.pending) :
    Limits { s with pending := rest } :=
  ⟨L.ring, L.notices, L.items, L.queueDA, L.queueDB, L.clock, L.muster, L.crowds, L.zones,
    alarmsOk_iff.mpr ⟨fun p hop a ha => (alarmsOk_iff.mp L.alarms).1 p hop a (h _ ha), L.handoffs⟩, L.timer, L.pool,
    costsOk_same L.costs rfl rfl⟩

/-- Settles O3: a command's own ALARM, taken from the queue or from the hand-offs, lists at most 8 zones. -/
theorem limitsKeptByEveryStep : Obligations.LimitsKeptByEveryStep := by
  intro s t L h
  refine step_cases h (fun c rest hc => ?_) (fun e es he => ?_) (fun c _ => ?_) (tick_limits L)
  · exact exec_limits c (pending_limits L fun e he => hc ▸ List.mem_cons_of_mem c he) fun p hop a ha =>
      L.alarms p hop a (List.mem_append_left _ (hc ▸ ha ▸ List.mem_cons_self))
  · exact exec_limits e L fun p hop a ha => L.alarms p hop a (List.mem_append_right _ (he ▸ ha ▸ List.mem_cons_self))
  · exact limits_of_string L (takeCandidate_within s c) (takeCandidate_keeps s c)

end Sys2Proof.Machine
end

section
/-! PROOFS. What the operations of the Page Cache keep (R198 to R206): the cache by itself, its pins and its waiters, as the face words
ask for them. -/

namespace Sys2Proof.Machine

/-- A sum over a table with one place written. -/
theorem sum_setAt {α : Type} {n : Nat} (g : α → Nat) (v : Vector α n) (i : Fin n) (x : α) :
    ∑ j : Fin n, g (setAt v i x)[j] + g v[i] = ∑ j : Fin n, g v[j] + g x := by
  rw [← Finset.add_sum_erase _ (fun j : Fin n => g (setAt v i x)[j]) (Finset.mem_univ i),
    ← Finset.add_sum_erase _ (fun j : Fin n => g v[j]) (Finset.mem_univ i), setAt_same]
  have hrest : ∑ j ∈ Finset.univ.erase i, g (setAt v i x)[j] = ∑ j ∈ Finset.univ.erase i, g v[j] :=
    Finset.sum_congr rfl fun j hj => by rw [setAt_other _ _ _ _ (Finset.ne_of_mem_erase hj).symm]
  rw [hrest]
  omega

theorem sum_indices {n : Nat} (g : Fin n → Nat) : ((indices n).map g).sum = ∑ i : Fin n, g i := by
  rw [indices, List.map_ofFn, List.sum_ofFn]
  rfl

/-! ### Waiting face words -/

/-- How often a face word stands among some waiters, if they wait for a page. -/
def waitsAmong (f : FaceIx) (n page : Nat) (ws : List Waiter) : Nat := if page = n then ws.count (.face f) else 0

/-- How often a face word stands among the waiters of a page in the queue. -/
def queueWaits (f : FaceIx) (n : Nat) (q : List QueueEntry) : Nat := (q.map fun e => waitsAmong f n e.page e.waiters).sum

theorem waitsFor_eq (p : Pca) (f : FaceIx) (n : Nat) :
    waitsFor p f n = ∑ i : Fin 16, waitsAmong f n p.slots[i].page p.slots[i].waiters + queueWaits f n p.queue := by
  rw [waitsFor, sum_indices]
  rfl

theorem waitsAmong_nil (f : FaceIx) (n page : Nat) : waitsAmong f n page [] = 0 := by simp [waitsAmong]

theorem waitsAmong_joinWaiter (f : FaceIx) (n page : Nat) (ws : List Waiter) (w : Waiter) :
    waitsAmong f n page (joinWaiter ws w) = waitsAmong f n page ws + if page = n ∧ w = .face f then 1 else 0 := by
  unfold waitsAmong joinWaiter
  by_cases hp : page = n
  · by_cases hh : w = .hold ∧ ws.contains .hold = true
    · rw [if_pos hh, hh.1]
      simp [hp]
    · rw [if_neg hh, List.count_append]
      simp [hp, List.count_singleton]
  · simp [hp]

theorem waitsAmong_filter (f : FaceIx) (n page : Nat) (ws : List Waiter) (drop : Nat → Waiter → Bool) :
    waitsAmong f n page (ws.filter fun w => !drop page w) = if drop n (.face f) then 0 else waitsAmong f n page ws := by
  unfold waitsAmong
  by_cases hp : page = n
  · subst hp
    rw [if_pos rfl, if_pos rfl]
    cases hd : drop page (.face f) with
    | true => exact List.count_eq_zero.mpr fun hm => by simpa [hd] using (List.mem_filter.mp hm).2
    | false => exact List.count_filter (by simp [hd])
  · simp [hp]

theorem queueWaits_append (f : FaceIx) (n : Nat) (q r : List QueueEntry) :
    queueWaits f n (q ++ r) = queueWaits f n q + queueWaits f n r := by
  simp [queueWaits]

/-- Entries without waiters add nothing. -/
theorem queueWaits_filter_nonempty (f : FaceIx) (n : Nat) (q : List QueueEntry) :
    queueWaits f n (q.filter fun e => !e.waiters.isEmpty) = queueWaits f n q := by
  induction q with
  | nil => rfl
  | cons e q ih =>
    have hcons : queueWaits f n (e :: q) = waitsAmong f n e.page e.waiters + queueWaits f n q := rfl
    rw [List.filter_cons, hcons]
    cases he : e.waiters with
    | nil => simpa [waitsAmong_nil] using ih
    | cons w ws => simpa [queueWaits, he] using ih

/-- An entry of a queue whose pages differ, taken out. -/
theorem queueWaits_remove (f : FaceIx) (n : Nat) {q : List QueueEntry} (h : (q.map (·.page)).Nodup) {e : QueueEntry} (he : e ∈ q) :
    queueWaits f n q = waitsAmong f n e.page e.waiters + queueWaits f n (q.filter fun x => x.page != e.page) := by
  induction q with
  | nil => exact absurd he List.not_mem_nil
  | cons x q ih =>
    rw [List.map_cons, List.nodup_cons] at h
    have hcons : ∀ r, queueWaits f n (x :: r) = waitsAmong f n x.page x.waiters + queueWaits f n r := fun r => rfl
    rcases List.mem_cons.mp he with rfl | hq
    · have hrest : q.filter (fun x => x.page != e.page) = q :=
        List.filter_eq_self.mpr fun y hy => bne_iff_ne.mpr fun hp => h.1 (List.mem_map.mpr ⟨y, hy, hp⟩)
      rw [List.filter_cons_of_neg (by simp), hrest, hcons]
    · have hne : x.page ≠ e.page := fun hp => h.1 (List.mem_map.mpr ⟨e, hq, hp.symm⟩)
      have hpos : (x.page != e.page) = true := bne_iff_ne.mpr hne
      rw [List.filter_cons, if_pos hpos, hcons, hcons, ih h.2 hq]
      omega

/-! ### The cache as the face words ask for it -/

/-- The cache by itself, while the waiters of a faulted fetch are told (`faulted`: the fetch is still on the port, and fills no slot), or
not. -/
structure CacheCore (faulted : Bool) (p : Pca) : Prop where
  slots   : ∀ i j : Fin 16, p.slots[i].state ≠ .empty → p.slots[j].state ≠ .empty → p.slots[i].page = p.slots[j].page → i = j
  queued  : ∀ e ∈ p.queue, ∀ i : Fin 16, p.slots[i].state ≠ .empty → p.slots[i].page ≠ e.page
  once    : (p.queue.map (·.page)).Nodup
  awaited : ∀ e ∈ p.queue, e.waiters ≠ []
  filling : ∀ i : Fin 16, p.slots[i].state = .filling ↔ faulted = false ∧ ∃ x, p.fetch = some x ∧ x.slot = i
  port    : faulted = true → p.fetch ≠ none
  waiters : ∀ i : Fin 16, p.slots[i].state ≠ .filling → p.slots[i].waiters = []
  free    : ∀ i : Fin 16, p.slots[i].state ≠ .valid → p.slots[i].pins = 0 ∧ p.slots[i].held = false

theorem cacheCore_iff {p : Pca} : CacheCore false p ↔ CacheOk p :=
  ⟨fun h => ⟨h.slots, h.queued, h.once, h.awaited, fun i => (h.filling i).trans (by simp), h.waiters, h.free⟩,
   fun h => ⟨h.slots, h.queued, h.once, h.awaited, fun i => (h.filling i).trans (by simp), nofun, h.waiters, h.free⟩⟩

/-- The cache pins each page as often as asked, keeps the pinned pages, and has each face word wait as often as asked. -/
structure CacheFits (faulted : Bool) (p : Pca) (pin : Nat → Nat) (wait : FaceIx → Nat → Nat) : Prop where
  core   : CacheCore faulted p
  pins   : ∀ i : Fin 16, p.slots[i].state = .valid → p.slots[i].page ≠ 0 → p.slots[i].pins = pin p.slots[i].page
  pinned : ∀ n, n ≠ 0 → 0 < pin n → pageValid p n
  waits  : ∀ f n, waitsFor p f n = wait f n

/-- The fetch's own fields and the hold set have no part in it. -/
theorem CacheFits.of_same {faulted : Bool} {p q : Pca} {pin : Nat → Nat} {wait : FaceIx → Nat → Nat} (h : CacheFits faulted p pin wait)
    (hs : q.slots = p.slots) (hq : q.queue = p.queue) (hf : q.fetch.map (·.slot) = p.fetch.map (·.slot)) : CacheFits faulted q pin wait := by
  have hfetch : ∀ i : Fin 16, (∃ x, q.fetch = some x ∧ x.slot = i) ↔ ∃ x, p.fetch = some x ∧ x.slot = i := fun i => by
    rw [← Option.map_eq_some_iff, ← Option.map_eq_some_iff, hf]
  obtain ⟨⟨h1, h2, h3, h4, h5, h6, h7, h8⟩, h9, h10, h11⟩ := h
  refine ⟨⟨hs ▸ h1, hq ▸ hs ▸ h2, hq ▸ h3, hq ▸ h4, fun i => ?_, fun hb hn => ?_, hs ▸ h7, hs ▸ h8⟩, hs ▸ h9, fun n hn hp => ?_, fun f n => ?_⟩
  · rw [hs, hfetch]; exact h5 i
  · rw [hn] at hf
    exact h6 hb (Option.map_eq_none_iff.mp hf.symm)
  · unfold pageValid; rw [hs]; exact h10 n hn hp
  · rw [waitsFor_eq, hs, hq, ← waitsFor_eq]; exact h11 f n

/-- Page 0 is never asked for. -/
theorem CacheFits.of_pins {faulted : Bool} {p : Pca} {pin pin' : Nat → Nat} {wait wait' : FaceIx → Nat → Nat}
    (h : CacheFits faulted p pin wait) (hpin : ∀ n, n ≠ 0 → pin' n = pin n) (hwait : ∀ f n, wait' f n = wait f n) :
    CacheFits faulted p pin' wait' :=
  ⟨h.core, fun i hv hn => (h.pins i hv hn).trans (hpin _ hn).symm, fun n hn hp => h.pinned n hn (hpin n hn ▸ hp),
    fun f n => (h.waits f n).trans (hwait f n).symm⟩

theorem fetch_of_filling {faulted : Bool} {p : Pca} (h : CacheCore faulted p) {i : Fin 16} (hi : p.slots[i].state = .filling) :
    faulted = false ∧ ∃ x, p.fetch = some x ∧ x.slot = i := (h.filling i).mp hi

section
variable {faulted : Bool} {p : Pca} {pin : Nat → Nat} {wait : FaceIx → Nat → Nat}

/-! ### Slots of a page -/

theorem validSlot_some {n : Nat} {i : Fin 16} (h : p.validSlot n = some i) : p.slots[i].state = .valid ∧ p.slots[i].page = n := by
  obtain ⟨hs, hv⟩ := Option.filter_eq_some_iff.mp h
  exact ⟨by simpa using hv, (slotOf_some hs).2⟩

/-- In a cache that holds no page twice, the slot of a page is found. -/
theorem slotOf_of_page (hc : CacheCore faulted p) {n : Nat} {i : Fin 16} (hs : p.slots[i].state ≠ .empty) (hp : p.slots[i].page = n) :
    p.slotOf n = some i := by
  cases h : p.slotOf n with
  | none => exact absurd (slotOf_none h i) (not_or.mpr ⟨hs, not_not.mpr hp⟩)
  | some j =>
    obtain ⟨hj, hjp⟩ := slotOf_some h
    rw [hc.slots j i hj hs (hjp.trans hp.symm)]

theorem validSlot_of_page (hc : CacheCore faulted p) {n : Nat} {i : Fin 16} (hs : p.slots[i].state = .valid) (hp : p.slots[i].page = n) :
    p.validSlot n = some i := by
  unfold Pca.validSlot
  rw [slotOf_of_page hc (by rw [hs]; decide) hp]
  simp only [Option.filter, hs]
  rfl

/-- A page that is not VALID stands in no slot, or in one that is being filled. -/
theorem filling_of_not_valid {n : Nat} {i : Fin 16} (hv : p.validSlot n = none) (hs : p.slotOf n = some i) : p.slots[i].state = .filling := by
  obtain ⟨hne, hpage⟩ := slotOf_some hs
  have hnv : p.slots[i].state ≠ .valid := fun h => by
    rw [Pca.validSlot, hs] at hv
    simp only [Option.filter, h] at hv
    exact absurd hv (by simp)
  cases h : p.slots[i].state with
  | empty => exact absurd h hne
  | filling => rfl
  | valid => exact absurd h hnv

/-! ### Waiters taken off (R199, R200, R206) -/

theorem waitsFor_dropWaiters (drop : Nat → Waiter → Bool) (f : FaceIx) (n : Nat) :
    waitsFor (p.dropWaiters drop) f n = if drop n (.face f) then 0 else waitsFor p f n := by
  have hslots : ∑ i : Fin 16, waitsAmong f n (p.dropWaiters drop).slots[i].page (p.dropWaiters drop).slots[i].waiters
      = if drop n (.face f) then 0 else ∑ i : Fin 16, waitsAmong f n p.slots[i].page p.slots[i].waiters := by
    simp only [Pca.dropWaiters, tabulate_get, waitsAmong_filter]
    split <;> simp
  have hqueue : queueWaits f n (p.dropWaiters drop).queue = if drop n (.face f) then 0 else queueWaits f n p.queue := by
    simp only [Pca.dropWaiters, queueWaits_filter_nonempty]
    simp only [queueWaits, List.map_map, Function.comp_def, waitsAmong_filter]
    split <;> simp
  rw [waitsFor_eq, waitsFor_eq, hslots, hqueue]
  split <;> rfl

theorem dropWaiters_slot (drop : Nat → Waiter → Bool) (i : Fin 16) :
    (p.dropWaiters drop).slots[i] = { p.slots[i] with waiters := p.slots[i].waiters.filter fun w => !drop p.slots[i].page w } := by
  simp only [Pca.dropWaiters, tabulate_get]

theorem mem_dropWaiters_queue {drop : Nat → Waiter → Bool} {e : QueueEntry} (h : e ∈ (p.dropWaiters drop).queue) :
    e.waiters ≠ [] ∧ ∃ d ∈ p.queue, d.page = e.page := by
  obtain ⟨hm, hne⟩ := List.mem_filter.mp h
  obtain ⟨d, hd, rfl⟩ := List.mem_map.mp hm
  exact ⟨by simpa using hne, d, hd, rfl⟩

theorem CacheCore.dropWaiters (h : CacheCore faulted p) (drop : Nat → Waiter → Bool) : CacheCore faulted (p.dropWaiters drop) where
  slots i j hi hj hp := by
    rw [dropWaiters_slot] at hi hj hp; rw [dropWaiters_slot] at hp
    exact h.slots i j hi hj hp
  queued e he i hi := by
    obtain ⟨-, d, hd, hpage⟩ := mem_dropWaiters_queue he
    rw [dropWaiters_slot] at hi ⊢
    exact hpage ▸ h.queued d hd i hi
  once := by
    have hsub : ((p.dropWaiters drop).queue.map (·.page)).Sublist (p.queue.map (·.page)) := by
      simp only [Pca.dropWaiters]
      refine (List.filter_sublist.map _).trans ?_
      rw [List.map_map]
      exact List.Sublist.refl _
    exact h.once.sublist hsub
  awaited e he := (mem_dropWaiters_queue he).1
  filling i := by rw [dropWaiters_slot]; exact h.filling i
  port := h.port
  waiters i hi := by
    rw [dropWaiters_slot] at hi ⊢
    dsimp only at hi ⊢
    rw [h.waiters i hi]
    rfl
  free i hi := by rw [dropWaiters_slot] at hi ⊢; exact h.free i hi

theorem CacheFits.dropWaiters (h : CacheFits faulted p pin wait) (drop : Nat → Waiter → Bool) :
    CacheFits faulted (p.dropWaiters drop) pin (fun f n => if drop n (.face f) then 0 else wait f n) where
  core := h.core.dropWaiters drop
  pins i hv hn := by rw [dropWaiters_slot] at hv hn ⊢; exact h.pins i hv hn
  pinned n hn hp := by
    obtain ⟨i, hv, hpage⟩ := h.pinned n hn hp
    exact ⟨i, by rw [dropWaiters_slot]; exact hv, by rw [dropWaiters_slot]; exact hpage⟩
  waits f n := by rw [waitsFor_dropWaiters, h.waits]

/-! ### One slot written -/

/-- A slot written with its page and state kept, and no waiter that is not allowed. -/
theorem CacheCore.setSlot (h : CacheCore faulted p) (i : Fin 16) {c : CacheSlot} (hpage : c.page = p.slots[i].page)
    (hstate : c.state = p.slots[i].state) (hwaiters : c.state ≠ .filling → c.waiters = [])
    (hfree : c.state ≠ .valid → c.pins = 0 ∧ c.held = false) : CacheCore faulted (p.setSlot i c) := by
  have hp : ∀ j : Fin 16, (p.setSlot i c).slots[j].page = p.slots[j].page := fun j => by
    by_cases hij : i = j
    · subst hij; rw [Pca.setSlot, setAt_same]; exact hpage
    · rw [Pca.setSlot, setAt_other _ _ _ _ hij]
  have hst : ∀ j : Fin 16, (p.setSlot i c).slots[j].state = p.slots[j].state := fun j => by
    by_cases hij : i = j
    · subst hij; rw [Pca.setSlot, setAt_same]; exact hstate
    · rw [Pca.setSlot, setAt_other _ _ _ _ hij]
  refine ⟨fun j k => ?_, fun e he j => ?_, h.once, h.awaited, fun j => ?_, h.port, fun j hj => ?_, fun j hj => ?_⟩
  · rw [hst, hst, hp, hp]; exact h.slots j k
  · rw [hst, hp]; exact h.queued e he j
  · rw [hst]; exact h.filling j
  · by_cases hij : i = j
    · subst hij; rw [Pca.setSlot, setAt_same] at hj ⊢; exact hwaiters hj
    · rw [Pca.setSlot, setAt_other _ _ _ _ hij] at hj ⊢; exact h.waiters j hj
  · by_cases hij : i = j
    · subst hij; rw [Pca.setSlot, setAt_same] at hj ⊢; exact hfree hj
    · rw [Pca.setSlot, setAt_other _ _ _ _ hij] at hj ⊢; exact h.free j hj

theorem waitsFor_setSlot (i : Fin 16) (c : CacheSlot) (f : FaceIx) (n : Nat) :
    waitsFor (p.setSlot i c) f n + waitsAmong f n p.slots[i].page p.slots[i].waiters
      = waitsFor p f n + waitsAmong f n c.page c.waiters := by
  have h := sum_setAt (fun c : CacheSlot => waitsAmong f n c.page c.waiters) p.slots i c
  rw [waitsFor_eq, waitsFor_eq]
  simp only [Pca.setSlot]
  omega

theorem waitsFor_setSlot_same {i : Fin 16} {c : CacheSlot} (hpage : c.page = p.slots[i].page) (hw : c.waiters = p.slots[i].waiters)
    (f : FaceIx) (n : Nat) : waitsFor (p.setSlot i c) f n = waitsFor p f n := by
  have h := waitsFor_setSlot (p := p) i c f n
  rw [hpage, hw] at h
  omega

theorem pageValid_setSlot {i : Fin 16} {c : CacheSlot} {n : Nat} (h : pageValid p n) (hpage : c.page = p.slots[i].page := by rfl)
    (hstate : c.state = p.slots[i].state := by rfl) : pageValid (p.setSlot i c) n := by
  obtain ⟨j, hv, hp⟩ := h
  refine ⟨j, ?_, ?_⟩ <;> by_cases hij : i = j
  · subst hij; rw [Pca.setSlot, setAt_same]; exact hstate.trans hv
  · rw [Pca.setSlot, setAt_other _ _ _ _ hij]; exact hv
  · subst hij; rw [Pca.setSlot, setAt_same]; exact hpage.trans hp
  · rw [Pca.setSlot, setAt_other _ _ _ _ hij]; exact hp

/-- A VALID slot's pins written: the pins of its page alone change. -/
theorem CacheFits.setPins (h : CacheFits faulted p pin wait) {i : Fin 16} (hv : p.slots[i].state = .valid)
    {k : Nat} {pin' : Nat → Nat} (hk : pin' p.slots[i].page = k) (hother : ∀ n, n ≠ p.slots[i].page → pin' n = pin n) :
    CacheFits faulted (p.setSlot i { p.slots[i] with pins := k }) pin' wait where
  core := h.core.setSlot i rfl rfl (h.core.waiters i) fun hs => absurd hv hs
  pins j hj hjn := by
    by_cases hij : i = j
    · subst hij; rw [Pca.setSlot, setAt_same]; exact hk.symm
    · rw [Pca.setSlot, setAt_other _ _ _ _ hij] at hj hjn ⊢
      have hne : p.slots[j].page ≠ p.slots[i].page := fun hp => hij (h.core.slots i j (by rw [hv]; decide) (by rw [hj]; decide) hp.symm)
      rw [h.pins j hj hjn, hother _ hne]
  pinned n hn' hp := by
    refine pageValid_setSlot ?_
    by_cases hpage : n = p.slots[i].page
    · exact ⟨i, hv, hpage.symm⟩
    · exact h.pinned n hn' (hother n hpage ▸ hp)
  waits f n := (waitsFor_setSlot_same (c := { p.slots[i] with pins := k }) rfl rfl f n).trans (h.waits f n)

/-- A VALID slot's hold written. -/
theorem CacheFits.setHeld (h : CacheFits faulted p pin wait) {i : Fin 16} (hv : p.slots[i].state = .valid) (b : Bool) :
    CacheFits faulted (p.setSlot i { p.slots[i] with held := b }) pin wait where
  core := h.core.setSlot i rfl rfl (h.core.waiters i) fun hs => absurd hv hs
  pins j hj hjn := by
    by_cases hij : i = j
    · subst hij; rw [Pca.setSlot, setAt_same] at hj hjn ⊢; exact h.pins i hj hjn
    · rw [Pca.setSlot, setAt_other _ _ _ _ hij] at hj hjn ⊢; exact h.pins j hj hjn
  pinned n hn hp := pageValid_setSlot (h.pinned n hn hp)
  waits f n := (waitsFor_setSlot_same (c := { p.slots[i] with held := b }) rfl rfl f n).trans (h.waits f n)

/-! ### The head's fetch (R202) -/

theorem olderSlot_mem {v : Vector CacheSlot 16} {is : List (Fin 16)} {b : Option (Fin 16)} {i : Fin 16}
    (h : is.foldl (olderSlot v) b = some i) : b = some i ∨ v[i].evictable = true := by
  induction is generalizing b with
  | nil => exact .inl h
  | cons k is ih =>
    rcases ih h with hk | hi
    · unfold olderSlot at hk
      split at hk
      · next hev =>
        split at hk
        · cases hk; exact .inr hev
        · split at hk
          · cases hk; exact .inr hev
          · exact .inl hk
      · exact .inl hk
    · exact .inr hi

/-- The slot a fetch takes is EMPTY, or a VALID one neither pinned nor held. -/
theorem chooseSlot_free {i : Fin 16} (h : p.chooseSlot = some i) :
    p.slots[i].state = .empty ∨ (p.slots[i].state = .valid ∧ p.slots[i].pins = 0 ∧ p.slots[i].held = false) := by
  unfold Pca.chooseSlot at h
  cases hempty : (indices 16).find? (fun i => p.slots[i].state == .empty) with
  | some k =>
    rw [hempty] at h
    cases h
    exact .inl (by simpa using List.find?_some hempty)
  | none =>
    rw [hempty] at h
    refine .inr ?_
    simpa [CacheSlot.evictable, and_assoc] using (olderSlot_mem h).resolve_left (by simp)

theorem CacheFits.startFetch (h : CacheFits faulted p pin wait) (hport : p.fetch = none) {e : QueueEntry} (he : e ∈ p.queue) {i : Fin 16}
    (hi : p.chooseSlot = some i) : CacheFits faulted (p.startFetch e i) pin wait := by
  have hgood : faulted = false := by
    cases hb : faulted with
    | false => rfl
    | true => exact absurd hport (h.core.port hb)
  have hidle : ∀ j : Fin 16, p.slots[j].state ≠ .filling := fun j hj => by
    obtain ⟨-, x, hx, -⟩ := fetch_of_filling h.core hj
    rw [hport] at hx
    exact absurd hx (by simp)
  have hslot := chooseSlot_free hi
  have hat : ∀ j : Fin 16, (p.startFetch e i).slots[j] = if i = j then
      { state := .filling, page := e.page, pins := 0, held := false, order := p.slots[i].order, waiters := e.waiters, bytes := [] }
      else p.slots[j] := fun j => by
    by_cases hij : i = j
    · subst hij; rw [Pca.startFetch, setAt_same, if_pos rfl]
    · rw [Pca.startFetch, setAt_other _ _ _ _ hij, if_neg hij]
  have hqueue : ∀ x, x ∈ (p.startFetch e i).queue ↔ x ∈ p.queue ∧ x.page ≠ e.page := fun x => by simp [Pca.startFetch]
  refine ⟨⟨fun j k hj hk hp => ?_, fun x hx j hj => ?_, h.core.once.sublist (List.filter_sublist.map _), fun x hx => h.core.awaited x ((hqueue x).mp hx).1,
    fun j => ?_, fun hb => by simp [Pca.startFetch], fun j hj => ?_, fun j hj => ?_⟩, fun j hj hn => ?_, fun n hn hp => ?_, fun f n => ?_⟩
  · rw [hat] at hj hk hp; rw [hat] at hp
    by_cases hij : i = j <;> by_cases hik : i = k
    · exact hij.symm.trans hik
    · rw [if_pos hij, if_neg hik] at hp
      rw [if_neg hik] at hk
      exact absurd hp.symm (h.core.queued e he k hk)
    · rw [if_neg hij, if_pos hik] at hp
      rw [if_neg hij] at hj
      exact absurd hp (h.core.queued e he j hj)
    · rw [if_neg hij] at hj hp; rw [if_neg hik] at hk hp
      exact h.core.slots j k hj hk hp
  · obtain ⟨hxq, hxp⟩ := (hqueue x).mp hx
    rw [hat] at hj ⊢
    by_cases hij : i = j
    · rw [if_pos hij]; exact hxp.symm
    · rw [if_neg hij] at hj ⊢; exact h.core.queued x hxq j hj
  · rw [hat]
    by_cases hij : i = j
    · simp [hij, hgood, Pca.startFetch]
    · rw [if_neg hij]
      refine iff_of_false (hidle j) fun ⟨_, x, hx, hxs⟩ => hij ?_
      cases hx
      exact hxs
  · rw [hat] at hj ⊢
    by_cases hij : i = j
    · rw [if_pos hij] at hj; exact absurd rfl hj
    · rw [if_neg hij] at hj ⊢; exact h.core.waiters j hj
  · rw [hat] at hj ⊢
    by_cases hij : i = j
    · rw [if_pos hij]; exact ⟨rfl, rfl⟩
    · rw [if_neg hij] at hj ⊢; exact h.core.free j hj
  · rw [hat] at hj hn ⊢
    by_cases hij : i = j
    · rw [if_pos hij] at hj; exact absurd hj (by simp)
    · rw [if_neg hij] at hj hn ⊢; exact h.pins j hj hn
  · obtain ⟨j, hj, hjp⟩ := h.pinned n hn hp
    have hij : i ≠ j := by
      rintro rfl
      rcases hslot with hs | ⟨-, hs, -⟩
      · exact absurd (hj.symm.trans hs) (by simp)
      · have := h.pins i hj (hjp ▸ hn)
        rw [hjp] at this
        omega
    exact ⟨j, by rw [hat, if_neg hij]; exact hj, by rw [hat, if_neg hij]; exact hjp⟩
  · have hsum := sum_setAt (fun c : CacheSlot => waitsAmong f n c.page c.waiters) p.slots i
      { state := .filling, page := e.page, pins := 0, held := false, order := p.slots[i].order, waiters := e.waiters, bytes := [] }
    have hrem := queueWaits_remove f n h.core.once he
    have hold := h.waits f n
    dsimp only at hsum
    rw [h.core.waiters i (hidle i), waitsAmong_nil] at hsum
    rw [waitsFor_eq] at hold ⊢
    simp only [Pca.startFetch]
    omega

theorem CacheFits.tryFetch (h : CacheFits faulted p pin wait) : CacheFits faulted p.tryFetch pin wait := by
  rcases tryFetch_cases p with heq | ⟨e, i, hport, he, hi, heq⟩
  · rw [heq]; exact h
  · rw [heq]; exact h.startFetch hport (head_mem p e he) hi

/-! ### Requests, pins and marks (R199, R200) -/

theorem CacheFits.withdrawPrefetch (h : CacheFits faulted p pin wait) (f : FaceIx) : CacheFits faulted (p.withdrawPrefetch f) pin wait :=
  (h.dropWaiters (fun _ w => w == .prefetch f)).tryFetch.of_pins (fun _ _ => rfl) fun _ _ => rfl

theorem CacheFits.dropFace (h : CacheFits faulted p pin wait) (f : FaceIx) :
    CacheFits faulted (p.dropFace f) pin (fun g n => if g = f then 0 else wait g n) :=
  (h.dropWaiters (fun _ w => w == .face f)).tryFetch.of_pins (fun _ _ => rfl) fun g n => by simp

/-- A waiter joins a page that is not VALID. -/
theorem CacheFits.await (h : CacheFits faulted p pin wait) {n : Nat} (hv : p.validSlot n = none) (w : Waiter) :
    CacheFits faulted (p.await n w) pin (fun f m => wait f m + if n = m ∧ w = .face f then 1 else 0) := by
  unfold Pca.await
  split
  · next i hs =>
    have hfill := filling_of_not_valid hv hs
    have hpage : p.slots[i].page = n := (slotOf_some hs).2
    have hnv : p.slots[i].state ≠ .valid := by rw [hfill]; decide
    refine ⟨h.core.setSlot i rfl rfl (fun hne => absurd hfill hne) (fun _ => h.core.free i hnv), fun j hj hn => ?_,
      fun m hm hp => pageValid_setSlot (h.pinned m hm hp), fun f m => ?_⟩
    · by_cases hij : i = j
      · subst hij; rw [Pca.setSlot, setAt_same] at hj; exact absurd hj hnv
      · rw [Pca.setSlot, setAt_other _ _ _ _ hij] at hj hn ⊢; exact h.pins j hj hn
    · refine Nat.add_right_cancel ((waitsFor_setSlot i _ f m).trans ?_)
      rw [waitsAmong_joinWaiter, hpage, h.waits]
      omega
  · next hs =>
    split
    · next hany =>
      have hmap : ∀ e : QueueEntry, (if e.page = n then { e with waiters := joinWaiter e.waiters w } else e).page = e.page := fun e => by
        split <;> rfl
      have hpages : (p.queue.map (fun e => if e.page = n then { e with waiters := joinWaiter e.waiters w } else e)).map (·.page)
          = p.queue.map (·.page) := by
        rw [List.map_map]
        exact List.map_congr_left fun e _ => hmap e
      refine ⟨⟨h.core.slots, fun e he i hi => ?_, hpages ▸ h.core.once, fun e he => ?_, h.core.filling, h.core.port, h.core.waiters, h.core.free⟩,
        h.pins, h.pinned, fun f m => ?_⟩
      · obtain ⟨d, hd, rfl⟩ := List.mem_map.mp he
        rw [hmap]; exact h.core.queued d hd i hi
      · obtain ⟨d, hd, rfl⟩ := List.mem_map.mp he
        split
        · unfold joinWaiter
          dsimp only
          split
          · exact h.core.awaited d hd
          · simp
        · exact h.core.awaited d hd
      · have hq : queueWaits f m (p.queue.map (fun e => if e.page = n then { e with waiters := joinWaiter e.waiters w } else e))
            = queueWaits f m p.queue + if n = m ∧ w = .face f then 1 else 0 := by
          obtain ⟨e, he, hen⟩ := List.any_eq_true.mp hany
          have hen : e.page = n := by simpa using hen
          rw [queueWaits_remove f m (hpages ▸ h.core.once) (List.mem_map_of_mem he), queueWaits_remove f m h.core.once he]
          rw [if_pos hen, waitsAmong_joinWaiter, hen]
          have hrest : queueWaits f m ((p.queue.map (fun e => if e.page = n then { e with waiters := joinWaiter e.waiters w } else e)).filter
              (fun x => x.page != n)) = queueWaits f m (p.queue.filter fun x => x.page != n) := by
            rw [List.filter_map]
            unfold queueWaits
            rw [List.map_map]
            have hfilter : p.queue.filter ((fun x : QueueEntry => x.page != n) ∘
                fun e => if e.page = n then { e with waiters := joinWaiter e.waiters w } else e) = p.queue.filter fun x => x.page != n :=
              List.filter_congr fun d _ => by simp only [Function.comp_apply, hmap]
            rw [hfilter]
            refine congrArg List.sum (List.map_congr_left fun d hd => ?_)
            have hdn : d.page ≠ n := by simpa using (List.mem_filter.mp hd).2
            simp only [Function.comp_apply, if_neg hdn]
          rw [hrest]
          omega
        have hold := h.waits f m
        rw [waitsFor_eq] at hold ⊢
        dsimp only
        omega
    · next hany =>
      have hnew : ∀ e ∈ p.queue, e.page ≠ n := fun e he hen => hany (List.any_eq_true.mpr ⟨e, he, by simpa using hen⟩)
      refine ⟨⟨h.core.slots, fun e he i hi => ?_, ?_, fun e he => ?_, h.core.filling, h.core.port, h.core.waiters, h.core.free⟩,
        h.pins, h.pinned, fun f m => ?_⟩
      · rcases List.mem_append.mp he with he | he
        · exact h.core.queued e he i hi
        · cases List.mem_singleton.mp he
          exact (slotOf_none hs i).resolve_left hi
      · rw [List.map_append]
        refine h.core.once.append (List.nodup_singleton _) fun k hk hk' => ?_
        obtain ⟨d, hd, rfl⟩ := List.mem_map.mp hk
        exact hnew d hd (by simpa using hk')
      · rcases List.mem_append.mp he with he | he
        · exact h.core.awaited e he
        · cases List.mem_singleton.mp he
          simp
      · have hone : queueWaits f m [{ page := n, waiters := [w] }] = if n = m ∧ w = .face f then 1 else 0 := by
          simp only [queueWaits, waitsAmong, List.map_cons, List.map_nil, List.sum_cons, List.sum_nil, List.count_singleton, Nat.add_zero]
          by_cases hm : n = m <;> simp [hm]
        have hold := h.waits f m
        rw [waitsFor_eq] at hold ⊢
        dsimp only
        rw [queueWaits_append, hone]
        omega

/-- A face request of a page that is VALID pins it. -/
theorem CacheFits.faceRequest_ready (h : CacheFits faulted p pin wait) {f : FaceIx} {n : Nat} (hn : n ≠ 0)
    (hr : (p.faceRequest f n).2 = true) : CacheFits faulted (p.faceRequest f n).1 (fun m => pin m + if n = m then 1 else 0) wait := by
  unfold Pca.faceRequest at hr ⊢
  cases hv : p.validSlot n with
  | none => rw [hv] at hr; exact absurd hr (by simp)
  | some i =>
    obtain ⟨hs, hp⟩ := validSlot_some hv
    exact h.setPins hs (by rw [hp, if_pos rfl, h.pins i hs (hp ▸ hn), hp]) fun m hm => by
      rw [if_neg (hp ▸ hm.symm), Nat.add_zero]

/-- A face request of any other page has the face word wait for it. -/
theorem CacheFits.faceRequest_waits (h : CacheFits faulted p pin wait) {f : FaceIx} {n : Nat} (hr : (p.faceRequest f n).2 = false) :
    CacheFits faulted (p.faceRequest f n).1 pin (fun g m => wait g m + if n = m ∧ g = f then 1 else 0) := by
  unfold Pca.faceRequest at hr ⊢
  cases hv : p.validSlot n with
  | some i => rw [hv] at hr; exact absurd hr (by simp)
  | none =>
    exact (h.await hv (.face f)).tryFetch.of_pins (fun _ _ => rfl) fun g m => by simp [eq_comm]

theorem validSlot_dropWaiters (drop : Nat → Waiter → Bool) (n : Nat) : (p.dropWaiters drop).validSlot n = p.validSlot n := by
  unfold Pca.validSlot
  rw [slotOf_congr p (p.dropWaiters drop) (fun i => by rw [dropWaiters_slot]; exact ⟨rfl, rfl⟩)]
  refine congrFun (congrArg _ (funext fun i => ?_)) _
  rw [dropWaiters_slot]

theorem CacheFits.prefetchRequest (h : CacheFits faulted p pin wait) (f : FaceIx) (n : Nat) :
    CacheFits faulted (p.prefetchRequest f n) pin wait := by
  have hd : CacheFits faulted (p.dropWaiters (fun _ w => w == .prefetch f)) pin wait :=
    (h.dropWaiters _).of_pins (fun _ _ => rfl) fun _ _ => rfl
  unfold Pca.prefetchRequest
  dsimp only
  split
  · exact hd.tryFetch
  · next hv => exact (hd.await hv (.prefetch f)).tryFetch.of_pins (fun _ _ => rfl) fun g m => by simp

/-- A pin asked for is released. -/
theorem CacheFits.releasePin (h : CacheFits faulted p pin wait) {n : Nat} (hn : n ≠ 0) (hp : 0 < pin n) :
    CacheFits faulted (p.releasePin n) (fun m => pin m - if n = m then 1 else 0) wait := by
  obtain ⟨i, hs, hpage⟩ := h.pinned n hn hp
  unfold Pca.releasePin
  rw [validSlot_of_page h.core hs hpage]
  refine (h.setPins hs ?_ fun m hm => ?_).tryFetch
  · rw [hpage, if_pos rfl, h.pins i hs (hpage ▸ hn), hpage]
  · rw [if_neg (hpage ▸ hm.symm), Nat.sub_zero]

/-! ### Muster holds (R205, R206) -/

theorem CacheFits.holdPage (h : CacheFits faulted p pin wait) (n : Nat) : CacheFits faulted (p.holdPage n) pin wait := by
  unfold Pca.holdPage
  split
  · next i hv => exact h.setHeld (validSlot_some hv).1 true
  · next hv => exact (h.await hv .hold).of_pins (fun _ _ => rfl) fun g m => by simp

theorem CacheFits.hold (h : CacheFits faulted p pin wait) (ph : Phase) (pages : List Nat) : CacheFits faulted (p.hold ph pages) pin wait := by
  refine CacheFits.tryFetch (List.foldlRecOn (motive := fun q => CacheFits faulted q pin wait) _ _ ?_ fun q hq n _ => hq.holdPage n)
  exact h.of_same rfl rfl rfl

theorem CacheFits.unhold (h : CacheFits faulted p pin wait) (pages : List Nat) : CacheFits faulted (p.unhold pages) pin wait := by
  have hd : CacheFits faulted (p.dropWaiters fun page w => w == .hold && pages.contains page) pin wait :=
    (h.dropWaiters _).of_pins (fun _ _ => rfl) fun _ _ => rfl
  unfold Pca.unhold
  dsimp only
  generalize p.dropWaiters (fun page w => w == .hold && pages.contains page) = q at hd
  have hat : ∀ i : Fin 16, ∃ b, (tabulate fun i : Fin 16 => if pages.contains q.slots[i].page then { q.slots[i] with held := false } else q.slots[i])[i]
      = { q.slots[i] with held := b } ∧ (q.slots[i].held = false → b = false) := fun i => by
    rw [tabulate_get]
    split
    · exact ⟨false, rfl, fun _ => rfl⟩
    · exact ⟨q.slots[i].held, rfl, id⟩
  refine ⟨⟨fun i j => ?_, fun e he i => ?_, hd.core.once, hd.core.awaited, fun i => ?_, hd.core.port, fun i => ?_, fun i => ?_⟩,
    fun i => ?_, fun n hn hp => ?_, fun f n => ?_⟩
  · obtain ⟨b, hb, -⟩ := hat i
    obtain ⟨c, hc, -⟩ := hat j
    dsimp only
    rw [hb, hc]; exact hd.core.slots i j
  · obtain ⟨b, hb, -⟩ := hat i
    dsimp only
    rw [hb]; exact hd.core.queued e he i
  · obtain ⟨b, hb, -⟩ := hat i
    dsimp only
    rw [hb]; exact hd.core.filling i
  · obtain ⟨b, hb, -⟩ := hat i
    dsimp only
    rw [hb]; exact hd.core.waiters i
  · obtain ⟨b, hb, hf⟩ := hat i
    dsimp only
    rw [hb]; exact fun hs => ⟨(hd.core.free i hs).1, hf (hd.core.free i hs).2⟩
  · obtain ⟨b, hb, -⟩ := hat i
    dsimp only
    rw [hb]; exact hd.pins i
  · obtain ⟨i, hv, hpage⟩ := hd.pinned n hn hp
    obtain ⟨b, hb, -⟩ := hat i
    exact ⟨i, by dsimp only; rw [hb]; exact hv, by dsimp only; rw [hb]; exact hpage⟩
  · rw [← hd.waits f n, waitsFor_eq, waitsFor_eq]
    refine congrArg (fun k => k + queueWaits f n q.queue) (Finset.sum_congr rfl fun i _ => ?_)
    obtain ⟨b, hb, -⟩ := hat i
    dsimp only
    rw [hb]

theorem CacheFits.release (h : CacheFits faulted p pin wait) (pages : List Nat) : CacheFits faulted (p.release pages) pin wait :=
  CacheFits.tryFetch ((h.unhold pages).of_same rfl rfl rfl)

theorem CacheFits.holdFault (h : CacheFits faulted p pin wait) : CacheFits faulted p.holdFault pin wait :=
  (h.unhold p.holdPages).of_same rfl rfl rfl

/-! ### Ends of fetches (R203, R204) -/

/-- Who waits for the page of the slot being filled stands among its waiters. -/
theorem waitsFor_filling (hc : CacheCore faulted p) {i : Fin 16} (hi : p.slots[i].state = .filling) (f : FaceIx) :
    waitsFor p f p.slots[i].page = p.slots[i].waiters.count (.face f) := by
  have hne : p.slots[i].state ≠ .empty := by rw [hi]; decide
  have hslots : ∑ j : Fin 16, waitsAmong f p.slots[i].page p.slots[j].page p.slots[j].waiters
      = waitsAmong f p.slots[i].page p.slots[i].page p.slots[i].waiters := by
    refine Finset.sum_eq_single i (fun j _ hj => ?_) fun h => absurd (Finset.mem_univ i) h
    have hjf : p.slots[j].state ≠ .filling := fun hjf => by
      obtain ⟨-, x, hx, hxi⟩ := fetch_of_filling hc hi
      obtain ⟨-, y, hy, hyj⟩ := fetch_of_filling hc hjf
      cases hx.symm.trans hy
      exact hj (hyj.symm.trans hxi)
    rw [hc.waiters j hjf, waitsAmong_nil]
  have hqueue : queueWaits f p.slots[i].page p.queue = 0 := by
    refine List.sum_eq_zero fun x hx => ?_
    obtain ⟨e, he, rfl⟩ := List.mem_map.mp hx
    exact if_neg (hc.queued e he i hne).symm
  rw [waitsFor_eq, hslots, hqueue, waitsAmong, if_pos rfl, Nat.add_zero]

/-- A slot being filled, written without waiters: nobody waits for its page any more. -/
theorem waitsFor_emptied (hc : CacheCore faulted p) {i : Fin 16} (hi : p.slots[i].state = .filling) {c : CacheSlot} (hw : c.waiters = [])
    (f : FaceIx) (n : Nat) : waitsFor (p.setSlot i c) f n = if p.slots[i].page = n then 0 else waitsFor p f n := by
  have hset := waitsFor_setSlot (p := p) i c f n
  rw [hw, waitsAmong_nil] at hset
  by_cases hn : p.slots[i].page = n
  · have hall := waitsFor_filling hc hi f
    rw [hn] at hall
    rw [if_pos hn]
    rw [hn, waitsAmong, if_pos rfl] at hset
    omega
  · rw [if_neg hn]
    rw [waitsAmong, if_neg hn] at hset
    omega

/-- The page of a slot being filled is not pinned. -/
theorem CacheFits.pin_filling (h : CacheFits faulted p pin wait) {i : Fin 16} (hi : p.slots[i].state = .filling)
    (hn : p.slots[i].page ≠ 0) : pin p.slots[i].page = 0 := by
  by_contra hp
  obtain ⟨j, hj, hjp⟩ := h.pinned _ hn (Nat.pos_of_ne_zero hp)
  have := h.core.slots j i (by rw [hj]; decide) (by rw [hi]; decide) hjp
  subst this
  exact absurd (hi.symm.trans hj) (by decide)

/-- The fetch ends GOOD: a pin for each face word that waited, which no longer waits. -/
theorem CacheFits.endGood (h : CacheFits false p pin wait) {i : Fin 16} (hi : p.slots[i].state = .filling) (bytes : List Byte) :
    CacheFits false (p.endGood i bytes)
      (fun n => pin n + if p.slots[i].page = n then (faceWaiters p.slots[i].waiters).length else 0)
      (fun f n => if p.slots[i].page = n then 0 else wait f n) := by
  have hne : p.slots[i].state ≠ .empty := by rw [hi]; decide
  have hother : ∀ j : Fin 16, j ≠ i → p.slots[j].state ≠ .filling := fun j hj hjf => by
    obtain ⟨-, x, hx, hxi⟩ := fetch_of_filling h.core hi
    obtain ⟨-, y, hy, hyj⟩ := fetch_of_filling h.core hjf
    cases hx.symm.trans hy
    exact hj (hyj.symm.trans hxi)
  unfold Pca.endGood
  refine CacheFits.tryFetch ?_
  have hat : ∀ j : Fin 16, (setAt p.slots i (p.slots[i].filled (p.completion + 1) bytes))[j]
      = if i = j then p.slots[i].filled (p.completion + 1) bytes else p.slots[j] := fun j => by
    by_cases hij : i = j
    · subst hij; rw [setAt_same, if_pos rfl]
    · rw [setAt_other _ _ _ _ hij, if_neg hij]
  have hpage : ∀ j : Fin 16, (setAt p.slots i (p.slots[i].filled (p.completion + 1) bytes))[j].page = p.slots[j].page := fun j => by
    rw [hat]; split
    · next hij => rw [← hij]; rfl
    · rfl
  have hempty : ∀ j : Fin 16, (setAt p.slots i (p.slots[i].filled (p.completion + 1) bytes))[j].state ≠ .empty ↔ p.slots[j].state ≠ .empty := fun j => by
    rw [hat]; split
    · next hij => rw [← hij]; exact iff_of_true (by simp [CacheSlot.filled]) hne
    · rfl
  refine ⟨⟨fun j k => ?_, fun e he j => ?_, h.core.once, h.core.awaited, fun j => ?_, nofun, fun j hj => ?_, fun j hj => ?_⟩,
    fun j hj hn => ?_, fun n hn hp => ?_, fun f n => ?_⟩
  · dsimp only; rw [hempty, hempty, hpage, hpage]; exact h.core.slots j k
  · dsimp only; rw [hempty, hpage]; exact h.core.queued e he j
  · dsimp only
    rw [hat]
    split
    · simp [CacheSlot.filled]
    · next hij => exact iff_of_false (hother j fun e => hij e.symm) (by simp)
  · dsimp only at hj ⊢
    rw [hat] at hj ⊢
    split
    · rfl
    · next hij => exact h.core.waiters j (hother j fun e => hij e.symm)
  · dsimp only at hj ⊢
    rw [hat] at hj ⊢
    split
    · next hij => rw [if_pos hij] at hj; exact absurd rfl hj
    · next hij => rw [if_neg hij] at hj; exact h.core.free j hj
  · dsimp only at hj hn ⊢
    rw [hat] at hj hn ⊢
    by_cases hij : i = j
    · subst hij
      rw [if_pos rfl] at hn ⊢
      show (faceWaiters p.slots[i].waiters).length = pin p.slots[i].page + if p.slots[i].page = p.slots[i].page then _ else 0
      rw [h.pin_filling hi hn, if_pos rfl, Nat.zero_add]
    · rw [if_neg hij] at hj hn ⊢
      have hdiff : p.slots[i].page ≠ p.slots[j].page := fun hp => hij (h.core.slots i j hne (by rw [hj]; decide) hp)
      rw [if_neg hdiff, h.pins j hj hn, Nat.add_zero]
  · by_cases hin : p.slots[i].page = n
    · exact ⟨i, by dsimp only; rw [hat, if_pos rfl]; rfl, by dsimp only; rw [hpage]; exact hin⟩
    · rw [if_neg hin, Nat.add_zero] at hp
      obtain ⟨j, hj, hjp⟩ := h.pinned n hn hp
      have hij : i ≠ j := fun e => hin (e ▸ hjp)
      exact ⟨j, by dsimp only; rw [hat, if_neg hij]; exact hj, by dsimp only; rw [hpage]; exact hjp⟩
  · exact (waitsFor_emptied h.core hi (c := p.slots[i].filled (p.completion + 1) bytes) rfl f n).trans (by rw [h.waits])

/-- The fetch ends in a page fault: its slot is EMPTY, and nobody stands among the waiters of its page any more. -/
theorem CacheFits.endFault (h : CacheFits false p pin wait) {i : Fin 16} (hi : p.slots[i].state = .filling) :
    CacheFits true (p.endFault i) pin (fun f n => if p.slots[i].page = n then 0 else wait f n) := by
  have hother : ∀ j : Fin 16, j ≠ i → p.slots[j].state ≠ .filling := fun j hj hjf => by
    obtain ⟨-, x, hx, hxi⟩ := fetch_of_filling h.core hi
    obtain ⟨-, y, hy, hyj⟩ := fetch_of_filling h.core hjf
    cases hx.symm.trans hy
    exact hj (hyj.symm.trans hxi)
  have hat : ∀ j : Fin 16, (p.endFault i).slots[j] = if i = j then CacheSlot.vacant else p.slots[j] := fun j => by
    by_cases hij : i = j
    · subst hij; rw [Pca.endFault, setAt_same, if_pos rfl]
    · rw [Pca.endFault, setAt_other _ _ _ _ hij, if_neg hij]
  refine ⟨⟨fun j k hj hk hp => ?_, fun e he j hj => ?_, h.core.once, h.core.awaited, fun j => ?_, fun _ => ?_, fun j hj => ?_, fun j hj => ?_⟩,
    fun j hj hn => ?_, fun n hn hp => ?_, fun f n => ?_⟩
  · rw [hat] at hj hk hp; rw [hat] at hp
    split at hj
    · exact absurd rfl hj
    · split at hk
      · exact absurd rfl hk
      · next hij hik =>
        rw [if_neg hij, if_neg hik] at hp
        exact h.core.slots j k hj hk hp
  · rw [hat] at hj ⊢
    split at hj
    · exact absurd rfl hj
    · next hij => rw [if_neg hij]; exact h.core.queued e he j hj
  · rw [hat]
    split
    · simp [CacheSlot.vacant]
    · next hij => exact iff_of_false (hother j fun e => hij e.symm) (by simp)
  · obtain ⟨-, x, hx, -⟩ := fetch_of_filling h.core hi
    rw [show (p.endFault i).fetch = p.fetch from rfl, hx]
    simp
  · rw [hat]
    split
    · rfl
    · next hij => exact h.core.waiters j (hother j fun e => hij e.symm)
  · rw [hat] at hj ⊢
    split
    · exact ⟨rfl, rfl⟩
    · next hij => rw [if_neg hij] at hj; exact h.core.free j hj
  · rw [hat] at hj hn ⊢
    split at hj
    · exact absurd hj (by simp [CacheSlot.vacant])
    · next hij => rw [if_neg hij] at hn ⊢; exact h.pins j hj hn
  · obtain ⟨j, hj, hjp⟩ := h.pinned n hn hp
    have hij : i ≠ j := by rintro rfl; exact absurd (hi.symm.trans hj) (by decide)
    exact ⟨j, by rw [hat, if_neg hij]; exact hj, by rw [hat, if_neg hij]; exact hjp⟩
  · exact (waitsFor_emptied h.core hi (c := CacheSlot.vacant) rfl f n).trans (by rw [h.waits])

/-- Once the waiters are told the port is free. -/
theorem CacheFits.freePort (h : CacheFits true p pin wait) : CacheFits false p.freePort pin wait := by
  refine CacheFits.tryFetch ⟨⟨h.core.slots, h.core.queued, h.core.once, h.core.awaited, fun i => ?_, nofun, h.core.waiters, h.core.free⟩,
    h.pins, h.pinned, h.waits⟩
  exact iff_of_false (fun hi => absurd (fetch_of_filling h.core hi).1 (by decide)) (by simp)

end

end Sys2Proof.Machine
end

section
/-! PROOFS. The face words and the cache agree after every operation of the face string (R171, R172, R183, R198 to R206). -/

namespace Sys2Proof.Machine

set_option Elab.async false

/-! ### Pins and waiters as the face words ask for them -/

/-- The pins a face word asks of a page: one for its started record. -/
def startedOn (n : Nat) (w : FaceWord) : Nat := if w.started.any (fun r => r.page == n) then 1 else 0

/-- The pins the string asks of a page: one for the record in transfer. -/
def drawnOn (n : Nat) : Option Exchange → Nat
  | some (.draw _ r) => if r.page = n then 1 else 0
  | _ => 0

/-- Whether a face word waits for a page. -/
def waitsOn (n : Nat) (w : FaceWord) : Nat := if w.waiting.any (fun r => r.page == n) then 1 else 0

theorem startedOn_none {w : FaceWord} (h : w.started = none) (n : Nat) : startedOn n w = 0 := by
  unfold startedOn; rw [h]; rfl

theorem startedOn_some {w : FaceWord} {r : DrawRecord} (h : w.started = some r) (n : Nat) :
    startedOn n w = if r.page = n then 1 else 0 := by
  unfold startedOn; rw [h]; simp

theorem waitsOn_none {w : FaceWord} (h : w.waiting = none) (n : Nat) : waitsOn n w = 0 := by
  unfold waitsOn; rw [h]; rfl

theorem waitsOn_some {w : FaceWord} {r : DrawRecord} (h : w.waiting = some r) (n : Nat) :
    waitsOn n w = if r.page = n then 1 else 0 := by
  unfold waitsOn; rw [h]; simp

/-- A face word waits for one page. -/
theorem waitsOn_elsewhere {w : FaceWord} {m n : Nat} (h : 0 < waitsOn m w) (hmn : m ≠ n) : waitsOn n w = 0 := by
  cases hw : w.waiting with
  | none => exact waitsOn_none hw n
  | some r =>
    rw [waitsOn_some hw] at h ⊢
    by_cases hr : r.page = m
    · exact if_neg (hr ▸ hmn)
    · exact absurd h (if_neg hr ▸ lt_irrefl 0)

/-- The pins of a page in the terms of the face words and the string (R183, R200). -/
theorem pinsOn_eq (s : State) (n : Nat) : pinsOn s n = ∑ f : FaceIx, startedOn n s.fsc.words[f] + drawnOn n s.fsc.string := by
  have hcount : ∀ fs : List FaceIx, (fs.filter fun f => s.fsc.words[f].started.any fun r => r.page == n).length
      = (fs.map fun f => startedOn n s.fsc.words[f]).sum := fun fs => by
    induction fs with
    | nil => rfl
    | cons f fs ih =>
      rw [List.filter_cons, List.map_cons, List.sum_cons, ← ih, startedOn]
      split
      · rw [List.length_cons, Nat.add_comm]
      · rw [Nat.zero_add]
  rw [pinsOn, hcount, sum_indices]
  refine congrArg _ ?_
  unfold drawnOn
  cases s.fsc.string with
  | none => rfl
  | some x => cases x <;> rfl

/-- The cache fits the face words, those aside whose wait is over but not yet told them. -/
def CacheServes (faulted : Bool) (told : List FaceIx) (s : State) : Prop :=
  CacheFits faulted s.pca (pinsOn s) (fun f n => if f ∈ told then 0 else waitsOn n s.fsc.words[f])

/-- A face word by itself (R171, R172, R183). -/
def RecordsOk (w : FaceWord) : Prop := WordOk w ∧ ∀ r, w.started = some r → r.page ≠ 0

/-- The face words and the cache agree. -/
structure StringFits (faulted : Bool) (told : List FaceIx) (s : State) : Prop where
  cache : CacheServes faulted told s
  words : ∀ f : FaceIx, RecordsOk s.fsc.words[f]

/-- No face word holds anything, and the string is free (R171). -/
def Asleep (s : State) : Prop := s.fsc.string = none ∧ ∀ f : FaceIx, s.fsc.words[f] = FaceWord.initial

/-- The FSC's load is outstanding at most once, and in RUNNING alone. -/
def LoadOnce (s : State) : Prop :=
  s.handoffs.count .fscProfileLoad ≤ 1 ∧ (s.running = false → .fscProfileLoad ∉ s.handoffs)

/-- The FSC has not taken its load. -/
def Unloaded (s : State) : Prop := s.running = false ∨ .fscProfileLoad ∈ s.handoffs

theorem pinsOn_pos_of_started {s : State} {f : FaceIx} {r : DrawRecord} (h : s.fsc.words[f].started = some r) : 0 < pinsOn s r.page := by
  rw [pinsOn_eq]
  have hle := Finset.single_le_sum (f := fun g : FaceIx => startedOn r.page s.fsc.words[g]) (fun _ _ => Nat.zero_le _) (Finset.mem_univ f)
  have hone : startedOn r.page s.fsc.words[f] = 1 := by rw [startedOn_some h, if_pos rfl]
  omega

theorem pinsOn_pos_of_drawn {s : State} {f : FaceIx} {r : DrawRecord} (h : s.fsc.string = some (.draw f r)) : 0 < pinsOn s r.page := by
  rw [pinsOn_eq, h, drawnOn, if_pos rfl]
  exact Nat.succ_pos _

theorem pinsOk_iff {s : State} : PinsOk s ↔ StringFits false [] s ∧ (Unloaded s → Asleep s) ∧ LoadOnce s := by
  constructor
  · intro h
    refine ⟨⟨⟨cacheCore_iff.mpr h.cache, h.pins, fun n hn hp => ?_, fun f n => ?_⟩, fun f => ⟨h.words f, fun r hr => (h.started f r hr).1⟩⟩, h.unread, h.load⟩
    · rw [pinsOn_eq] at hp
      rcases Nat.add_pos_iff_pos_or_pos.mp hp with hp | hp
      · obtain ⟨f, -, hf⟩ := Finset.exists_ne_zero_of_sum_ne_zero (Nat.pos_iff_ne_zero.mp hp)
        cases hs : s.fsc.words[f].started with
        | none => exact absurd (startedOn_none hs n) hf
        | some r =>
          rw [startedOn_some hs] at hf
          by_cases hrn : r.page = n
          · exact hrn ▸ (h.started f r hs).2
          · exact absurd (if_neg hrn) hf
      · unfold drawnOn at hp
        split at hp
        · next f r hs =>
          split at hp
          · next hrn => exact hrn ▸ (h.drawn f r hs).resolve_left (hrn ▸ hn)
          · exact absurd hp (lt_irrefl _)
        · exact absurd hp (lt_irrefl _)
    · rw [h.waiting]
      simp [waitsOn]
  · rintro ⟨⟨hc, hw⟩, hu, hl⟩
    refine ⟨cacheCore_iff.mp hc.core, fun f => (hw f).1, hc.pins, fun f r hr => ?_, fun f r hr => ?_, fun f n => ?_, hu, hl⟩
    · have hne := (hw f).2 r hr
      exact ⟨hne, hc.pinned _ hne (pinsOn_pos_of_started hr)⟩
    · by_cases hne : r.page = 0
      · exact .inl hne
      · exact .inr (hc.pinned _ hne (pinsOn_pos_of_drawn hr))
    · rw [hc.waits]
      simp [waitsOn]

/-! ### Face words written -/

theorem pinsOn_setWord (s : State) (f : FaceIx) (w : FaceWord) (n : Nat) :
    pinsOn (s.setWord f w) n + startedOn n s.fsc.words[f] = pinsOn s n + startedOn n w := by
  have h : ∑ g : FaceIx, startedOn n (s.setWord f w).fsc.words[g] + startedOn n s.fsc.words[f]
      = ∑ g : FaceIx, startedOn n s.fsc.words[g] + startedOn n w := sum_setAt (startedOn n) s.fsc.words f w
  have hstring : (s.setWord f w).fsc.string = s.fsc.string := rfl
  rw [pinsOn_eq, pinsOn_eq, hstring]
  omega

/-- The pins asked for depend on the face words and the string alone. -/
theorem pinsOn_congr {s t : State} (hw : t.fsc.words = s.fsc.words) (hs : t.fsc.string = s.fsc.string) : pinsOn t = pinsOn s := by
  funext n
  rw [pinsOn_eq, pinsOn_eq, hw, hs]

theorem waitsOn_setWord (s : State) (f g : FaceIx) (w : FaceWord) (n : Nat) :
    waitsOn n (s.setWord f w).fsc.words[g] = if g = f then waitsOn n w else waitsOn n s.fsc.words[g] := by
  by_cases h : g = f
  · subst h; rw [setWord_word, if_pos rfl]
  · rw [setWord_word_other (Ne.symm h), if_neg h]

theorem wordOk_of_no_record {w : FaceWord} (hw : w.waiting = none) (hs : w.started = none) : WordOk w :=
  ⟨fun h => absurd h (by simp [hw]), fun _ => ⟨hw, hs⟩, fun _ => hw, fun r h => absurd (hw.symm.trans h) (by simp)⟩

theorem recordsOk_of_no_record {w : FaceWord} (hw : w.waiting = none) (hs : w.started = none) : RecordsOk w :=
  ⟨wordOk_of_no_record hw hs, fun r h => absurd (hs.symm.trans h) (by simp)⟩

/-- A face word whose records stay, in a state that fits them, its chain no more absent than before. -/
theorem recordsOk_of_same {v w : FaceWord} (h : RecordsOk v) (hw : w.waiting = v.waiting) (hs : w.started = v.started)
    (ha : w.active = none → v.active = none) (hstate : w.state = .active → w.waiting = none) : RecordsOk w := by
  obtain ⟨⟨h1, h2, -, h4⟩, h5⟩ := h
  exact ⟨⟨hw ▸ hs ▸ h1, fun he => hw ▸ hs ▸ h2 (ha he), hstate, hw ▸ h4⟩, hs ▸ h5⟩

section
variable {faulted : Bool} {told : List FaceIx} {s : State}

/-- An operation that leaves the face words, the string and the cache. -/
theorem StringFits.of_same {t : State} (h : StringFits faulted told s) (hw : t.fsc.words = s.fsc.words)
    (hs : t.fsc.string = s.fsc.string) (hp : t.pca = s.pca) : StringFits faulted told t := by
  obtain ⟨hc, hr⟩ := h
  unfold CacheServes at hc
  exact ⟨by unfold CacheServes; rw [hp, hw, pinsOn_congr hw hs]; exact hc, hw ▸ hr⟩

/-- The cache changed, for the same face words. -/
theorem StringFits.setPca (h : StringFits faulted told s) {p : Pca}
    (hp : ∀ pin wait, CacheFits faulted s.pca pin wait → CacheFits faulted p pin wait) : StringFits faulted told (s.setPca p) :=
  ⟨hp _ _ h.cache, h.words⟩

theorem words_setWord (h : ∀ g : FaceIx, RecordsOk s.fsc.words[g]) (f : FaceIx) {w : FaceWord} (hw : RecordsOk w) (g : FaceIx) :
    RecordsOk (s.setWord f w).fsc.words[g] := by
  by_cases hg : f = g
  · subst hg; rw [setWord_word]; exact hw
  · rw [setWord_word_other hg]; exact h g

/-- A face word written with the same records. -/
theorem StringFits.setWord (h : StringFits faulted told s) (f : FaceIx) {w : FaceWord} (hok : RecordsOk w)
    (hw : w.waiting = s.fsc.words[f].waiting := by rfl) (hs : w.started = s.fsc.words[f].started := by rfl) :
    StringFits faulted told (s.setWord f w) := by
  refine ⟨h.cache.of_pins (fun n _ => ?_) fun g n => ?_, words_setWord h.words f hok⟩
  · have hset := pinsOn_setWord s f w n
    unfold startedOn at hset
    rw [hs] at hset
    exact Nat.add_right_cancel hset
  · rw [waitsOn_setWord]
    by_cases hg : g = f
    · subst hg
      unfold waitsOn
      rw [if_pos rfl, hw]
    · rw [if_neg hg]

/-- A face word written in fields other than its records, its chain and its state. -/
theorem StringFits.setWord_aside (h : StringFits faulted told s) (f : FaceIx) {w : FaceWord}
    (hw : w.waiting = s.fsc.words[f].waiting := by rfl) (hs : w.started = s.fsc.words[f].started := by rfl)
    (ha : w.active = s.fsc.words[f].active := by rfl) (hstate : w.state = s.fsc.words[f].state := by rfl) :
    StringFits faulted told (s.setWord f w) :=
  h.setWord f (recordsOk_of_same (h.words f) hw hs (fun e => ha ▸ e) fun e => hw ▸ (h.words f).1.active (hstate ▸ e)) hw hs

/-- A face word put in another state, that is not ACTIVE. -/
theorem StringFits.setWord_state (h : StringFits faulted told s) (f : FaceIx) {w : FaceWord} (hstate : w.state ≠ .active)
    (hw : w.waiting = s.fsc.words[f].waiting := by rfl) (hs : w.started = s.fsc.words[f].started := by rfl)
    (ha : w.active = s.fsc.words[f].active := by rfl) : StringFits faulted told (s.setWord f w) :=
  h.setWord f (recordsOk_of_same (h.words f) hw hs (fun e => ha ▸ e) fun e => absurd e hstate) hw hs

/-! ### Operations that leave the records -/

theorem rest_active {w : FaceWord} {b : Bool} (h : w.rest b = .active) : w.waiting = none := by
  unfold FaceWord.rest at h
  split at h
  · exact absurd h (by decide)
  · split at h
    · exact absurd h (by decide)
    · split at h
      · exact absurd h (by decide)
      · next hw => simpa using hw

theorem StringFits.settle (h : StringFits faulted told s) (f : FaceIx) : StringFits faulted told (s.settle f) :=
  h.setWord f (recordsOk_of_same (h.words f) rfl rfl id rest_active)

theorem StringFits.issue (h : StringFits faulted told s) : StringFits faulted told s.issue := h.of_same rfl rfl rfl

theorem StringFits.notice (h : StringFits faulted told s) (n : Notice) : StringFits faulted told (s.notice n) :=
  h.of_same (by rw [State.notice_fsc]) (by rw [State.notice_fsc]) (State.notice_pca s n)

theorem StringFits.handOff (h : StringFits faulted told s) (e : Instr) : StringFits faulted told (s.handOff e) := h.of_same rfl rfl rfl

theorem StringFits.take (h : StringFits faulted told s) (e : Instr) : StringFits faulted told (s.take e) := h.of_same rfl rfl rfl

theorem StringFits.setFace (h : StringFits faulted told s) (f : FaceIx) (x : FaceState) : StringFits faulted told (s.setFace f x) :=
  h.of_same rfl rfl rfl

theorem StringFits.ite {t u : State} {c : Prop} [Decidable c] (h : c → StringFits faulted told t) (k : ¬ c → StringFits faulted told u) :
    StringFits faulted told (if c then t else u) := by
  split
  · exact h ‹_›
  · exact k ‹_›

theorem StringFits.recordNotCompleted (h : StringFits faulted told s) (f : FaceIx) (d : DrawTarget) :
    StringFits faulted told (s.recordNotCompleted f d) := by
  cases d <;> exact h.setFace f _

theorem StringFits.recordCompleted (h : StringFits faulted told s) (f : FaceIx) (d : Drawn) :
    StringFits faulted told (s.recordCompleted f d) := by
  cases d <;> exact h.setFace f _

theorem StringFits.dropPrefetch (h : StringFits faulted told s) (f : FaceIx) : StringFits faulted told (s.dropPrefetch f) :=
  (h.setWord_aside f).setPca fun _ _ hp => hp.withdrawPrefetch f

theorem StringFits.giveEnding (h : StringFits faulted told s) (f : FaceIx) (e : ChainEnding) : StringFits faulted told (s.giveEnding f e) :=
  .ite (fun _ => h.notice _) (fun _ => h.setWord_aside f)

theorem StringFits.discardPending (h : StringFits faulted told s) (f : FaceIx) (c : Condition) :
    StringFits faulted told (s.discardPending f c) := by
  unfold State.discardPending
  split
  · exact ((h.setWord_aside f).dropPrefetch f).giveEnding f _
  · exact h

theorem StringFits.activate (h : StringFits faulted told s) (f : FaceIx) (rs : List SuppliedRecord) :
    StringFits faulted told (s.activate f rs) :=
  (h.issue.setWord f (by exact recordsOk_of_same (h.words f) rfl rfl (fun e => nomatch e) (h.words f).1.active)).settle f

theorem StringFits.activatePending (h : StringFits faulted told s) (f : FaceIx) : StringFits faulted told (s.activatePending f) := by
  unfold State.activatePending
  split
  · exact h.activate f _
  · exact h

theorem StringFits.followUp (h : StringFits faulted told s) (f : FaceIx) : StringFits faulted told (s.followUp f) :=
  .ite (fun _ => h.issue.setWord_aside f) (fun _ => h)

theorem StringFits.takeDemand (h : StringFits faulted told s) (f : FaceIx) (k : DemandClass) : StringFits faulted told (s.takeDemand f k) :=
  .ite (fun _ => h) (fun _ => .ite (fun _ => h.setWord_aside f) (fun _ => .ite (fun _ => h.setWord_aside f)
    (fun _ => h.issue.setWord_aside f)))

/-! ### A record given up (R178, R200) -/

/-- What stands of a face word's own pins is asked for. -/
theorem startedOn_le (s : State) (f : FaceIx) (n : Nat) : startedOn n s.fsc.words[f] ≤ pinsOn s n := by
  rw [pinsOn_eq]
  exact (Finset.single_le_sum (f := fun g : FaceIx => startedOn n s.fsc.words[g]) (fun _ _ => Nat.zero_le _) (Finset.mem_univ f)).trans
    (Nat.le_add_right _ _)

/-- The started record's pin released and the face word taken off the waiters. -/
theorem StringFits.withdrawRecord (h : StringFits faulted told s) (f : FaceIx) : StringFits faulted told (s.withdrawRecord f) := by
  obtain ⟨hc, hw⟩ := h
  have hrelease : CacheFits faulted (s.fsc.words[f].started.elim s.pca fun r => s.pca.releasePin r.page)
      (fun n => pinsOn s n - startedOn n s.fsc.words[f]) (fun g n => if g ∈ told then 0 else waitsOn n s.fsc.words[g]) := by
    cases hs : s.fsc.words[f].started with
    | none => exact CacheFits.of_pins hc (fun n _ => by rw [startedOn_none hs, Nat.sub_zero]) fun _ _ => rfl
    | some r =>
      exact (CacheFits.releasePin hc ((hw f).2 r hs) (pinsOn_pos_of_started hs)).of_pins (fun n _ => by rw [startedOn_some hs]) fun _ _ => rfl
  have hdrop : CacheFits faulted
      (if s.fsc.words[f].waiting.isSome then (s.fsc.words[f].started.elim s.pca fun r => s.pca.releasePin r.page).dropFace f
        else s.fsc.words[f].started.elim s.pca fun r => s.pca.releasePin r.page)
      (fun n => pinsOn s n - startedOn n s.fsc.words[f])
      (fun g n => if g = f then 0 else if g ∈ told then 0 else waitsOn n s.fsc.words[g]) := by
    split
    · exact hrelease.dropFace f
    · next hnone =>
      refine hrelease.of_pins (fun _ _ => rfl) fun g n => ?_
      by_cases hg : g = f
      · subst hg
        have hwaits : waitsOn n s.fsc.words[g] = 0 := waitsOn_none (Option.not_isSome_iff_eq_none.mp hnone) n
        rw [if_pos rfl, hwaits, ite_self]
      · rw [if_neg hg]
  refine ⟨CacheFits.of_pins hdrop (fun n _ => ?_) fun g n => ?_, words_setWord hw f (recordsOk_of_no_record rfl rfl)⟩
  · have hset := pinsOn_setWord s f { s.fsc.words[f] with started := none, waiting := none } n
    have hzero : startedOn n { s.fsc.words[f] with started := none, waiting := none } = 0 := rfl
    rw [hzero, Nat.add_zero] at hset
    exact Nat.eq_sub_of_add_eq hset
  · have hzero : waitsOn n { s.fsc.words[f] with started := none, waiting := none } = 0 := rfl
    show (if g ∈ told then 0 else waitsOn n (s.setWord f _).fsc.words[g]) = _
    rw [waitsOn_setWord, hzero]
    by_cases hg : g = f
    · rw [if_pos hg, if_pos hg, ite_self]
    · rw [if_neg hg, if_neg hg]

theorem withdrawRecord_word (s : State) (f : FaceIx) :
    (s.withdrawRecord f).fsc.words[f] = { s.fsc.words[f] with started := none, waiting := none } := setWord_word _ _ _

theorem StringFits.clearChain (h : StringFits faulted told s) (f : FaceIx) : StringFits faulted told (s.clearChain f) := by
  have hword := withdrawRecord_word s f
  refine ((h.withdrawRecord f).setWord f ?_).dropPrefetch f
  rw [hword]
  exact recordsOk_of_no_record rfl rfl

/-! ### Ends of chains (R175, R179) -/

theorem StringFits.endGenerated (h : StringFits faulted told s) (f : FaceIx) (k : DemandClass) (c : Condition) (p : Option Part) :
    StringFits faulted told (s.endGenerated f k c p) := by
  have htold : StringFits faulted told (p.elim (s.clearChain f) ((s.clearChain f).drawFault f k c)) := by
    cases p with
    | none => exact h.clearChain f
    | some p => exact ((h.clearChain f).recordNotCompleted f _).notice _
  exact .ite (fun _ => htold) (fun _ => ((htold.activatePending f).followUp f).settle f)

theorem StringFits.endSupplied (h : StringFits faulted told s) (f : FaceIx) (rs : List SuppliedRecord) (n : Nat) (c : Condition) :
    StringFits faulted told (s.endSupplied f rs n c) :=
  ((((h.clearChain f).setWord_aside f).giveEnding f _).handOff _).settle f

theorem StringFits.endChain (h : StringFits faulted told s) (f : FaceIx) (c : Condition) : StringFits faulted told (s.endChain f c) := by
  unfold State.endChain
  split
  · exact h.endGenerated f _ c _
  · exact h.endSupplied f _ _ c
  · exact h

theorem StringFits.haltSupplied (h : StringFits faulted told s) (f : FaceIx) : StringFits faulted told (s.haltSupplied f) := by
  refine .ite (fun _ => .ite (fun _ => ?_) (fun _ => h.endChain f _)) (fun _ => h)
  exact h.setWord f (recordsOk_of_same (h.words f) rfl rfl Option.map_eq_none_iff.mp (h.words f).1.active)

theorem StringFits.musterFace (h : StringFits faulted told s) (f : FaceIx) : StringFits faulted told (s.musterFace f) :=
  .ite (fun _ => ((h.haltSupplied f).discardPending f _).takeDemand f _) (fun _ => h)

theorem StringFits.goOffline (h : StringFits faulted told s) (f : FaceIx) : StringFits faulted told (s.goOffline f) :=
  (((((((h.setWord_state f (by simp)).endChain f _).withdrawRecord f).dropPrefetch f).setWord_aside f).discardPending f _).notice _)

/-! ### The string -/

theorem pinsOn_setString (s : State) (x : Option Exchange) (n : Nat) :
    pinsOn (s.setString x) n + drawnOn n s.fsc.string = pinsOn s n + drawnOn n x := by
  rw [pinsOn_eq, pinsOn_eq]
  simp only [State.setString]
  omega

/-- An exchange that draws nothing, in place of one that draws nothing. -/
theorem StringFits.setString (h : StringFits faulted told s) {x : Option Exchange} (hold : ∀ n, drawnOn n s.fsc.string = 0)
    (hnew : ∀ n, drawnOn n x = 0) : StringFits faulted told (s.setString x) := by
  refine ⟨h.cache.of_pins (fun n _ => ?_) fun _ _ => rfl, h.words⟩
  have hset := pinsOn_setString s x n
  rw [hold, hnew] at hset
  exact hset

/-- The string free again, the page of the record drawn given up (R184, R185 step 1). -/
theorem StringFits.releaseRecord (h : StringFits faulted told s) {f : FaceIx} {r : DrawRecord} (hs : s.fsc.string = some (.draw f r)) :
    StringFits faulted told (s.releaseRecord r) := by
  have hdrawn : ∀ n, drawnOn n s.fsc.string = if r.page = n then 1 else 0 := fun n => by rw [hs, drawnOn]
  have hafter : ∀ n, pinsOn (s.releaseRecord r) n = pinsOn s n - if r.page = n then 1 else 0 := fun n => by
    have hset := pinsOn_setString s none n
    rw [hdrawn] at hset
    show pinsOn (s.setString none) n = _
    have hzero : drawnOn n none = 0 := rfl
    omega
  refine ⟨CacheFits.of_pins (pin := fun n => pinsOn s n - if n ≠ 0 ∧ r.page = n then 1 else 0) ?_ (fun n hn => by rw [hafter]; simp [hn]) fun _ _ => rfl, h.words⟩
  show CacheFits faulted (if r.page = 0 then s.pca else s.pca.releasePin r.page) _ _
  split
  · next hz => exact CacheFits.of_pins h.cache (fun n hn => by simp [hz, hn.symm]) fun _ _ => rfl
  · next hz =>
    refine (CacheFits.releasePin h.cache hz (pinsOn_pos_of_drawn hs)).of_pins (fun n hn => by simp [hn]) fun _ _ => rfl

/-- A record begins transfer: the cache pins what the face words and the string will ask for. -/
theorem beginTransfer_fits (hwords : ∀ g : FaceIx, RecordsOk s.fsc.words[g]) {f : FaceIx} (c : ActiveChain) {r : DrawRecord}
    (hfree : s.fsc.string = none) (hwaiting : s.fsc.words[f].waiting = none)
    (hcache : CacheFits faulted s.pca (fun n => pinsOn s n - startedOn n s.fsc.words[f] + if r.page = n then 1 else 0)
      (fun g n => if g ∈ told then 0 else waitsOn n s.fsc.words[g])) :
    StringFits faulted told (s.beginTransfer f c r) := by
  have hon : StringFits faulted told ((s.setString (some (.draw f r))).setWord f
      { s.fsc.words[f] with state := .transfer, retry := 0, started := none, waiting := none, recordAged := false }) := by
    refine ⟨CacheFits.of_pins hcache (fun n _ => ?_) fun g n => ?_, words_setWord hwords f (recordsOk_of_no_record rfl rfl)⟩
    · have hword := pinsOn_setWord (s.setString (some (.draw f r))) f
        { s.fsc.words[f] with state := .transfer, retry := 0, started := none, waiting := none, recordAged := false } n
      have hstring := pinsOn_setString s (some (.draw f r)) n
      have hzero : startedOn n { s.fsc.words[f] with state := .transfer, retry := 0, started := none, waiting := none, recordAged := false } = 0 := rfl
      have hold : drawnOn n s.fsc.string = 0 := by rw [hfree]; rfl
      have hnew : drawnOn n (some (.draw f r)) = if r.page = n then 1 else 0 := rfl
      have hsame : startedOn n (s.setString (some (.draw f r))).fsc.words[f] = startedOn n s.fsc.words[f] := rfl
      have hle := startedOn_le s f n
      omega
    · rw [waitsOn_setWord]
      by_cases hg : g = f
      · subst hg
        have hwaits : waitsOn n s.fsc.words[g] = 0 := waitsOn_none hwaiting n
        rw [if_pos rfl, hwaits]
        rfl
      · rw [if_neg hg]
        rfl
  have hnoticed := StringFits.ite (c := c.notifies = true) (fun _ => hon.notice (.progress f c.index c.body.total)) (fun _ => hon)
  exact .ite (fun _ => hnoticed) (fun _ => (hnoticed.setWord_aside f).setPca fun _ _ hp => hp.prefetchRequest f _)

/-! ### Records and picks (R180, R182) -/

/-- A record with a page: at once when the page is held, waiting for it otherwise (R182). -/
theorem requestPage_eq (s : State) (f : FaceIx) (c : ActiveChain) (r : DrawRecord) : s.requestPage f c r =
    if (s.pca.faceRequest f r.page).2 then (s.setPca (s.pca.faceRequest f r.page).1).beginTransfer f c r
    else (s.setPca (s.pca.faceRequest f r.page).1).setWord f { s.fsc.words[f] with waiting := some r, state := .waitPage } := rfl

theorem requestPage_fits (h : StringFits faulted told s) {f : FaceIx} (htold : f ∉ told) (c : ActiveChain) {r : DrawRecord}
    (hfree : s.fsc.string = none) (hwaiting : s.fsc.words[f].waiting = none) (hstarted : s.fsc.words[f].started = none)
    (hactive : s.fsc.words[f].active ≠ none) (hr : r.page ≠ 0) : StringFits faulted told (s.requestPage f c r) := by
  have hnone : ∀ n, startedOn n s.fsc.words[f] = 0 := startedOn_none hstarted
  rw [requestPage_eq]
  cases hready : (s.pca.faceRequest f r.page).2 with
  | true =>
    rw [if_pos rfl]
    refine beginTransfer_fits (s := s.setPca (s.pca.faceRequest f r.page).1) h.words c hfree hwaiting ?_
    exact (CacheFits.faceRequest_ready h.cache hr hready).of_pins (fun n _ => by
      show pinsOn s n - startedOn n s.fsc.words[f] + _ = _
      rw [hnone, Nat.sub_zero]) fun _ _ => rfl
  | false =>
    have hwait := CacheFits.faceRequest_waits h.cache hready
    have hword : RecordsOk { s.fsc.words[f] with waiting := some r, state := .waitPage } :=
      ⟨⟨fun _ => hstarted, fun ha => absurd ha hactive, fun e => (nomatch e), fun x hx => Option.some.inj hx ▸ hr⟩,
        fun x hx => absurd (hstarted.symm.trans hx) (by simp)⟩
    rw [if_neg Bool.false_ne_true]
    refine ⟨CacheFits.of_pins hwait (fun n _ => ?_) fun g n => ?_, words_setWord (s := s.setPca (s.pca.faceRequest f r.page).1) h.words f hword⟩
    · have hset := pinsOn_setWord (s.setPca (s.pca.faceRequest f r.page).1) f { s.fsc.words[f] with waiting := some r, state := .waitPage } n
      have hnew : startedOn n { s.fsc.words[f] with waiting := some r, state := .waitPage } = startedOn n s.fsc.words[f] := rfl
      rw [hnew] at hset
      exact Nat.add_right_cancel hset
    · show (if g ∈ told then 0 else waitsOn n ((s.setPca (s.pca.faceRequest f r.page).1).setWord f _).fsc.words[g]) = _
      rw [waitsOn_setWord]
      by_cases hg : g = f
      · subst hg
        have hold : waitsOn n s.fsc.words[g] = 0 := waitsOn_none hwaiting n
        rw [if_neg htold, if_neg htold, if_pos rfl, hold]
        simp [waitsOn]
      · have hother : ¬(r.page = n ∧ g = f) := fun hh => hg hh.2
        rw [if_neg hg, if_neg hother, Nat.add_zero]
        rfl

theorem prepare_fits (h : StringFits faulted told s) {f : FaceIx} (htold : f ∉ told) (c : ActiveChain) (hfree : s.fsc.string = none)
    (hwaiting : s.fsc.words[f].waiting = none) (hactive : s.fsc.words[f].active ≠ none) : StringFits faulted told (s.prepare f c) := by
  unfold State.prepare
  split
  · exact h.endChain f _
  · cases hs : s.fsc.words[f].started with
    | some r =>
      refine beginTransfer_fits h.words c hfree hwaiting (CacheFits.of_pins h.cache (fun n _ => ?_) fun _ _ => rfl)
      have hone : startedOn n s.fsc.words[f] = if r.page = n then 1 else 0 := startedOn_some hs n
      have hle := startedOn_le s f n
      omega
    | none =>
      refine .ite (fun hz => ?_) (fun hz => requestPage_fits h htold c hfree hwaiting hs hactive hz)
      refine beginTransfer_fits h.words c hfree hwaiting (CacheFits.of_pins h.cache (fun n hn => ?_) fun _ _ => rfl)
      rw [startedOn_none hs, hz, if_neg hn.symm]
      rfl

theorem startGenerated_fits (h : StringFits faulted told s) {f : FaceIx} (htold : f ∉ told) (hfree : s.fsc.string = none)
    (hactive : s.fsc.words[f].active = none) : StringFits faulted told (s.startGenerated f) := by
  obtain ⟨hwaiting, hstarted⟩ := (h.words f).1.chained hactive
  refine .ite (fun _ => h.setWord_aside f) (fun _ => ?_)
  refine prepare_fits (h.setWord f (by exact recordsOk_of_no_record hwaiting hstarted)) htold _ hfree ?_ ?_
  · rw [setWord_word]; exact hwaiting
  · rw [setWord_word]; simp

theorem beginPoll_fits (h : StringFits faulted told s) (f : FaceIx) (hfree : s.fsc.string = none) :
    StringFits faulted told (s.beginPoll f) := by
  unfold State.beginPoll
  dsimp only
  generalize hst : (if (s.fsc.words[f].state == .offline) = true then WordState.offline else WordState.transfer) = st
  have hstate : st ≠ .active := by
    rw [← hst]
    split <;> simp
  exact StringFits.of_same (StringFits.setString (h.setWord_state f (w := { s.fsc.words[f] with
    state := st, retry := 0, poll := .underway, attnStacked := _ }) hstate) (x := some (.poll f _ _))
    (fun n => congrArg (drawnOn n) hfree) fun n => rfl) (by exact rfl) (by exact rfl) (by exact rfl)

theorem mem_of_foldl_preferred {cs : List Candidate} {b : Option Candidate} {c : Candidate} (h : cs.foldl preferred b = some c) :
    b = some c ∨ c ∈ cs := by
  induction cs generalizing b with
  | nil => exact .inl h
  | cons x cs ih =>
    rcases ih h with h | h
    · unfold preferred at h
      split at h
      · cases h; exact .inr List.mem_cons_self
      · split at h
        · cases h; exact .inr List.mem_cons_self
        · exact .inl h
    · exact .inr (List.mem_cons_of_mem x h)

/-- What the arbiter takes is a candidate of its face word, on a free string in RUNNING. -/
theorem choice_eq_some {c : Candidate} (h : s.choice = some c) :
    s.running = true ∧ s.fsc.string = none ∧ c ∈ s.fsc.words[c.face].candidates c.face := by
  unfold State.choice at h
  split at h
  · next hr =>
    rw [Bool.and_eq_true, Option.isNone_iff_eq_none] at hr
    refine ⟨hr.1, hr.2, ?_⟩
    rcases mem_of_foldl_preferred h with h | h
    · exact absurd h (by simp)
    · obtain ⟨f, -, hf⟩ := List.mem_flatMap.mp h
      have hface : c.face = f := by
        simp only [FaceWord.candidates, List.mem_append, Option.mem_toList, Option.map_eq_some_iff] at hf
        rcases hf with (hf | hf) | ⟨p, -, rfl⟩
        · split at hf
          · cases List.mem_singleton.mp hf; rfl
          · exact absurd hf List.not_mem_nil
        · split at hf
          · obtain ⟨a, -, rfl⟩ := Option.map_eq_some_iff.mp (Option.mem_toList.mp hf)
            rfl
          · exact absurd hf List.not_mem_nil
        · rfl
      exact hface ▸ hf
  · exact absurd h (by simp)

/-- A demand is a candidate of an IDLE face word without a chain, a record of an ACTIVE one (R180). -/
theorem candidate_pick {w : FaceWord} {f : FaceIx} {c : Candidate} (h : c ∈ w.candidates f) :
    (c.pick = .demand → w.active = none) ∧ (c.pick = .record → w.state = .active) := by
  simp only [FaceWord.candidates, List.mem_append, Option.mem_toList, Option.map_eq_some_iff] at h
  rcases h with (h | h) | ⟨p, -, rfl⟩
  · split at h
    · next hc =>
      cases List.mem_singleton.mp h
      simp only [Bool.and_eq_true, Option.isNone_iff_eq_none] at hc
      exact ⟨fun _ => hc.1.2, nofun⟩
    · exact absurd h List.not_mem_nil
  · split at h
    · next hc =>
      obtain ⟨a, -, rfl⟩ := Option.map_eq_some_iff.mp (Option.mem_toList.mp h)
      exact ⟨nofun, fun _ => hc⟩
    · exact absurd h List.not_mem_nil
  · exact ⟨nofun, nofun⟩

theorem takeCandidate_fits (h : StringFits faulted [] s) {c : Candidate} (hc : s.choice = some c) :
    StringFits faulted [] (s.takeCandidate c) := by
  obtain ⟨-, hfree, hmem⟩ := choice_eq_some hc
  obtain ⟨hdemand, hrecord⟩ := candidate_pick hmem
  unfold State.takeCandidate
  split
  · next hp => exact startGenerated_fits h List.not_mem_nil hfree (hdemand hp)
  · next hp =>
    cases ha : s.fsc.words[c.face].active with
    | none => exact h
    | some a => exact prepare_fits h List.not_mem_nil a hfree ((h.words _).1.active (hrecord hp)) (ha ▸ Option.some_ne_none a)
  · exact beginPoll_fits h c.face hfree

theorem arbitrate_fits (h : StringFits faulted [] s) : StringFits faulted [] s.arbitrate := by
  have hpick : ∀ (n : Nat) (u : State), StringFits faulted [] u → StringFits faulted [] (u.pickUpTo n) := fun n => by
    induction n with
    | zero => exact fun u hu => hu
    | succ n ih =>
      intro u hu
      unfold State.pickUpTo
      split
      · next c hc => exact ih _ (takeCandidate_fits hu hc)
      · exact hu
  exact hpick 128 s h

/-! ### Ends of exchanges (R184 to R188) -/

theorem StringFits.continueChain (h : StringFits faulted told s) (f : FaceIx) (c : ActiveChain) :
    StringFits faulted told (s.continueChain f c) := by
  unfold State.continueChain
  split
  · exact .ite (fun _ => h.settle f) (fun _ => h.endGenerated f _ _ _)
  · exact .ite (fun _ => h.endSupplied f _ _ _) (fun _ => .ite (fun _ => h.settle f) (fun _ => h.endSupplied f _ _ _))

theorem recordDone_fits (h : StringFits faulted told s) {f : FaceIx} {r : DrawRecord} (hs : s.fsc.string = some (.draw f r)) :
    StringFits faulted told (s.recordDone f r) := by
  have hdone := (h.releaseRecord hs).recordCompleted f r.drawn
  unfold State.recordDone
  dsimp only
  split
  · next c hc =>
    exact (hdone.setWord f (by exact recordsOk_of_same (hdone.words f) rfl rfl (fun e => nomatch e) (hdone.words f).1.active)).continueChain f _
  · exact hdone.settle f

theorem tellFailedPicture_fits (h : StringFits faulted told s) (f : FaceIx) (r : DrawRecord) :
    StringFits faulted told (s.tellFailedPicture f r) := by
  unfold State.tellFailedPicture
  split
  · exact h.recordNotCompleted f _
  · exact h

theorem drawReply_fits (h : StringFits faulted told s) {f : FaceIx} {r : DrawRecord} (hs : s.fsc.string = some (.draw f r)) (x : Reply) :
    StringFits faulted told (s.drawReply f r x) := by
  cases x with
  | done => exact recordDone_fits h hs
  | fault c => exact (tellFailedPicture_fits (h.releaseRecord hs) f r).endChain f _
  | nothing => exact h
  | attention c => exact h

theorem drawSilent_fits (h : StringFits faulted told s) {f : FaceIx} {r : DrawRecord} (hs : s.fsc.string = some (.draw f r)) :
    StringFits faulted told (s.drawSilent f r) :=
  .ite (fun _ => h.setWord_aside f) (fun _ => (tellFailedPicture_fits (h.releaseRecord hs) f r).goOffline f)

theorem StringFits.attend (h : StringFits faulted told s) (f : FaceIx) (c : Byte) : StringFits faulted told (s.attend f c) := by
  have hack : ∀ (u : State) (x : Option (FaceIx × AckAnswer)), StringFits faulted told u →
      StringFits faulted told { u with fsc := { u.fsc with lastAck := x } } := fun u x hu => hu.of_same rfl rfl rfl
  have hcode : StringFits faulted told (if c = 1#8 ∨ c = 2#8 then
      (s.setWord f { s.fsc.words[f] with privacy := c == 1#8, restateDue := false }).handOff (.privacyChange f) else s) :=
    .ite (fun _ => (h.setWord_aside f).handOff _) (fun _ => h)
  exact .ite (fun _ => hack _ _ hcode) (fun _ => .ite (fun _ => (hack _ _ hcode).notice _) (fun _ => (hack _ _ hcode).setWord_aside f))

theorem StringFits.pollEffect (h : StringFits faulted told s) (f : FaceIx) (b : Bool) (x : Reply) :
    StringFits faulted told (s.pollEffect f b x) := by
  cases x with
  | done => exact h
  | fault c => exact h.notice _
  | nothing => exact .ite (fun _ => h.setWord_aside f) (fun _ => h)
  | attention c => exact h.attend f c

/-- A poll on the string draws nothing. -/
theorem pollEnds_fits (h : StringFits faulted told s) {f : FaceIx} {a b : Bool} (hs : s.fsc.string = some (.poll f a b)) :
    StringFits faulted told (s.setString none) := h.setString (fun n => by rw [hs]; rfl) fun _ => rfl

theorem pollReply_fits (h : StringFits faulted told s) {f : FaceIx} {a b : Bool} (hs : s.fsc.string = some (.poll f a b)) (x : Reply) :
    StringFits faulted told (s.pollReply f b x) := by
  have hfree := pollEnds_fits h hs
  have hback : ∀ u, StringFits faulted told u → StringFits faulted told (u.backOnline f) := fun u hu =>
    ((hu.setWord_state f (by simp)).notice _).handOff _
  have honline := StringFits.ite (c := (s.setString none).fsc.words[f].state = .offline) (fun _ => hback _ hfree) (fun _ => hfree)
  exact ((honline.pollEffect f b x).setWord_aside f).settle f

theorem pollSilent_fits (h : StringFits faulted told s) {f : FaceIx} {a b : Bool} (hs : s.fsc.string = some (.poll f a b)) :
    StringFits faulted told (s.pollSilent f) :=
  .ite (fun _ => (pollEnds_fits h hs).setWord_aside f) (fun _ => .ite (fun _ => h.setWord_aside f) (fun _ => (pollEnds_fits h hs).goOffline f))

theorem StringFits.age (h : StringFits faulted told s) (f : FaceIx) (a : Aging) : StringFits faulted told (s.age f a) := by
  unfold State.age
  dsimp only
  split
  · exact .ite (fun _ => h.setWord_aside f) (fun _ => h)
  · exact h.setWord_aside f
  · exact h

theorem StringFits.pollFallsDue (h : StringFits faulted told s) (f : FaceIx) : StringFits faulted told (s.pollFallsDue f) :=
  h.issue.setWord_aside f

theorem StringFits.foldl {α : Type} {op : State → α → State} (hop : ∀ u x, StringFits faulted told u → StringFits faulted told (op u x))
    (h : StringFits faulted told s) (xs : List α) : StringFits faulted told (xs.foldl op s) :=
  List.foldlRecOn (motive := StringFits faulted told) _ _ h fun u hu x _ => hop u x hu

/-! ### Ends of fetches (R203, R204) -/

/-- A waiter of a faulted fetch is told; a face word's wait has ended at the cache already. -/
theorem tellFault_fits {w : Waiter} {rest : List Waiter} (h : StringFits true (faceWaiters (w :: rest)) s) :
    StringFits true (faceWaiters rest) (s.tellFault w) := by
  cases w with
  | prefetch f => exact h
  | hold => exact (h.setPca fun _ _ hp => hp.holdFault).handOff _
  | face f =>
    have htold : faceWaiters (.face f :: rest) = f :: faceWaiters rest := rfl
    rw [htold] at h
    refine StringFits.endChain (s := s.setWord f { s.fsc.words[f] with waiting := none })
      ⟨CacheFits.of_pins h.cache (fun n _ => ?_) fun g n => ?_, words_setWord h.words f ?_⟩ f _
    · exact Nat.add_right_cancel (pinsOn_setWord s f { s.fsc.words[f] with waiting := none } n)
    · rw [waitsOn_setWord]
      by_cases hg : g = f
      · have hmem : g ∈ f :: faceWaiters rest := hg ▸ List.mem_cons_self
        rw [if_pos hg, if_pos hmem]
        have hzero : waitsOn n { s.fsc.words[f] with waiting := none } = 0 := rfl
        rw [hzero, ite_self]
      · simp [hg]
    · obtain ⟨⟨-, h2, -, -⟩, h5⟩ := h.words f
      exact ⟨⟨nofun, fun ha => ⟨rfl, (h2 ha).2⟩, fun _ => rfl, nofun⟩, h5⟩

theorem tellFaults_fits (ws : List Waiter) (h : StringFits true (faceWaiters ws) s) : StringFits true [] (ws.foldl State.tellFault s) := by
  induction ws generalizing s with
  | nil => exact h
  | cons w ws ih => exact ih (tellFault_fits h)

/-- The face words among the waiters of the page being filled are those that wait for it. -/
theorem mem_faceWaiters {ws : List Waiter} {f : FaceIx} : f ∈ faceWaiters ws ↔ .face f ∈ ws := by
  unfold faceWaiters
  rw [List.mem_filterMap]
  constructor
  · rintro ⟨w, hw, hf⟩
    cases w with
    | face g => cases hf; exact hw
    | hold => exact absurd hf (by simp)
    | prefetch g => exact absurd hf (by simp)
  · exact fun h => ⟨_, h, rfl⟩

theorem count_faceWaiters (ws : List Waiter) (f : FaceIx) : (faceWaiters ws).count f = ws.count (.face f) := by
  induction ws with
  | nil => rfl
  | cons w ws ih =>
    cases w with
    | face g =>
      have hcons : faceWaiters (.face g :: ws) = g :: faceWaiters ws := rfl
      rw [hcons, List.count_cons, List.count_cons, ih]
      simp
    | hold =>
      have hcons : faceWaiters (.hold :: ws) = faceWaiters ws := rfl
      rw [hcons, List.count_cons, ih]
      simp
    | prefetch g =>
      have hcons : faceWaiters (.prefetch g :: ws) = faceWaiters ws := rfl
      rw [hcons, List.count_cons, ih]
      simp

/-- Each face word that waits for the page being filled stands once among its waiters. -/
theorem count_face_filling (h : StringFits false [] s) {i : Fin 16} (hi : s.pca.slots[i].state = .filling) (f : FaceIx) :
    s.pca.slots[i].waiters.count (.face f) = waitsOn s.pca.slots[i].page s.fsc.words[f] := by
  rw [← waitsFor_filling h.cache.core hi, h.cache.waits]
  simp

theorem fetchFault_fits (h : StringFits false [] s) {i : Fin 16} (hi : s.pca.slots[i].state = .filling) :
    StringFits false [] (s.fetchFault i) := by
  have hend : StringFits true (faceWaiters s.pca.slots[i].waiters) (s.setPca (s.pca.endFault i)) := by
    refine ⟨CacheFits.of_pins (h.cache.endFault hi) (fun _ _ => rfl) fun f n => ?_, h.words⟩
    show (if f ∈ faceWaiters s.pca.slots[i].waiters then 0 else waitsOn n s.fsc.words[f]) = _
    have hcount := count_face_filling h hi f
    by_cases hn : s.pca.slots[i].page = n
    · rw [if_pos hn, ← hn]
      by_cases hf : f ∈ faceWaiters s.pca.slots[i].waiters
      · rw [if_pos hf]
      · rw [if_neg hf, ← hcount]
        exact List.count_eq_zero.mpr fun hm => hf (mem_faceWaiters.mpr hm)
    · rw [if_neg hn]
      by_cases hf : f ∈ faceWaiters s.pca.slots[i].waiters
      · rw [if_pos hf]
        have hpos : 0 < s.pca.slots[i].waiters.count (.face f) := List.count_pos_iff.mpr (mem_faceWaiters.mp hf)
        rw [hcount] at hpos
        exact (waitsOn_elsewhere hpos hn).symm
      · rw [if_neg hf, if_neg List.not_mem_nil]
  have htold := tellFaults_fits _ hend
  exact ⟨htold.cache.freePort, htold.words⟩

/-- The face words that waited for a page are told it is ready, one after the other: each turns one of the pins made for them into its own. -/
theorem pageReady_fits {n : Nat} (hn : n ≠ 0) (fs : List FaceIx) (hnodup : fs.Nodup) {s : State} (hwords : ∀ f : FaceIx, RecordsOk s.fsc.words[f])
    (hwait : ∀ f ∈ fs, waitsOn n s.fsc.words[f] = 1)
    (hcache : CacheFits false s.pca (fun m => pinsOn s m + if n = m then fs.length else 0)
      (fun f m => if f ∈ fs then 0 else waitsOn m s.fsc.words[f])) :
    StringFits false [] (fs.foldl State.pageReady s) := by
  induction fs generalizing s with
  | nil => exact ⟨hcache.of_pins (fun m _ => by simp) fun _ _ => rfl, hwords⟩
  | cons f fs ih =>
    obtain ⟨hf, hfs⟩ := List.nodup_cons.mp hnodup
    obtain ⟨r, hr, hrn⟩ : ∃ r, s.fsc.words[f].waiting = some r ∧ r.page = n := by
      have hone := hwait f List.mem_cons_self
      unfold waitsOn at hone
      cases hw : s.fsc.words[f].waiting with
      | none => rw [hw] at hone; exact absurd hone (by simp)
      | some r => rw [hw] at hone; exact ⟨r, rfl, by simpa using hone⟩
    have hstarted : s.fsc.words[f].started = none := (hwords f).1.onlyOne (by rw [hr]; rfl)
    have hready : s.pageReady f = s.setWord f { s.fsc.words[f] with
        started := some r, waiting := none
        state := ({ s.fsc.words[f] with started := some r, waiting := none } : FaceWord).rest (s.onString f) } := by
      unfold State.pageReady State.settle
      simp only [setWord_word, setWord_setWord, hr]
      rfl
    rw [List.foldl_cons, hready]
    generalize ({ s.fsc.words[f] with started := some r, waiting := none } : FaceWord).rest (s.onString f) = st
    have hother : ∀ g, g ≠ f → (s.setWord f { s.fsc.words[f] with started := some r, waiting := none, state := st }).fsc.words[g]
        = s.fsc.words[g] := fun g hg => setWord_word_other hg.symm
    refine ih hfs (words_setWord hwords f ?_) (fun g hg => ?_) (hcache.of_pins (fun m hm => ?_) fun g m => ?_)
    · refine ⟨⟨nofun, fun ha => ?_, fun _ => rfl, nofun⟩, fun x hx => ?_⟩
      · exact absurd (hr.symm.trans ((hwords f).1.chained ha).1) (by simp)
      · cases hx; exact hrn ▸ hn
    · rw [hother g fun e => hf (e ▸ hg)]
      exact hwait g (List.mem_cons_of_mem f hg)
    · have hset := pinsOn_setWord s f { s.fsc.words[f] with started := some r, waiting := none, state := st } m
      have hold : startedOn m s.fsc.words[f] = 0 := startedOn_none hstarted m
      have hnew : startedOn m { s.fsc.words[f] with started := some r, waiting := none, state := st } = if n = m then 1 else 0 := by
        simp [startedOn, hrn]
      rw [hold, hnew] at hset
      rw [List.length_cons]
      by_cases hnm : n = m
      · simp only [hnm, if_true] at hset ⊢
        omega
      · simp only [hnm, if_false] at hset ⊢
        omega
    · by_cases hg : g = f
      · subst hg
        rw [setWord_word, if_pos List.mem_cons_self]
        have hzero : waitsOn m { s.fsc.words[g] with started := some r, waiting := none, state := st } = 0 := rfl
        rw [hzero, ite_self]
      · rw [hother g hg]
        simp [hg]

theorem fetchGood_fits (h : StringFits false [] s) {i : Fin 16} (hi : s.pca.slots[i].state = .filling) (bytes : List Byte) :
    StringFits false [] (s.fetchGood i bytes) := by
  have hcount := count_face_filling h hi
  have hle : ∀ f, (faceWaiters s.pca.slots[i].waiters).count f ≤ 1 := fun f => by
    rw [count_faceWaiters, hcount]
    unfold waitsOn
    split <;> simp
  have hmem : ∀ f, f ∈ faceWaiters s.pca.slots[i].waiters ↔ waitsOn s.pca.slots[i].page s.fsc.words[f] = 1 := fun f => by
    rw [← List.count_pos_iff, count_faceWaiters, hcount]
    unfold waitsOn
    split <;> simp
  unfold State.fetchGood
  dsimp only
  by_cases hn : s.pca.slots[i].page = 0
  · have hnobody : faceWaiters s.pca.slots[i].waiters = [] := by
      refine List.eq_nil_iff_forall_not_mem.mpr fun f hf => ?_
      have hone := (hmem f).mp hf
      unfold waitsOn at hone
      cases hw : s.fsc.words[f].waiting with
      | none => rw [hw] at hone; exact absurd hone (by simp)
      | some r =>
        rw [hw] at hone
        exact (h.words f).1.page r hw (hn ▸ by simpa using hone)
    rw [hnobody]
    refine ⟨CacheFits.of_pins (h.cache.endGood hi bytes) (fun m hm => ?_) fun f m => ?_, h.words⟩
    · rw [if_neg (hn ▸ hm.symm), Nat.add_zero]
      rfl
    · show (if f ∈ [] then 0 else waitsOn m s.fsc.words[f]) = _
      by_cases hm : s.pca.slots[i].page = m
      · rw [if_pos hm, ← hm, if_neg List.not_mem_nil, ← hcount f]
        exact List.count_eq_zero.mpr fun hc => absurd (mem_faceWaiters.mpr hc) (hnobody ▸ List.not_mem_nil)
      · rw [if_neg hm]
  · refine pageReady_fits (s := s.setPca (s.pca.endGood i bytes)) hn _ (List.nodup_iff_count_le_one.mpr hle) h.words
      (fun f hf => (hmem f).mp hf) (CacheFits.of_pins (h.cache.endGood hi bytes) (fun _ _ => rfl) fun f m => ?_)
    show (if f ∈ faceWaiters s.pca.slots[i].waiters then 0 else waitsOn m s.fsc.words[f]) = _
    by_cases hm : s.pca.slots[i].page = m
    · rw [if_pos hm, ← hm]
      by_cases hf : f ∈ faceWaiters s.pca.slots[i].waiters
      · rw [if_pos hf]
      · rw [if_neg hf, ← hcount f]
        exact List.count_eq_zero.mpr fun hc => hf (mem_faceWaiters.mpr hc)
    · rw [if_neg hm]
      by_cases hf : f ∈ faceWaiters s.pca.slots[i].waiters
      · rw [if_pos hf]
        exact (waitsOn_elsewhere (Nat.lt_of_lt_of_eq Nat.zero_lt_one ((hmem f).mp hf).symm) hm).symm
      · rw [if_neg hf, if_neg List.not_mem_nil]

end

end Sys2Proof.Machine
end

section
/-! PROOFS. The face words and the page cache agree after every step: the FSC's load, what sleeps until it, and every command. -/

namespace Sys2Proof.Machine

set_option Elab.async false

/-! ### The FSC's load (R171) -/

/-- The FSC's load is outstanding no more often than before. -/
def NoLoad (s t : State) : Prop := t.handoffs.count .fscProfileLoad ≤ s.handoffs.count .fscProfileLoad

theorem NoNew.noLoad {s t : State} (h : NoNew s t) : NoLoad s t := h _ rfl

theorem noLoad_of_same {s t : State} (h : t.handoffs = s.handoffs) : NoLoad s t := le_of_eq (congrArg _ h)

theorem unloaded_of_noLoad {s t : State} (h : NoLoad s t) (hr : t.running = s.running) (u : Unloaded t) : Unloaded s :=
  u.imp (fun e => hr ▸ e) fun m => List.count_pos_iff.mp ((List.count_pos_iff.mpr m).trans_le h)

theorem loadOnce_of_noLoad {s t : State} (h : NoLoad s t) (hr : t.running = s.running) (l : LoadOnce s) : LoadOnce t :=
  ⟨le_trans h l.1, fun e m => l.2 (hr ▸ e) (List.count_pos_iff.mp ((List.count_pos_iff.mpr m).trans_le h))⟩

/-! ### Asleep: nothing a command does wakes a face word before the load -/

theorem asleep_of_same {s t : State} (h : Asleep s) (hw : t.fsc.words = s.fsc.words) (hs : t.fsc.string = s.fsc.string) : Asleep t :=
  ⟨hs.trans h.1, fun f => hw ▸ h.2 f⟩

theorem asleep_initial {s : State} (h : s.fsc = Fsc.initial) : Asleep s := ⟨by rw [h]; rfl, fun f => by rw [h]; exact word_initial f⟩

section
variable {s : State} (h : Asleep s)
include h

theorem Asleep.setWord (f : FaceIx) {w : FaceWord} (hw : w = FaceWord.initial) : Asleep (s.setWord f w) :=
  ⟨h.1, fun g => by
    by_cases hg : f = g
    · subst hg; rw [setWord_word]; exact hw
    · rw [setWord_word_other hg]; exact h.2 g⟩

theorem Asleep.foldl {α : Type} {op : State → α → State} (hop : ∀ u x, Asleep u → Asleep (op u x)) (xs : List α) : Asleep (xs.foldl op s) :=
  List.foldlRecOn (motive := Asleep) _ _ h fun u hu x _ => hop u x hu

/-- A word with no address, no demand and no poll due is no candidate. -/
theorem Asleep.choice_eq_none : s.choice = none := by
  cases hc : s.choice with
  | none => rfl
  | some c =>
    obtain ⟨-, -, hmem⟩ := choice_eq_some hc
    rw [h.2] at hmem
    exact absurd hmem List.not_mem_nil

theorem Asleep.arbitrate_eq : s.arbitrate = s := by
  show State.pickUpTo (127 + 1) s = s
  rw [State.pickUpTo, h.choice_eq_none]

theorem Asleep.takeDemand_eq (f : FaceIx) (k : DemandClass) : s.takeDemand f k = s := by
  unfold State.takeDemand
  rw [h.2]
  rfl

theorem Asleep.age_eq (f : FaceIx) (a : Aging) : s.age f a = s := by
  unfold State.age
  rw [h.2]
  cases a <;> rfl

theorem Asleep.musterFace_eq (f : FaceIx) : s.musterFace f = s := by
  unfold State.musterFace
  rw [h.2]
  rfl

theorem Asleep.recomputeFace (f : FaceIx) : Asleep (s.recomputeFace f) :=
  have same := (recomputeFace_within s f).same .fsc (by simp)
  asleep_of_same h (congrArg Fsc.words same) (congrArg Fsc.string same)

/-- No face word waits for a page. -/
theorem Asleep.not_face_waiter (fits : StringFits false [] s) {i : Fin 16} (hi : s.pca.slots[i].state = .filling) (f : FaceIx) :
    Waiter.face f ∉ s.pca.slots[i].waiters := fun hm => by
  have hpos := List.count_pos_iff.mpr hm
  rw [count_face_filling fits hi, h.2] at hpos
  exact absurd hpos (lt_irrefl 0)

theorem Asleep.fetchFault (fits : StringFits false [] s) {i : Fin 16} (hi : s.pca.slots[i].state = .filling) : Asleep (s.fetchFault i) := by
  have htold : Asleep (s.pca.slots[i].waiters.foldl State.tellFault (s.setPca (s.pca.endFault i))) := by
    refine List.foldlRecOn (motive := Asleep) _ _ (asleep_of_same h rfl rfl) fun u hu w hw => ?_
    cases w with
    | face f => exact absurd hw (h.not_face_waiter fits hi f)
    | prefetch f => exact hu
    | hold => exact asleep_of_same hu rfl rfl
  exact asleep_of_same htold rfl rfl

theorem Asleep.fetchGood (fits : StringFits false [] s) {i : Fin 16} (hi : s.pca.slots[i].state = .filling) (b : List Byte) :
    Asleep (s.fetchGood i b) := by
  have hnobody : faceWaiters s.pca.slots[i].waiters = [] :=
    List.eq_nil_iff_forall_not_mem.mpr fun f hf => h.not_face_waiter fits hi f (mem_faceWaiters.mp hf)
  unfold State.fetchGood
  rw [hnobody]
  exact asleep_of_same h rfl rfl

theorem Asleep.startChain (f : FaceIx) (rs : List SuppliedRecord) : (s.startChain f rs).1 = s := by
  unfold State.startChain
  rw [h.2]
  rfl

theorem Asleep.haltFace (f : FaceIx) : (s.haltFace f).1 = s := by
  unfold State.haltFace
  rw [h.2]
  rfl

end

/-! ### Kept by an operation -/

section
variable {s : State}

/-- An operation on the face words, the string and the cache that leaves the node's state and the FSC's load. -/
theorem PinsOk.string (P : PinsOk s) {t : State} (hr : t.running = s.running) (k : NoLoad s t)
    (fits : StringFits false [] s → StringFits false [] t) (asleep : StringFits false [] s → Asleep s → Asleep t) : PinsOk t := by
  obtain ⟨hf, hu, hl⟩ := pinsOk_iff.mp P
  exact pinsOk_iff.mpr ⟨fits hf, fun u => asleep hf (hu (unloaded_of_noLoad k hr u)), loadOnce_of_noLoad k hr hl⟩

theorem running_of_within {B : List Block} {t : State} (h : Within B s t) (hB : Block.pfl ∉ B) : t.running = s.running := by
  have hpfl : t.pfl = s.pfl := h.same .pfl hB
  unfold State.running
  rw [hpfl]

/-- An operation within the face string's frame. -/
theorem PinsOk.within_string (P : PinsOk s) {t : State} (h : StringWithin s t) (k : NoLoad s t)
    (fits : StringFits false [] s → StringFits false [] t) (asleep : StringFits false [] s → Asleep s → Asleep t) : PinsOk t :=
  P.string (running_of_within h (by simp)) k fits asleep

/-- An operation apart from the face string, the cache and the profile. -/
theorem PinsOk.within (P : PinsOk s) {B : List Block} {t : State} (h : Within B s t) (k : NoLoad s t)
    (hB : Block.fsc ∉ B ∧ Block.pca ∉ B ∧ Block.pfl ∉ B := by simp) : PinsOk t := by
  obtain ⟨hfsc, hpca, hpfl⟩ := hB
  have hf : t.fsc = s.fsc := h.same .fsc hfsc
  have hp : t.pca = s.pca := h.same .pca hpca
  exact P.string (running_of_within h hpfl) k (fun x => x.of_same (by rw [hf]) (by rw [hf]) hp)
    fun _ x => asleep_of_same x (by rw [hf]) (by rw [hf])

theorem PinsOk.ite {t u : State} {c : Prop} [Decidable c] (h : c → PinsOk t) (k : ¬ c → PinsOk u) : PinsOk (if c then t else u) := by
  split
  · exact h ‹_›
  · exact k ‹_›

theorem PinsOk.take (P : PinsOk s) (e : Instr) : PinsOk (s.take e) := P.within (take_within s e) (take_noNew s e).noLoad

/-- An operation of the cache alone. -/
theorem PinsOk.setPca (P : PinsOk s) {p : Pca} (hp : ∀ pin wait, CacheFits false s.pca pin wait → CacheFits false p pin wait) :
    PinsOk (s.setPca p) :=
  P.string rfl (noLoad_of_same rfl) (fun x => x.setPca hp) fun _ x => asleep_of_same x rfl rfl

/-- The blocks as a start, a RESTART or FALLBACK leaves them (R222, R225, 11.3). -/
theorem pinsOk_of_initial {t : State} (hh : .fscProfileLoad ∉ t.handoffs) (hf : t.fsc = Fsc.initial)
    (hp : t.pca = Pca.initial) : PinsOk t := by
  obtain ⟨⟨hc, hw⟩, -, -⟩ := pinsOk_iff.mp pinsOk_reset
  refine pinsOk_iff.mpr ⟨StringFits.of_same ⟨hc, hw⟩ (by rw [hf]; rfl) (by rw [hf]; rfl) hp, fun _ => asleep_initial hf, ?_, fun _ => hh⟩
  rw [List.count_eq_zero.mpr hh]
  exact Nat.zero_le _

/-! ### Profile loader -/

theorem start_pins : PinsOk s.start := pinsOk_of_initial List.not_mem_nil rfl rfl

theorem carryOutRestart_pins : PinsOk s.carryOutRestart :=
  pinsOk_of_initial (fun h => absurd (List.mem_filter.mp h).2 (by simp [isMinuteEventPlu])) rfl rfl

theorem enterFallback_pins (id : Byte) : PinsOk (s.enterFallback id) := pinsOk_of_initial List.not_mem_nil rfl rfl

/-- The one step that hands the FSC its load finds everything asleep and no load outstanding. -/
theorem enterRunning_pins (P : PinsOk s) (b : List Byte) (hr : s.running = false) : PinsOk (s.enterRunning b) := by
  obtain ⟨hf, hu, hl⟩ := pinsOk_iff.mp P
  refine pinsOk_iff.mpr ⟨hf.of_same rfl rfl rfl, fun _ => asleep_of_same (hu (.inl hr)) rfl rfl, ?_, fun h => absurd h (by
    simp [State.running, State.enterRunning])⟩
  show (s.handoffs ++ entryEvents).count .fscProfileLoad ≤ 1
  rw [List.count_append, List.count_eq_zero.mpr (hl.2 hr)]
  decide

theorem execProfileReadEnd_pins (P : PinsOk s) (m : Option (List Byte)) : Completes (execProfileReadEnd m s) PinsOk := by
  refine completes_next (.ite (fun hr => ?_) (fun _ => P))
  cases m.filter profilePasses with
  | none => exact enterFallback_pins _
  | some b => exact enterRunning_pins P b (not_running_of_reading hr)

theorem execFallbackPageReadEnd_pins (P : PinsOk s) (f : Option (List Byte)) : Completes (execFallbackPageReadEnd f s) PinsOk :=
  completes_next (.ite (fun _ => P.string rfl (noLoad_of_same rfl) (fun x => x.of_same rfl rfl rfl) fun _ x => asleep_of_same x rfl rfl)
    (fun _ => P))

/-! ### Host port -/

theorem respond_pins (P : PinsOk s) (r : Response) : PinsOk (s.respond r) := P.within (respond_within s r) (noLoad_of_same rfl)

theorem hpt_pins (P : PinsOk s) (h : Hpt) : PinsOk { s with hpt := h } :=
  P.string rfl (noLoad_of_same rfl) (fun x => x.of_same rfl rfl rfl) fun _ x => asleep_of_same x rfl rfl

theorem releaseSelect_pins (P : PinsOk s) (n : Nat) : PinsOk (s.releaseSelect n) :=
  .ite (fun _ => carryOutRestart_pins) (fun _ => hpt_pins P _)

theorem closeTransaction_pins (P : PinsOk s) : PinsOk s.closeTransaction := by
  unfold State.closeTransaction
  split
  · exact releaseSelect_pins P _
  · exact P

theorem hostCommand_pins (P : PinsOk s) (a b : Bool) {act : State → State × Response} (hact : ∀ t, PinsOk t → PinsOk (act t).1) :
    PinsOk (s.hostCommand a b act) := by
  have hclose := closeTransaction_pins P
  unfold State.hostCommand
  dsimp only
  split
  · exact respond_pins hclose _
  · exact respond_pins (hact _ hclose) _

theorem PinsOk.ite_fst {c : Prop} [Decidable c] {a b : State × Response} (ha : PinsOk a.1) (hb : PinsOk b.1) :
    PinsOk (if c then a else b).1 := by
  split <;> assumption

theorem takeHead_pins (P : PinsOk s) : PinsOk s.takeHead.1 := by
  unfold State.takeHead
  split
  · exact P
  · exact hpt_pins P _

theorem readStatus_pins (P : PinsOk s) : PinsOk s.readStatus.1 :=
  .ite_fst (P.within (spendFree_within s) (noLoad_of_same rfl)) (hpt_pins P _)

theorem readWord_pins (P : PinsOk s) (f : FaceIx) : PinsOk (s.readWord f).1 :=
  P.within_string (readWord_within s f) (readWord_keeps s f).events.noLoad (fun x => x.setWord_aside f)
    fun _ x => x.setWord f (by rw [x.2 f]; rfl)

theorem startChain_fits {faulted : Bool} (h : StringFits faulted [] s) (f : FaceIx) (rs : List SuppliedRecord) :
    StringFits faulted [] (s.startChain f rs).1 := by
  unfold State.startChain
  dsimp only
  split
  · exact h
  split
  · exact h
  split
  · exact h
  split
  · exact h
  split
  · exact h.giveEnding f _
  split
  · exact h.setWord_aside f
  · exact h.activate f rs

theorem startChain_noLoad (f : FaceIx) (rs : List SuppliedRecord) : NoLoad s (s.startChain f rs).1 := by
  unfold State.startChain
  dsimp only
  split
  · exact noLoad_of_same rfl
  split
  · exact noLoad_of_same rfl
  split
  · exact noLoad_of_same rfl
  split
  · exact noLoad_of_same rfl
  split
  · exact (giveEnding_keeps s f _).events.noLoad
  split <;> exact noLoad_of_same rfl

theorem startChain_pins (P : PinsOk s) (f : FaceIx) (rs : List SuppliedRecord) : PinsOk (s.startChain f rs).1 :=
  P.within_string (startChain_within s f rs) (startChain_noLoad f rs) (fun x => startChain_fits x f rs) fun _ x => by
    rw [x.startChain f rs]
    exact x

theorem haltFace_fits {faulted : Bool} (h : StringFits faulted [] s) (f : FaceIx) : StringFits faulted [] (s.haltFace f).1 := by
  unfold State.haltFace
  dsimp only
  split
  · exact h.discardPending f _
  split
  · split
    · exact h.setWord f (by exact recordsOk_of_same (h.words f) rfl rfl Option.map_eq_none_iff.mp (h.words f).1.active)
    · exact h.endChain f _
  · exact h

theorem haltFace_pins (P : PinsOk s) (f : FaceIx) : PinsOk (s.haltFace f).1 :=
  P.within_string (haltFace_within s f) (haltFace_keeps s f).events.noLoad (fun x => haltFace_fits x f) fun _ x => by
    rw [x.haltFace f]
    exact x

theorem recomputeFace_pins (P : PinsOk s) (f : FaceIx) : PinsOk (s.recomputeFace f) :=
  P.within (recomputeFace_within s f) (recomputeFace_noNew s f).noLoad

theorem recomputeFaces_pins (P : PinsOk s) (which : FaceConfig → Bool) : PinsOk (s.recomputeFaces which) :=
  P.within (recomputeFaces_within s which) (recomputeFaces_noNew s which).noLoad

theorem releaseHold_pins (P : PinsOk s) (f : FaceIx) : PinsOk (s.releaseHold f) :=
  have hword : PinsOk (s.setWord f { s.fsc.words[f] with hostHeld := false }) :=
    P.string rfl (noLoad_of_same rfl) (fun x => x.setWord_aside f) fun _ x => x.setWord f (by rw [x.2 f]; rfl)
  recomputeFace_pins hword f

theorem setLanguage_pins (P : PinsOk s) (f : FaceIx) (n : Nat) : PinsOk (s.setLanguage f n).1 := by
  unfold State.setLanguage
  split
  · exact P
  · exact .ite_fst P (recomputeFace_pins (P.within (setFace_within s f _) (setFace_noNew s f _).noLoad) f)

/-- The host's commands on the programme, the clock, the muster and the legs. -/
theorem hostOffer_pins (P : PinsOk s) (o : Offer) (t m : Word) : PinsOk (s.hostOffer o t m).1 :=
  P.within (hostOffer_within s o t m) (hostOffer_noNew s o t m).noLoad

theorem withdrawItem_pins (P : PinsOk s) (id : Nat) (t m : Word) : PinsOk (s.withdrawItem id t m).1 := by
  unfold State.withdrawItem
  split
  · exact P
  · exact .ite_fst P (hostOffer_pins P _ _ _)

theorem setClockCommand_pins (P : PinsOk s) (ps : List Byte) : PinsOk (s.setClockCommand ps).1 :=
  .ite_fst P (P.within (setClockByHost_within s _ _ _) (setClockByHost_noNew s _ _ _).noLoad)

theorem raisePhase_pins (P : PinsOk s) (code : Byte) (zones : List Byte) : PinsOk (s.raisePhase code zones).1 := by
  unfold State.raisePhase
  split
  · exact P
  · exact .ite_fst P (P.within (raise_within s _ zones) (raise_noNew s _ zones).noLoad)

theorem setCondition_pins (P : PinsOk s) (ps : List Byte) : PinsOk (s.setCondition ps).1 := by
  refine P.within (setCondition_within s ps) (NoNew.noLoad ?_)
  unfold State.setCondition
  dsimp only
  split
  · have hseq : NoNew s s.nextCondSeq := noNew_of_same rfl
    exact (hseq.trans (applyCondition_noNew _ _)).trans (noNew_of_frame (originate_within _ _).same (by simp))
  · exact .refl s

/-! ### The face string -/

/-- The face words written in fields other than their records. -/
theorem StringFits.of_records {faulted : Bool} {told : List FaceIx} (h : StringFits faulted told s) {t : State}
    (hs : t.fsc.string = s.fsc.string) (hp : t.pca = s.pca) (hok : ∀ f : FaceIx, RecordsOk t.fsc.words[f])
    (hw : ∀ f : FaceIx, t.fsc.words[f].waiting = s.fsc.words[f].waiting)
    (hstart : ∀ f : FaceIx, t.fsc.words[f].started = s.fsc.words[f].started) : StringFits faulted told t := by
  have hpins : ∀ n, pinsOn t n = pinsOn s n := fun n => by
    have hsum : ∑ f : FaceIx, startedOn n t.fsc.words[f] = ∑ f : FaceIx, startedOn n s.fsc.words[f] :=
      Finset.sum_congr rfl fun f _ => by
        unfold startedOn
        rw [hstart]
    rw [pinsOn_eq, pinsOn_eq, hs, hsum]
  refine ⟨?_, hok⟩
  unfold CacheServes
  rw [hp]
  refine CacheFits.of_pins h.cache (fun n _ => hpins n) fun f n => ?_
  unfold waitsOn
  rw [hw]

theorem pollAtLoad_pins (P : PinsOk s) (f : FaceIx) : PinsOk (s.pollAtLoad f) :=
  .ite (fun ha => P.within_string (pollFallsDue_within s f) (pollFallsDue_keeps s f).events.noLoad (fun x => x.pollFallsDue f)
    fun _ x => absurd ha (by rw [x.2]; decide)) (fun _ => P)

theorem PinsOk.foldl {α : Type} {op : State → α → State} (P : PinsOk s) (hop : ∀ u x, PinsOk u → PinsOk (op u x)) (xs : List α) :
    PinsOk (xs.foldl op s) := List.foldlRecOn (motive := PinsOk) _ _ P fun u hu x _ => hop u x hu

/-- The load wakes the face words, and is outstanding no more. -/
theorem execFscProfileLoad_pins (P : PinsOk s) : Completes (execFscProfileLoad s) PinsOk := by
  refine .ite (fun h => completes_next ?_) (fun _ => completes_next (P.take _))
  obtain ⟨hrun, hload⟩ := Bool.and_eq_true_iff.mp h
  obtain ⟨hf, hu, hl⟩ := pinsOk_iff.mp P
  have hasleep : Asleep s := hu (.inr (List.contains_iff_mem.mp hload))
  have hnone : (s.handoffs.erase .fscProfileLoad).count .fscProfileLoad = 0 := by
    have hone := List.count_erase_self (a := Instr.fscProfileLoad) (l := s.handoffs)
    exact hone.trans (Nat.sub_eq_zero_of_le hl.1)
  have hgone : .fscProfileLoad ∉ s.handoffs.erase .fscProfileLoad := List.count_eq_zero.mp hnone
  have hword : ∀ f : FaceIx, (tabulate (fun f => loadedWord (s.pfl.profile.faces[f].map (·.address))))[f]
      = loadedWord (s.pfl.profile.faces[f].map (·.address)) := fun f => tabulate_get _ _
  refine recomputeFaces_pins (PinsOk.foldl (pinsOk_iff.mpr ⟨hf.of_records (by exact rfl) (by exact rfl) (fun f => ?_) (fun f => ?_) fun f => ?_,
    fun u => ?_, ?_⟩) (fun _ f Q => pollAtLoad_pins Q f) _) _
  · exact (hword f).symm ▸ recordsOk_of_no_record rfl rfl
  · exact (congrArg FaceWord.waiting (hword f)).trans (congrArg FaceWord.waiting (hasleep.2 f)).symm
  · exact (congrArg FaceWord.started (hword f)).trans (congrArg FaceWord.started (hasleep.2 f)).symm
  · exact u.elim (fun e => absurd (hrun.symm.trans e) (by decide)) fun m => absurd m hgone
  · exact ⟨hnone.le.trans (Nat.zero_le 1), fun _ => hgone⟩

/-- The FSC clears the host holds (R166). -/
theorem clearHostHolds_word (s : State) (f : FaceIx) : s.clearHostHolds.fsc.words[f] = { s.fsc.words[f] with hostHeld := false } :=
  tabulate_get _ _

theorem clearHostHolds_pins (P : PinsOk s) : PinsOk s.clearHostHolds := by
  have hword := clearHostHolds_word s
  refine P.string rfl (noLoad_of_same rfl) (fun x => ?_) fun _ x => ?_
  · refine x.of_records rfl rfl (fun f => ?_) (fun f => by rw [hword]) fun f => by rw [hword]
    rw [hword]
    exact recordsOk_of_same (x.words f) rfl rfl id (x.words f).1.active
  · refine ⟨x.1, fun f => ?_⟩
    rw [hword, x.2]
    rfl

theorem fcu_pins (P : PinsOk s) (c : Fcu) : PinsOk { s with fcu := c } :=
  P.string rfl (noLoad_of_same rfl) (fun x => x.of_same rfl rfl rfl) fun _ x => asleep_of_same x rfl rfl

theorem execReturnToQuietFcu_pins (P : PinsOk s) : Completes (execReturnToQuietFcu s) PinsOk :=
  completes_next (.ite (fun _ => recomputeFaces_pins (fcu_pins (clearHostHolds_pins (P.take _)) _) _) (fun _ => P.take _))

theorem demand_pins (P : PinsOk s) (f : FaceIx) (k : DemandClass) : PinsOk (s.takeDemand f k) :=
  P.within_string (takeDemand_within s f k) (takeDemand_keeps s f k).events.noLoad (fun x => x.takeDemand f k) fun _ x => by
    rw [x.takeDemand_eq]
    exact x

theorem age_pins (P : PinsOk s) (f : FaceIx) (a : Aging) : PinsOk (s.age f a) :=
  P.within_string (age_within s f a) (age_keeps s f a).events.noLoad (fun x => x.age f a) fun _ x => by
    rw [x.age_eq]
    exact x

theorem execPollDue_pins (P : PinsOk s) (fs : List FaceIx) : Completes (execPollDue fs s) PinsOk := by
  refine completes_next (P.within_string (Within.foldl pollFallsDue_within _ _) (StringKeeps.foldl pollFallsDue_keeps _ _).events.noLoad
    (fun x => x.foldl (fun _ f y => y.pollFallsDue f) _) fun _ x => ?_)
  have hnone : (roundRobin s.fsc.lastPolled).filter (fun f => fs.contains f && s.fsc.words[f].pollWaits) = [] :=
    List.filter_eq_nil_iff.mpr fun f _ => by
      rw [x.2]
      simp [FaceWord.pollWaits, FaceWord.initial]
  rw [hnone]
  exact x

theorem musterFaces_pins (P : PinsOk s) (fs : List FaceIx) : PinsOk (fs.foldl State.musterFace s) :=
  P.foldl (fun u f Q => Q.within_string (musterFace_within u f) (musterFace_keeps u f).events.noLoad (fun x => x.musterFace f) fun _ x => by
    rw [x.musterFace_eq]
    exact x) fs

theorem arbitrate_pins (P : PinsOk s) : PinsOk s.arbitrate :=
  P.within_string (arbitrate_within s) (arbitrate_keeps s).events.noLoad arbitrate_fits fun _ x => by
    rw [x.arbitrate_eq]
    exact x

/-- An exchange ends: something stood on the string. -/
theorem PinsOk.exchangeEnds (P : PinsOk s) {t : State} {x : Exchange} (hx : s.fsc.string = some x) (h : StringWithin s t) (k : StringKeeps s t)
    (fits : StringFits false [] s → StringFits false [] t) : PinsOk t :=
  P.within_string h k.events.noLoad fits fun _ a => absurd (hx.symm.trans a.1) (by simp)

theorem execFaceReply_pins (P : PinsOk s) (bytes : List Byte) : Completes (execFaceReply bytes s) PinsOk := by
  have harb := arbitrate_pins P
  unfold execFaceReply
  dsimp only
  split
  · next f r hx =>
    cases readReply _ true bytes with
    | none => exact completes_next harb
    | some x => exact completes_next (harb.exchangeEnds hx (drawReply_within _ _ _ x) (drawReply_keeps _ _ _ x) fun y => drawReply_fits y hx x)
  · next f a b hx =>
    cases readReply _ false bytes with
    | none => exact completes_next harb
    | some x => exact completes_next (harb.exchangeEnds hx (pollReply_within _ _ _ x) (pollReply_keeps _ _ _ x) fun y => pollReply_fits y hx x)
  · exact completes_next harb

theorem execReplyWaitExpiry_pins (P : PinsOk s) : Completes (execReplyWaitExpiry s) PinsOk := by
  have harb := arbitrate_pins P
  unfold execReplyWaitExpiry
  dsimp only
  split
  · next f r hx => exact completes_next (harb.exchangeEnds hx (drawSilent_within _ _ _) (drawSilent_keeps _ _ _) fun y => drawSilent_fits y hx)
  · next f a b hx => exact completes_next (harb.exchangeEnds hx (pollSilent_within _ _) (pollSilent_keeps _ _) fun y => pollSilent_fits y hx)
  · exact completes_next harb

/-! ### Fetches -/

theorem fetching_pins (P : PinsOk s) : PinsOk s.fetching := .ite (fun _ => P) (fun _ => arbitrate_pins P)

/-- The slot of the fetch on the port is FILLING. -/
theorem filling_of_fetch (P : PinsOk s) {x : Fetch} (hx : s.pca.fetch = some x) : s.pca.slots[x.slot].state = .filling :=
  (P.cache.filling x.slot).mpr ⟨x, hx, rfl⟩

theorem fetchFault_pins (P : PinsOk s) {x : Fetch} (hx : s.pca.fetch = some x) : PinsOk (s.fetchFault x.slot) :=
  have hi := filling_of_fetch P hx
  P.within_string (fetchFault_within s _) (fetchFault_keeps s _).events.noLoad (fun y => fetchFault_fits y hi) fun y a => a.fetchFault y hi

theorem setFetch_pins (P : PinsOk s) {x y : Fetch} (hx : s.pca.fetch = some x) (hxy : y.slot = x.slot) : PinsOk (s.setFetch (some y)) :=
  P.setPca (p := { s.pca with fetch := some y }) fun _ _ h => h.of_same rfl rfl (by rw [hx, Option.map_some, Option.map_some, hxy])

theorem execFetchHeaderRead_pins (P : PinsOk s) (m k hh lo : Byte) : Completes (execFetchHeaderRead m k hh lo s) PinsOk := by
  have hfetch := fetching_pins P
  unfold execFetchHeaderRead
  dsimp only
  split
  · next i hx => exact completes_next (.ite (fun _ => setFetch_pins hfetch hx rfl) (fun _ => fetchFault_pins hfetch hx))
  · exact completes_next hfetch

theorem execFetchNoAnswer_pins (P : PinsOk s) : Completes (execFetchNoAnswer s) PinsOk := by
  have hfetch := fetching_pins P
  unfold execFetchNoAnswer
  dsimp only
  split
  · next i hx => exact completes_next (fetchFault_pins hfetch hx)
  · exact completes_next hfetch

theorem execFetchEndGood_pins (P : PinsOk s) (body : List Byte) : Completes (execFetchEndGood body s) PinsOk := by
  unfold execFetchEndGood
  split
  · next i _ hx =>
    have hi := filling_of_fetch P hx
    exact completes_next (.ite (fun _ => P.within_string (fetchGood_within s _ _) (fetchGood_keeps s _ _).events.noLoad
      (fun y => fetchGood_fits y hi _) fun y a => a.fetchGood y hi _) (fun _ => P))
  · exact completes_next P

end

/-! ### Commands apart from the face string: none hands over the FSC's load -/

/-- A command that touches neither the face string nor the cache nor the profile, and hands over no load. -/
theorem PinsOk.apart {s : State} (P : PinsOk s) (i : Instr) (k : Completes (exec i s) (NoLoad s))
    (hB : Block.fsc ∉ touched i ∧ Block.pca ∉ touched i ∧ Block.pfl ∉ touched i := by simp [touched]) : Completes (exec i s) PinsOk := by
  obtain ⟨t, ht, hwithin⟩ := exec_within i s
  obtain ⟨u, hu, hload⟩ := k
  cases ht.symm.trans hu
  exact ⟨t, ht, P.within hwithin hload hB⟩

/-- A command that hands over nothing. -/
theorem PinsOk.still {s : State} (P : PinsOk s) (i : Instr)
    (hB : Block.handoffs ∉ touched i ∧ Block.fsc ∉ touched i ∧ Block.pca ∉ touched i ∧ Block.pfl ∉ touched i := by simp [touched]) :
    Completes (exec i s) PinsOk :=
  P.apart i ((exec_within i s).mono fun _ h => noLoad_of_same (h.same .handoffs hB.1)) hB.2

section
variable (s : State)

theorem take_noLoad (e : Instr) : NoLoad s (s.take e) := (take_noNew s e).noLoad

theorem completes_noLoad {t : State} (h : NoNew s t) : Completes (.next t) (NoLoad s) := completes_next h.noLoad

theorem rtu_noNew (r : Rtu) : NoNew s { s with rtu := r } := noNew_of_same rfl

theorem lgm_noNew (g : Lgm) : NoNew s { s with lgm := g } := noNew_of_same rfl

theorem adu_noNew (a : Adu) : NoNew s { s with adu := a } := noNew_of_same rfl

theorem muc_noNew (m : Muc) : NoNew s { s with muc := m } := noNew_of_same rfl

theorem plu_noNew (p : Plu) : NoNew s { s with plu := p } := noNew_of_same rfl

theorem fcu_noNew (c : Fcu) : NoNew s { s with fcu := c } := noNew_of_same rfl

theorem execRtuProfileLoad_noLoad : Completes (execRtuProfileLoad s) (NoLoad s) :=
  .ite (fun _ => completes_noLoad s (.refl s)) (fun _ => .ite (fun _ =>
    completes_noLoad s ((take_noNew s .rtuProfileLoad).trans ((rtu_noNew _ _).trans (recompute_noNew _ _))))
    (fun _ => completes_next (take_noLoad s _)))

theorem execAdvertisedCostWrite_noLoad (l : LegIx) (d : DestIx) (v : Cost) : Completes (execAdvertisedCostWrite l d v s) (NoLoad s) :=
  .ite (fun _ => completes_noLoad s ((take_noNew s _).trans ((rtu_noNew _ _).trans (recompute_noNew _ _))))
    (fun _ => completes_next (take_noLoad s _))

theorem execLegReport_noLoad (r : LegReport) : Completes (execLegReport r s) (NoLoad s) :=
  .ite (fun _ => completes_noLoad s ((take_noNew s _).trans (.ite ((rtu_noNew _ _).trans (recompute_noNew _ _)) (rtu_noNew _ _))))
    (fun _ => completes_next (take_noLoad s _))

theorem announceDoor_noNew (l : LegIx) : NoNew s (s.announceDoor l) := noNew_of_frame (announceDoor_within s l).same (by simp)

theorem execLgmProfileLoad_noLoad : Completes (execLgmProfileLoad s) (NoLoad s) :=
  .ite (fun _ => completes_noLoad s ((take_noNew s .lgmProfileLoad).trans ((lgm_noNew _ _).trans (.foldl announceDoor_noNew _ _))))
    (fun _ => completes_next (take_noLoad s _))

theorem execAduProfileLoad_noLoad : Completes (execAduProfileLoad s) (NoLoad s) := by
  have hurge : ∀ (u : State) (p : Port), NoNew u (u.urgeChanged p) := fun u p => noNew_of_frame (urgeChanged_within u p).same (by simp)
  exact .ite (fun _ => completes_noLoad s ((take_noNew s .aduProfileLoad).trans ((adu_noNew _ _).trans ((hurge _ .da).trans (hurge _ .db)))))
    (fun _ => completes_next (take_noLoad s _))

theorem execChangedFlagReport_noLoad (p : Port) (d : DestIx) : Completes (execChangedFlagReport p d s) (NoLoad s) :=
  .ite (fun _ => completes_noLoad s ((take_noNew s _).trans (noNew_of_frame (markUrgent_within _ p _).same (by simp))))
    (fun _ => completes_next (take_noLoad s _))

theorem execMucProfileLoad_noLoad : Completes (execMucProfileLoad s) (NoLoad s) :=
  .ite (fun _ => completes_noLoad s ((take_noNew s .mucProfileLoad).trans
    ((noNew_of_frame (placeAlarm_within (s.take .mucProfileLoad)).same (by simp)).trans ((muc_noNew _ _).trans (handOff_noNew _ rfl))))) (fun _ => completes_next (take_noLoad s _))

theorem execFcuProfileLoad_noLoad : Completes (execFcuProfileLoad s) (NoLoad s) :=
  .ite (fun _ => completes_noLoad s ((take_noNew s .fcuProfileLoad).trans ((fcu_noNew _ _).trans (recomputeFaces_noNew _ _))))
    (fun _ => completes_next (take_noLoad s _))

theorem execAdvertReceipt_noLoad (p : Port) (f : AdvertFrame) : Completes (execAdvertReceipt p f s) (NoLoad s) := by
  refine .ite (fun _ => ?_) (fun _ => completes_next (take_noLoad s _))
  split
  · exact completes_noLoad s ((take_noNew s _).trans (handOffs_noNew _ (untracked_receipt _ _ _ f)))
  · exact completes_next (take_noLoad s _)

theorem execAdvertArrival_noLoad (l : LegIx) : Completes (execAdvertArrival l s) (NoLoad s) := by
  have hmove : ∀ r es, Untracked es → NoNew s ((s.setLeg l r).takeGiving (.advertArrival l) es) := fun r es hes =>
    NoNew.trans (noNew_of_same rfl) (takeGiving_noNew (s.setLeg l r) _ hes)
  exact .ite (fun _ => completes_noLoad s (.ite ((hmove _ _ (untracked_reportEvents _)).trans (notice_noNew _ _))
    (hmove _ _ (untracked_reportEvents _)))) (fun _ => completes_next (take_noLoad s _))

theorem execSilenceTimerExpiry_noLoad (l : LegIx) : Completes (execSilenceTimerExpiry l s) (NoLoad s) := by
  have hmove : ∀ r es, Untracked es → NoNew s ((s.setLeg l r).handAhead (.advertArrival l) es) := fun r es hes =>
    NoNew.trans (noNew_of_same rfl) (handAhead_noNew (s.setLeg l r) _ hes)
  exact .ite (fun _ => completes_noLoad s ((hmove _ _ (untracked_reportEvents _)).trans (notice_noNew _ _)))
    (fun _ => completes_noLoad s (.refl s))

theorem execDoorLevelTaken_noLoad (l : LegIx) : Completes (execDoorLevelTaken l s) (NoLoad s) := by
  have hdoor : NoNew s (s.setDoor l { s.lgm.doors[l] with wait := false }) := noNew_of_same rfl
  exact .ite (fun _ => completes_noLoad s (hdoor.trans (.ite (.refl _) ((changeLegTo_noNew _ l _).trans
    (noNew_of_frame (originateDoor_within _ l).same (by simp)))))) (fun _ => completes_noLoad s (.refl s))

theorem execAlarmReceipt_noLoad (p : Port) (hop : Nat) (a : AlarmBody) : Completes (execAlarmReceipt p hop a s) (NoLoad s) := by
  unfold execAlarmReceipt
  cases phaseOfCode a.phaseCode with
  | none => exact completes_next (take_noLoad s _)
  | some ph =>
    exact .ite (fun _ => completes_noLoad s (((take_noNew s _).trans (adopt_noNew _ _ _ _ _)).trans
      (noNew_of_frame (relay_within _ _ _ _ _ _).same (by simp)))) (fun _ => completes_next (take_noLoad s _))

theorem execStandDownTimerExpiry_noLoad : Completes (execStandDownTimerExpiry s) (NoLoad s) := by
  have hchange : ∀ u : State, NoNew u u.setMusterChange := fun u => noNew_of_frame (setMusterChange_within u).same (by simp)
  have hquiet : NoNew s ({ s with muc := s.muc.toQuiet } : State).setMusterChange := (muc_noNew s _).trans (hchange _)
  exact .ite (fun _ => completes_noLoad s (.ite (hquiet.trans (handOffs_noNew _ (untracked_quietHandOffs _))) hquiet))
    (fun _ => completes_noLoad s (.refl s))

theorem execMinuteEventPlu_noLoad (old : Option Nat) (new : Nat) : Completes (execMinuteEventPlu old new s) (NoLoad s) := by
  have htake := take_noNew s (.minuteEventPlu old new)
  have hplu : ∀ p, NoNew s { s.take (.minuteEventPlu old new) with plu := p } := fun p => htake.trans (plu_noNew _ p)
  unfold execMinuteEventPlu
  dsimp only
  split
  · exact completes_noLoad s ((hplu _).trans (handOffs_noNew _ (untracked_minuteReports _ _)))
  · exact completes_noLoad s (hplu _)
  · exact completes_noLoad s htake

/-- A frame that arrives hands its owner an event, never the FSC's load. -/
theorem handToOwner_noLoad (p : Port) (hop : Nat) (b : FloodBody) : NoLoad s (s.handToOwner p hop b) := by
  have hgive : ∀ e, e ≠ Instr.fscProfileLoad → NoLoad s (s.handOff e) := fun e he => by
    show (s.handoffs ++ [e]).count .fscProfileLoad ≤ _
    rw [List.count_append, List.count_eq_zero.mpr fun hm => he (List.mem_singleton.mp hm).symm]
    exact le_rfl
  cases b with
  | condition c => exact hgive _ (fun e => nomatch e)
  | clock c => exact hgive _ (fun e => nomatch e)
  | alarm a => exact hgive _ (fun e => nomatch e)
  | programme b =>
    show NoLoad s (if zonePasses s.pfl.profile.zone b.target b.mask then s.handOff (.programmeOffer b.offer) else s)
    split
    · exact hgive _ (fun e => nomatch e)
    · exact le_rfl

theorem NoLoad.trans {s t u : State} (h : NoLoad s t) (k : NoLoad t u) : NoLoad s u := le_trans k h

theorem NoLoad.ite {s t u : State} {c : Prop} [Decidable c] (h : NoLoad s t) (k : NoLoad s u) : NoLoad s (if c then t else u) := by
  split <;> assumption

theorem execFrameArrival_noLoad (p : Port) (w : Bool) (bytes : List Byte) : Completes (execFrameArrival p w bytes s) (NoLoad s) := by
  have hrelay : ∀ (u : State) hop limit x b, NoLoad u (u.relay p hop limit x b) := fun u hop limit x b =>
    (noNew_of_frame (relay_within u p hop limit x b).same (by simp)).noLoad
  have hkey : ∀ k, NoLoad s (s.enterKey k) := fun _ => noLoad_of_same rfl
  have stay : NoLoad s s := le_rfl
  have running : ∀ a, NoLoad s (s.arriveRunning p w a) := fun a => by
    refine .ite stay ?_
    cases a with
    | advert f => exact .ite stay (handOff_noNew s rfl).noLoad
    | flooded f =>
      exact .ite stay (.ite stay (.ite (handToOwner_noLoad s p _ _) (.ite stay
        (((hkey _).trans (handToOwner_noLoad _ p _ _)).trans (hrelay _ _ _ _ _)))))
  have fallback : ∀ a, NoLoad s (s.arriveFallback p w a) := fun a => by
    refine .ite stay ?_
    cases a with
    | advert f => exact stay
    | flooded f => exact .ite stay ((hkey _).trans (hrelay _ _ _ _ _))
  unfold execFrameArrival
  cases readFrame bytes with
  | none => exact completes_next stay
  | some a =>
    cases s.pfl.node with
    | starting => exact completes_next stay
    | running => exact completes_next (running a)
    | fallback => exact completes_next (fallback a)

end

/-! ### Every command -/

/-- Every command keeps the agreement of the face words and the cache. -/
theorem exec_pins (i : Instr) {s : State} (P : PinsOk s) : Completes (exec i s) PinsOk := by
  have took : ∀ (e : Instr) {c : Prop} [Decidable c] {t : State}, NoNew (s.take e) t →
      Completes (.next (if c then t else s.take e)) (NoLoad s) := fun e _ _ _ h => completes_noLoad s (take_then_noNew s e h)
  cases i with
  | start => exact completes_next start_pins
  | profileReadEnd m => exact execProfileReadEnd_pins P m
  | profileFrameNotReady m => exact completes_next (.ite (fun _ => enterFallback_pins _) (fun _ => P))
  | fallbackPageReadEnd f => exact execFallbackPageReadEnd_pins P f
  | rtuProfileLoad => exact P.apart _ (execRtuProfileLoad_noLoad s)
  | lgmProfileLoad => exact P.apart _ (execLgmProfileLoad_noLoad s)
  | aduProfileLoad => exact P.apart _ (execAduProfileLoad_noLoad s)
  | mucProfileLoad => exact P.apart _ (execMucProfileLoad_noLoad s)
  | fcuProfileLoad => exact P.apart _ (execFcuProfileLoad_noLoad s)
  | fscProfileLoad => exact execFscProfileLoad_pins P
  | pcaProfileLoad => exact completes_next (P.take _)
  | frameArrival p w bytes => exact P.apart _ (execFrameArrival_noLoad s p w bytes)
  | transmissionStart p => exact P.still _
  | collision p => exact P.still _
  | backoffExpiry p => exact P.still _
  | transmissionComplete p => exact P.still _
  | advertReceipt p f => exact P.apart _ (execAdvertReceipt_noLoad s p f)
  | advertisedCostWrite l d v => exact P.apart _ (execAdvertisedCostWrite_noLoad s l d v)
  | legReport r => exact P.apart _ (execLegReport_noLoad s r)
  | changedFlagReport p d => exact P.apart _ (execChangedFlagReport_noLoad s p d)
  | advertTick => exact P.still _
  | gapTimerExpiry p => exact P.still _
  | advertArrival l => exact P.apart _ (execAdvertArrival_noLoad s l)
  | silenceTimerExpiry l => exact P.apart _ (execSilenceTimerExpiry_noLoad s l)
  | doorInputChange l c => exact P.still _
  | doorLevelTaken l => exact P.apart _ (execDoorLevelTaken_noLoad s l)
  | conditionApply c => exact P.apart _ (took _ (applyCondition_noNew _ c))
  | crowdLifetimeExpiry l =>
    exact P.apart _ (.ite (fun _ => completes_noLoad s (changeLegTo_noNew s l _)) (fun _ => completes_noLoad s (.refl s)))
  | musterReportLgm => exact P.apart _ (took _ (reevaluateAll_noNew _))
  | returnToQuietLgm => exact P.apart _ (took _ (reevaluateAll_noNew _))
  | alarmReceipt p hop a => exact P.apart _ (execAlarmReceipt_noLoad s p hop a)
  | repeatTimerExpiry => exact P.still _
  | standDownTimerExpiry => exact P.apart _ (execStandDownTimerExpiry_noLoad s)
  | secondsTimerExpiry => exact P.apart _ (completes_noLoad s (.ite (clockMoves_noNew s _) (.refl s)))
  | clockFrameReceipt c => exact P.apart _ (took _ (clockMoves_noNew _ _))
  | minuteEventPlu old new => exact P.apart _ (execMinuteEventPlu_noLoad s old new)
  | programmeOffer o => exact P.apart _ (took _ (offer_noNew _ o))
  | changedDestinationReport d => exact P.apart _ (took _ (recomputeFaces_noNew _ _))
  | programmeReport v n k => exact P.apart _ (took _ (recomputeFaces_noNew _ _))
  | minuteEventFcu old new => exact P.apart _ (took _ (recomputeFaces_noNew _ _))
  | musterReportFcu => exact P.apart _ (took _ (recomputeFaces_noNew _ _))
  | returnToQuietFcu => exact execReturnToQuietFcu_pins P
  | privacyChange f => exact P.apart _ (took _ (recomputeFace_noNew _ f))
  | languageRotationExpiry => exact P.apart _ (completes_noLoad s (.ite (.foldl rotateFace_noNew _ _) (.refl s)))
  | recordCompleted f d => exact P.apart _ (took _ (recordCompleted_keeps _ f d).events)
  | recordNotCompleted f d => exact P.apart _ (took _ (recordNotCompleted_keeps _ f d).events)
  | suppliedChainEnded f => exact P.apart _ (took _ (recomputeFace_noNew _ f))
  | faceBackOnline f => exact P.apart _ (took _ ((setFace_noNew _ f _).trans (recomputeFace_noNew _ f)))
  | heldPageFaultReport => exact P.apart _ (took _ (recomputeFaces_noNew _ _))
  | demand f k => exact completes_next (.ite (fun _ => demand_pins (P.take _) f k) (fun _ => P.take _))
  | candidateAging f a => exact completes_next (age_pins P f a)
  | pollDue fs => exact execPollDue_pins P fs
  | faceReply bytes => exact execFaceReply_pins P bytes
  | replyWaitExpiry => exact execReplyWaitExpiry_pins P
  | musterAdoptionFsc => exact completes_next (.ite (fun _ => musterFaces_pins (P.take _) _) (fun _ => P.take _))
  | fetchHeaderRead m k hh lo => exact execFetchHeaderRead_pins P m k hh lo
  | fetchNoAnswer => exact execFetchNoAnswer_pins P
  | fetchEndGood body => exact execFetchEndGood_pins P body
  | holdRequest ph => exact completes_next (.ite (fun _ => (P.take _).setPca fun _ _ h => h.hold ph _) (fun _ => P.take _))
  | releaseRequest ph => exact completes_next (.ite (fun _ => (P.take _).setPca fun _ _ h => h.release _) (fun _ => P.take _))
  | unknownCommand c ps => exact completes_next (respond_pins (closeTransaction_pins P) _)
  | status ps => exact completes_next (hostCommand_pins P _ _ fun _ Q => readStatus_pins Q)
  | readNotice ps => exact completes_next (hostCommand_pins P _ _ fun _ Q => takeHead_pins Q)
  | readMuster ps => exact completes_next (hostCommand_pins P _ _ fun _ Q => hpt_pins Q _)
  | readRoute ps =>
    refine completes_next (hostCommand_pins P _ _ fun t Q => ?_)
    cases indexOf 64 (byteAt ps 0) <;> exact Q
  | readLeg ps =>
    refine completes_next (hostCommand_pins P _ _ fun t Q => ?_)
    cases indexOf 6 (byteAt ps 0) <;> exact Q
  | readFace ps =>
    refine completes_next (hostCommand_pins P _ _ fun t Q => ?_)
    cases indexOf 32 (byteAt ps 0) with
    | none => exact Q
    | some f => exact readWord_pins Q f
  | startFaceChain ps =>
    refine completes_next (hostCommand_pins P _ _ fun t Q => ?_)
    cases indexOf 32 (byteAt ps 0) with
    | none => exact Q
    | some f => exact .ite_fst (startChain_pins Q f _) Q
  | haltFace ps =>
    refine completes_next (hostCommand_pins P _ _ fun t Q => ?_)
    cases indexOf 32 (byteAt ps 0) with
    | none => exact Q
    | some f => exact .ite_fst Q (haltFace_pins Q f)
  | releaseFace ps =>
    refine completes_next (hostCommand_pins P _ _ fun t Q => ?_)
    cases indexOf 32 (byteAt ps 0) with
    | none => exact Q
    | some f => exact .ite_fst Q (releaseHold_pins Q f)
  | setFaceLanguage ps =>
    refine completes_next (hostCommand_pins P _ _ fun t Q => ?_)
    cases indexOf 32 (byteAt ps 0) with
    | none => exact Q
    | some f => exact .ite_fst Q (setLanguage_pins Q f _)
  | loadItem ps => exact completes_next (hostCommand_pins P _ _ fun t Q => hostOffer_pins Q _ _ _)
  | withdrawItem ps => exact completes_next (hostCommand_pins P _ _ fun t Q => withdrawItem_pins Q _ _ _)
  | setClock ps => exact completes_next (hostCommand_pins P _ _ fun t Q => setClockCommand_pins Q ps)
  | raisePhase ps => exact completes_next (hostCommand_pins P _ _ fun t Q => raisePhase_pins Q _ _)
  | setCondition ps => exact completes_next (hostCommand_pins P _ _ fun t Q => setCondition_pins Q ps)
  | restart ps => exact completes_next (hostCommand_pins P _ _ fun t Q => hpt_pins Q _)
  | selectRelease n => exact completes_next (releaseSelect_pins P n)

/-- The queue of commands has no part in the agreement. -/
theorem pending_pins {s : State} (P : PinsOk s) (rest : List Instr) : PinsOk { s with pending := rest } :=
  P.string rfl (noLoad_of_same rfl) (fun x => x.of_same rfl rfl rfl) fun _ x => asleep_of_same x rfl rfl

/-- Settles O4: a sleeping face word wakes by the FSC's load alone, and no operation of the string or the cache parts the pins and waiters
from the records that ask for them. -/
theorem pinsAndWaitersKeptByEveryStep : Obligations.PinsAndWaitersKeptByEveryStep := by
  intro s t P h
  refine step_cases h (fun c rest _ => exec_pins c (pending_pins P rest)) (fun e _ _ => exec_pins e P) (fun c hc => ?_) ?_
  · exact P.within_string (takeCandidate_within s c) (takeCandidate_keeps s c).events.noLoad (fun x => takeCandidate_fits x hc)
      fun _ x => absurd (hc.symm.trans x.choice_eq_none) (by simp)
  · exact P.within (tick_within s) (noLoad_of_same rfl)

end Sys2Proof.Machine
end

section
/-! PROOFS. The Route Table Unit (01): candidates, recomputes, and the commands that bring them about (R4, R9 to R21). -/

namespace Sys2Proof.Machine

/-- What a completed command is known to do, of the state it is known to reach. -/
theorem Completes.of_eq {o : Out} {t : State} {P : State → Prop} (h : Completes o P) (ho : o = .next t) : P t := by
  obtain ⟨u, hu, hP⟩ := h
  cases hu.symm.trans ho
  exact hP

/-! ### Candidates (R12, R13) -/

theorem shut_iff (r : LegRecord) :
    r.shut = true ↔ r.fixed = none ∨ r.link = .silent ∨ r.barred = true ∨ (r.link ≠ .unheard ∧ r.passable = false) := by
  simp [LegRecord.shut, or_assoc]

theorem legCandidate_of_shut {r : LegRecord} (h : r.shut = true) (horizon : Nat) (pace : Option LegPace) (a : Cost) :
    legCandidate horizon r pace a = .unreachable := by
  cases pace with
  | none => rfl
  | some p => exact if_pos h

theorem legCandidate_of_open {r : LegRecord} (h : r.shut = false) (horizon : Nat) (p : LegPace) (a : Cost) :
    legCandidate horizon r (some p) a = match a with
      | .unknown => .unknown
      | .unreachable => .unreachable
      | .finite n => saturate horizon (n + p.cost) := by
  unfold legCandidate
  simp only [h]
  rfl

/-- A finite candidate comes from an open leg that holds a cost and has heard a finite one. -/
theorem open_of_legCandidate_finite {horizon : Nat} {r : LegRecord} {pace : Option LegPace} {a : Cost} {c : Nat}
    (h : legCandidate horizon r pace a = .finite c) : r.shut = false ∧ ∃ n, a = .finite n := by
  cases pace with
  | none => exact absurd h (by simp [legCandidate])
  | some p =>
    cases hs : r.shut with
    | true => exact absurd ((legCandidate_of_shut hs _ _ _).symm.trans h) (by simp)
    | false =>
      rw [legCandidate_of_open hs] at h
      cases a with
      | finite n => exact ⟨rfl, n, rfl⟩
      | unknown => exact absurd h (by simp)
      | unreachable => exact absurd h (by simp)

/-- Settles O8: the steps of R12 in order, an open leg's advertised cost carried on or added to. -/
theorem legCandidateByFirstStep : Obligations.LegCandidateByFirstStep := by
  intro horizon r p a
  refine ⟨fun h => legCandidate_of_shut ((shut_iff r).mpr ?_) horizon _ a, fun ⟨hfixed, hbarred, hlink⟩ => ?_⟩
  · rcases h with h | h | h | ⟨hup, hp⟩
    · exact .inl h
    · exact .inr (.inl h)
    · exact .inr (.inr (.inl h))
    · exact .inr (.inr (.inr ⟨by simp [hup], hp⟩))
  · have hopen : r.shut = false := by
      refine Bool.eq_false_iff.mpr fun hs => ?_
      rcases (shut_iff r).mp hs with h | h | h | ⟨hne, hp⟩
      · simp [h] at hfixed
      · rcases hlink with hl | ⟨hl, -⟩ <;> simp [hl] at h
      · simp [h] at hbarred
      · rcases hlink with hl | ⟨-, hl⟩
        · exact hne hl
        · simp [hl] at hp
    rw [legCandidate_of_open hopen]
    refine ⟨fun h => by rw [h], fun h => by rw [h], fun n hn => ?_⟩
    rw [hn]
    exact ⟨fun h => if_neg (not_le.mpr h), fun h => if_pos h⟩

/-! ### Recomputes (R18 to R21) -/

theorem entryMoves_iff (env : RouteEnv) (paces : Vector (Option LegPace) 6) (e : Entry) :
    entryMoves env paces e = true ↔ reselect env paces e ≠ (e.best, e.cost) := by
  simp [entryMoves]

theorem recomputeEntry_of_still {env : RouteEnv} {paces : Vector (Option LegPace) 6} {e : Entry}
    (h : reselect env paces e = (e.best, e.cost)) : recomputeEntry env paces e = e :=
  if_neg fun hm => (entryMoves_iff _ _ _).mp hm h

theorem recomputeEntry_of_moved {env : RouteEnv} {paces : Vector (Option LegPace) 6} {e : Entry}
    (h : reselect env paces e ≠ (e.best, e.cost)) : recomputeEntry env paces e =
      { e with best := (reselect env paces e).1, cost := (reselect env paces e).2, changedDA := true, changedDB := true } :=
  if_pos ((entryMoves_iff _ _ _).mpr h)

/-- A recomputed entry holds the selection, and its advertised costs and anchor as they were. -/
theorem recomputeEntry_selected (env : RouteEnv) (paces : Vector (Option LegPace) 6) (e : Entry) :
    ((recomputeEntry env paces e).best, (recomputeEntry env paces e).cost) = reselect env paces e
      ∧ (recomputeEntry env paces e).anchor = e.anchor := by
  by_cases h : reselect env paces e = (e.best, e.cost)
  · rw [recomputeEntry_of_still h]
    exact ⟨h.symm, rfl⟩
  · rw [recomputeEntry_of_moved h]
    exact ⟨rfl, rfl⟩

/-- What selection gives: NONE with a sentinel, or a way with its finite candidate. -/
theorem select_cases (margin : Nat) (cands : Vector Cost 6) (anchor : Option Nat) (cur : WayOut) :
    (∃ c, (c = .unknown ∨ c = .unreachable) ∧ select margin cands anchor cur = (.none, c))
      ∨ ∃ w n, isWay cands anchor w n ∧ select margin cands anchor cur = (w, .finite n) := by
  cases hlow : lowest cands anchor with
  | none =>
    rw [select_of_lowest_eq_none hlow]
    refine .inl ⟨_, ?_, rfl⟩
    split
    · exact .inl rfl
    · exact .inr rfl
  | some wm =>
    obtain ⟨w, m⟩ := wm
    have hway := (isLowest_of_lowest_eq_some hlow).way
    cases hcur : currentFinite cands anchor cur with
    | none => exact .inr ⟨w, m, hway, select_of_current_not_finite hlow hcur⟩
    | some c =>
      rw [select_of_current_finite hlow hcur]
      split
      · exact .inr ⟨w, m, hway, rfl⟩
      · exact .inr ⟨cur, c, currentFinite_eq_some_iff.mp hcur, rfl⟩

theorem movedReports_cons (env : RouteEnv) (paces : Vector (Option LegPace) 6) (entry : DestIx → Entry) (d : DestIx) (ds : List DestIx) :
    movedReports env paces entry (d :: ds)
      = (if entryMoves env paces (entry d) then changeReports d else []) ++ movedReports env paces entry ds := by
  unfold movedReports entryMoves
  rw [List.flatMap_cons]
  by_cases h : reselect env paces (entry d) = ((entry d).best, (entry d).cost)
  · simp [h]
  · simp [h, changeReports]

theorem movedReports_congr (env : RouteEnv) (paces : Vector (Option LegPace) 6) {entry entry' : DestIx → Entry} {ds : List DestIx}
    (h : ∀ d ∈ ds, entry d = entry' d) : movedReports env paces entry ds = movedReports env paces entry' ds := by
  refine List.flatMap_congr fun d hd => ?_
  rw [h d hd]

section
variable (env : RouteEnv)

theorem recomputeList_legs (r : Rtu) (ds : List DestIx) : (r.recomputeList env ds).1.legs = r.legs := by
  induction ds generalizing r with
  | nil => rfl
  | cons d ds ih => exact ih _

/-- Each destination listed once is recomputed from its own entry. -/
theorem recomputeList_table (r : Rtu) {ds : List DestIx} (h : ds.Nodup) (d : DestIx) :
    (r.recomputeList env ds).1.table[d] = if d ∈ ds then recomputeEntry env r.legs r.table[d] else r.table[d] := by
  induction ds generalizing r with
  | nil => rfl
  | cons x ds ih =>
    obtain ⟨hx, hds⟩ := List.nodup_cons.mp h
    have htail := ih (r.recompute env x).1 hds
    have hlegs : (r.recompute env x).1.legs = r.legs := rfl
    have htable : (r.recompute env x).1.table = setAt r.table x (recomputeEntry env r.legs r.table[x]) := rfl
    rw [hlegs, htable] at htail
    refine htail.trans ?_
    by_cases hd : x = d
    · subst hd
      rw [if_neg hx, if_pos List.mem_cons_self, setAt_same]
    · rw [setAt_other _ _ _ _ hd]
      by_cases hm : d ∈ ds
      · rw [if_pos hm, if_pos (List.mem_cons_of_mem x hm)]
      · rw [if_neg hm, if_neg fun hc => (List.mem_cons.mp hc).elim (fun e => hd e.symm) hm]

theorem recomputeList_reports (r : Rtu) {ds : List DestIx} (h : ds.Nodup) :
    (r.recomputeList env ds).2 = movedReports env r.legs (fun d => r.table[d]) ds := by
  induction ds generalizing r with
  | nil => rfl
  | cons x ds ih =>
    obtain ⟨hx, hds⟩ := List.nodup_cons.mp h
    have htail := ih (r.recompute env x).1 hds
    rw [movedReports_cons]
    refine congrArg (_ ++ ·) (htail.trans (movedReports_congr env r.legs fun d hd => ?_))
    exact setAt_other _ _ _ _ fun e => hx (e ▸ hd)

end

theorem indices_nodup (n : Nat) : (indices n).Nodup := (indices_sorted n).imp fun h => ne_of_lt h

section
variable (s : State) {ds : List DestIx}

theorem recompute_table (h : ds.Nodup) (d : DestIx) :
    (s.recompute ds).rtu.table[d] = if d ∈ ds then recomputeEntry s.routeEnv s.rtu.legs s.rtu.table[d] else s.rtu.table[d] :=
  recomputeList_table _ _ h d

theorem recompute_legs : (s.recompute ds).rtu.legs = s.rtu.legs := recomputeList_legs _ _ ds

theorem recompute_handoffs (h : ds.Nodup) :
    (s.recompute ds).handoffs = s.handoffs ++ movedReports s.routeEnv s.rtu.legs (fun d => s.rtu.table[d]) ds :=
  congrArg (s.handoffs ++ ·) (recomputeList_reports _ _ h)

theorem fullRecompute_table (d : DestIx) : s.fullRecompute.rtu.table[d] = recomputeEntry s.routeEnv s.rtu.legs s.rtu.table[d] :=
  (recompute_table s (indices_nodup 64) d).trans (if_pos (mem_indices d))

end

/-- Settles O10: a recompute is a selection from the candidates, and a finite candidate comes from an open leg. -/
theorem recomputeSelectsFlagsAndReports : Obligations.RecomputeSelectsFlagsAndReports := by
  refine ⟨fun env paces e => ⟨rfl, recomputeEntry_of_still, recomputeEntry_of_moved⟩, fun s ds h => ?_, fun env paces e => ?_⟩
  · refine ⟨(s.recompute ds).rtu.table, ?_, recompute_table s h⟩
    rw [← recompute_handoffs s h]
    have hlegs := recompute_legs s (ds := ds)
    show s.recompute ds = { s with rtu := { table := (s.recompute ds).rtu.table, legs := s.rtu.legs }, handoffs := (s.recompute ds).handoffs }
    rw [← hlegs]
    rfl
  · obtain ⟨hsel, hanchor⟩ := recomputeEntry_selected env paces e
    rcases select_cases env.margin (legCandidates env paces e) e.anchor e.best with ⟨c, hc, hnone⟩ | ⟨w, n, hway, hsome⟩
    · obtain ⟨hbest, hcost⟩ := Prod.mk.inj (hsel.trans hnone)
      exact .inr (.inr ⟨hbest, hcost ▸ hc⟩)
    · obtain ⟨hbest, hcost⟩ := Prod.mk.inj (hsel.trans hsome)
      cases w with
      | none => exact absurd hway id
      | here => exact .inr (.inl ⟨n, hbest, hanchor.trans hway, hcost⟩)
      | leg l =>
        have hcand : legCandidate env.horizon env.legs[l] paces[l] e.adv[l] = .finite n := (tabulate_get _ l).symm.trans hway
        obtain ⟨hopen, a, ha⟩ := open_of_legCandidate_finite hcand
        have hshut := mt (shut_iff env.legs[l]).mpr (Bool.eq_false_iff.mp hopen)
        simp only [not_or, not_and, Bool.not_eq_true, Bool.not_eq_false] at hshut
        obtain ⟨hfixed, hlink, hbarred, hpass⟩ := hshut
        refine .inl ⟨l, hbest, Option.isSome_iff_ne_none.mpr hfixed, hlink, hbarred, ?_, hcost.trans hcand.symm⟩
        by_cases hu : env.legs[l].link = .unheard
        · exact .inr ⟨hu, by simp [ha]⟩
        · exact .inl (hpass hu)

/-! ### Commands (R4, R9 to R11) -/

theorem storesAs_storedCost (horizon : Nat) (v : Cost) : storesAs horizon v (storedCost horizon v) := by
  cases v with
  | finite n => exact ⟨fun h => if_pos h, fun h => if_neg (not_le.mpr h)⟩
  | unknown => rfl
  | unreachable => rfl

/-- A command in RUNNING with an event to take. -/
theorem take_running {s : State} (h : s.running = true) (e : Instr) : (s.take e).running = true := h

/-- Settles O11: one advertised cost stored, then the recompute of its destination alone. -/
theorem advertisedCostWriteStoresAndRecomputes : Obligations.AdvertisedCostWriteStoresAndRecomputes := by
  intro s l d v hr
  refine ⟨fun ⟨hfixed, hheld⟩ => ?_, fun hfixed => ?_⟩
  · let u := (s.take (.advertisedCostWrite l d v)).storeAdvertised l d v
    have hexec : exec (.advertisedCostWrite l d v) s = .next (u.recompute [d]) :=
      if_pos (by rw [take_running hr]; simp only [Bool.true_and, Bool.and_eq_true]; exact ⟨hfixed, hheld⟩)
    have hone : [d].Nodup := List.nodup_singleton d
    have hentry : u.rtu.table[d] = { s.rtu.table[d] with adv := setAt s.rtu.table[d].adv l (storedCost s.pfl.profile.horizon v) } :=
      setAt_same _ _ _
    have hframe : Within [.rtu, .handoffs] s (u.recompute [d]) := (execAdvertisedCostWrite_within l d v s).of_eq hexec
    rw [hexec]
    refine completes_next ⟨storedCost s.pfl.profile.horizon v, storesAs_storedCost _ _, ⟨?_, ?_⟩, fun d' hd => ?_, recompute_legs u, hframe.same⟩
    · rw [← hentry, recompute_table u hone, if_pos List.mem_cons_self]
      rfl
    · rw [recompute_handoffs u hone]
      refine congrArg (_ ++ ·) (movedReports_congr _ _ fun x hx => ?_)
      cases List.mem_singleton.mp hx
      exact hentry
    · rw [recompute_table u hone, if_neg fun hm => hd (List.mem_singleton.mp hm)]
      exact setAt_other _ _ _ _ (Ne.symm hd)
  · have hexec : exec (.advertisedCostWrite l d v) s = .next (s.take (.advertisedCostWrite l d v)) :=
      if_neg fun h => by
        obtain ⟨⟨-, h⟩, -⟩ := by simpa only [Bool.and_eq_true] using h
        exact absurd (hfixed ▸ h : (none : Option LegStatic).isSome = true) (by decide)
    rw [hexec]
    exact completes_next ⟨rfl, (take_within s _).same⟩

/-- A recompute in full: every entry from what it held, each that moved reported. -/
theorem fullRecompute_of_rtu {s u : State} {legs : Vector (Option LegPace) 6} {entry : DestIx → Entry} (henv : u.routeEnv = s.routeEnv)
    (hlegs : u.rtu.legs = legs) (hentry : ∀ d : DestIx, u.rtu.table[d] = entry d) :
    u.fullRecompute.rtu.legs = legs ∧ (∀ d : DestIx, u.fullRecompute.rtu.table[d] = recomputeEntry s.routeEnv legs (entry d))
      ∧ u.fullRecompute.handoffs = u.handoffs ++ movedReports s.routeEnv legs entry (indices 64) := by
  refine ⟨(recompute_legs u).trans hlegs, fun d => ?_, (recompute_handoffs u (indices_nodup 64)).trans ?_⟩
  · rw [fullRecompute_table, henv, hlegs, hentry]
  · rw [henv, hlegs]
    exact congrArg (_ ++ ·) (movedReports_congr _ _ fun d _ => hentry d)

/-- Settles O12: the leg's cost formed, its advertised costs forgotten on SILENT, then the recompute in full when something moved. -/
theorem legReportFormsCostForgetsAndRecomputes : Obligations.LegReportFormsCostForgetsAndRecomputes := by
  intro s r f old hr hfixed hold
  let pace := paceFactor f.kind s.lgm.legs[r.leg].crowd s.lgm.legs[r.leg].smoke
  let new : LegPace := if r.conditions then { pace := pace, cost := legCost f.length pace } else old
  let kept : DestIx → Entry := fun d =>
    if r.link = some .silent then { s.rtu.table[d] with adv := setAt s.rtu.table[d].adv r.leg .unknown } else s.rtu.table[d]
  let table := if r.link = some .silent then forgetLeg s.rtu.table r.leg else s.rtu.table
  let u : State := { s.take (.legReport r) with rtu := { table := table, legs := setAt s.rtu.legs r.leg (some new) } }
  have hgo : (s.running && s.lgm.legs[r.leg].fixed.isSome && s.rtu.legs[r.leg].isSome) = true := by
    rw [hr, hfixed, hold]
    rfl
  have hpace : (if r.conditions then s.lgm.legs[r.leg].currentPace else s.rtu.legs[r.leg]) = some new := by
    show _ = some (if r.conditions then _ else old)
    unfold LegRecord.currentPace
    rw [hfixed, hold]
    split <;> rfl
  have hmoved : ((some new).map (·.cost) != s.rtu.legs[r.leg].map (·.cost)) = (new.cost != old.cost) := by
    rw [hold]
    rfl
  have hexec : exec (.legReport r) s
      = .next (if r.link.isSome || r.passability || new.cost != old.cost then u.fullRecompute else u) := by
    refine (if_pos hgo).trans ?_
    simp only [State.take_lgm, State.take_rtu, hpace, hmoved]
    rfl
  have hkept : ∀ d : DestIx, u.rtu.table[d] = kept d := fun d => by
    show (if r.link = some .silent then forgetLeg s.rtu.table r.leg else s.rtu.table)[d] = if r.link = some .silent then _ else _
    split
    · exact tabulate_get _ d
    · rfl
  obtain ⟨hfull, htable, hreports⟩ := fullRecompute_of_rtu (s := s) (u := u) (legs := setAt s.rtu.legs r.leg (some new)) rfl rfl hkept
  have hw := (execLegReport_within r s).of_eq hexec
  have hmust : (r.link ≠ none ∨ r.passability = true ∨ new.cost ≠ old.cost)
      ↔ (r.link.isSome || r.passability || new.cost != old.cost) = true := by
    simp [Option.isSome_iff_ne_none, or_assoc]
  refine ⟨_, hexec, ?_⟩
  by_cases hm : (r.link.isSome || r.passability || new.cost != old.cost) = true
  · rw [if_pos hm] at hw ⊢
    refine ⟨?_, fun l hl => ?_, fun _ => ⟨fun d => ?_, ?_⟩, fun h1 h2 h3 => ?_, hw.same⟩
    · rw [hfull]; exact setAt_same _ _ _
    · rw [hfull]; exact setAt_other _ _ _ _ (Ne.symm hl)
    · rw [hfull]; exact htable d
    · rw [hfull]; exact hreports
    · exact absurd (hmust.mpr hm) (by simp only [not_or, not_not]; exact ⟨h1, by simp [h2], h3⟩)
  · rw [if_neg hm] at hw ⊢
    exact ⟨setAt_same _ _ _, fun l hl => setAt_other _ _ _ _ (Ne.symm hl), fun h => absurd (hmust.mp h) hm, fun _ _ _ => ⟨hkept, rfl⟩, hw.same⟩

theorem modifyAt_get {α : Type} {n : Nat} (v : Vector α n) (i j : Fin n) (f : α → α) :
    (modifyAt v i f)[j] = if i = j then f v[j] else v[j] := by
  by_cases h : i = j
  · subst h
    rw [if_pos rfl]
    exact setAt_same _ _ _
  · rw [if_neg h]
    exact setAt_other _ _ _ _ h

/-- The first anchor listed for a destination without one is installed, the rest of its entry left (R4). -/
theorem installAnchors_get (as : List (Nat × Nat)) (t : Vector Entry 64) (d : DestIx) :
    (as.foldl installAnchor t)[d] = { t[d] with anchor := t[d].anchor.or ((as.find? fun a => a.1 == d.val).map (·.2)) } := by
  induction as generalizing t with
  | nil => simp
  | cons a as ih =>
    rw [List.foldl_cons, ih]
    have hstep : (installAnchor t a)[d] = { t[d] with anchor := t[d].anchor.or (if a.1 = d.val then some a.2 else none) } := by
      unfold installAnchor
      split
      · next hlt =>
        by_cases hd : (⟨a.1, hlt⟩ : DestIx) = d
        · subst hd
          rw [modifyAt_get, if_pos rfl, if_pos rfl]
          obtain ⟨_, _, _, anchor, _, _⟩ := t[(⟨a.1, hlt⟩ : DestIx)]
          cases anchor <;> rfl
        · rw [modifyAt_get, if_neg hd, if_neg fun e => hd (Fin.ext e), Option.or_none]
      · next hlt =>
        have hne : a.1 ≠ d.val := fun e => hlt (e ▸ d.isLt)
        rw [if_neg hne, Option.or_none]
    rw [hstep, List.find?_cons]
    by_cases ha : a.1 = d.val
    · simp [ha]
    · simp [ha, beq_eq_false_iff_ne.mpr ha]

/-- The routes as the profile gives them, before the recompute (R4). -/
def State.routesLoaded (s : State) : State :=
  { s.take .rtuProfileLoad with
    rtu := { table := s.pfl.profile.anchors.foldl installAnchor s.rtu.table, legs := loadPaces s.pfl.profile.legs } }

theorem routesLoaded_table {s : State} (h : ∀ d : DestIx, s.rtu.table[d].anchor = none) (d : DestIx) : s.routesLoaded.rtu.table[d]
    = { s.rtu.table[d] with anchor := (s.pfl.profile.anchors.find? (fun a => a.1 == d.val)).map (·.2) } := by
  refine (installAnchors_get _ _ d).trans ?_
  rw [h d, Option.none_or]

theorem execRtuProfileLoad_eq {s : State} (hr : s.running = true) (hmem : .rtuProfileLoad ∈ s.handoffs)
    (hlgm : .lgmProfileLoad ∉ s.handoffs) : execRtuProfileLoad s = .next s.routesLoaded.fullRecompute := by
  have hgo : (s.running && s.handoffs.contains .rtuProfileLoad) = true := by
    rw [hr, List.contains_iff_mem.mpr hmem]
    rfl
  unfold execRtuProfileLoad
  rw [if_neg (fun h => hlgm (List.contains_iff_mem.mp h)), if_pos hgo]
  rfl

/-- Settles O13: the leg costs and the anchors of the profile, then the recompute in full. -/
theorem rtuLoadFormsCostsAndInstallsAnchors : Obligations.RtuLoadFormsCostsAndInstallsAnchors := by
  intro s hr hmem hlgm hnone
  obtain ⟨hfull, htable, hreports⟩ := fullRecompute_of_rtu (s := s) (u := s.routesLoaded) (legs := loadPaces s.pfl.profile.legs) rfl rfl
    (routesLoaded_table hnone)
  have hexec := execRtuProfileLoad_eq hr hmem hlgm
  have hw := (execRtuProfileLoad_within s).of_eq hexec
  refine ⟨_, hexec, fun l => ?_, ⟨fun d => ?_, ?_⟩, hw.same⟩
  · rw [hfull]
    exact tabulate_get _ l
  · rw [hfull]
    exact htable d
  · rw [hfull]
    exact hreports

end Sys2Proof.Machine
end

section
/-! PROOFS. The Leg Monitor (02): evaluation and reports, doors, link states, conditions (R32 to R48). -/

namespace Sys2Proof.Machine

/-! ### Evaluation and reports (R45, R46) -/

theorem evaluated_of_unconfigured (s : State) {r : LegRecord} (h : r.fixed = none) :
    s.evaluated r = { r with barred := false, passable := false } := by
  unfold State.evaluated LegRecord.evaluate
  rw [h]

theorem evaluated_of_configured (s : State) {r : LegRecord} {f : LegStatic} (h : r.fixed = some f) :
    s.evaluated r = { r with
      barred := barredUnder s.muc.phase s.muc.zones f r.doorClosed
      passable := r.link == .up && !barredUnder s.muc.phase s.muc.zones f r.doorClosed } := by
  unfold State.evaluated LegRecord.evaluate
  rw [h]

theorem bars_iff (p : Phase) : Phase.bars p = true ↔ p = .alert ∨ p = .proceed ∨ p = .hold := by cases p <;> simp [Phase.bars]

theorem barredUnder_iff (p : Phase) (zones : List Byte) (f : LegStatic) (door : Bool) :
    barredUnder p zones f door = true ↔ door = true ∨ ((p = .alert ∨ p = .proceed ∨ p = .hold) ∧ (f.kind = .lift ∨ f.farZone ∈ zones)) := by
  simp [barredUnder, bars_iff]

theorem legChange_eq_none_iff (l : LegIx) (old new : LegRecord) : legChange l old new = none ↔
    new.link = old.link ∧ new.barred = old.barred ∧ new.passable = old.passable ∧ new.crowd = old.crowd ∧ new.smoke = old.smoke := by
  unfold legChange
  by_cases hl : old.link = new.link
  · simp [hl, and_assoc, @eq_comm _ new.barred, @eq_comm _ new.passable, @eq_comm _ new.crowd, @eq_comm _ new.smoke]
  · simp [hl, Ne.symm hl]

/-- What a report says of a leg that moved (R46). -/
theorem legChange_eq_some {l : LegIx} {old new : LegRecord} {r : LegReport} (h : legChange l old new = some r) :
    r = { leg := l, link := if old.link = new.link then none else some new.link,
          passability := old.barred != new.barred || old.passable != new.passable,
          conditions := old.crowd != new.crowd || old.smoke != new.smoke } := by
  unfold legChange at h
  exact (Option.some.inj (Option.ite_none_right_eq_some.mp h).2).symm

/-- Settles O14: evaluation and report, case by case. -/
theorem legEvaluationAndItsReport : Obligations.LegEvaluationAndItsReport := by
  refine ⟨fun s r => ⟨evaluated_of_unconfigured s, fun f hf => ?_⟩, fun l old new => ⟨legChange_eq_none_iff l old new, fun r hr => ?_⟩⟩
  · rw [evaluated_of_configured s hf]
    refine ⟨?_, by simp, rfl⟩
    rw [barredUnder_iff]
    simp [LegRecord.doorClosed]
  · rw [legChange_eq_some hr]
    refine ⟨rfl, ?_, fun k hk => ?_, ?_, ?_⟩
    · by_cases hl : old.link = new.link
      · simp [hl]
      · simp [hl, Ne.symm hl]
    · by_cases hl : old.link = new.link
      · simp [hl] at hk
      · simp only [hl, if_false] at hk
        exact (Option.some.inj hk).symm
    · simp [@eq_comm _ new.barred, @eq_comm _ new.passable]
    · simp [@eq_comm _ new.crowd, @eq_comm _ new.smoke]

/-! ### Link states (R35 to R37, R48) -/

theorem replaceFirst_nil (e : Instr) (xs : List Instr) : replaceFirst e [] xs = xs.erase e := by
  induction xs with
  | nil => rfl
  | cons x xs ih =>
    rw [replaceFirst, List.erase_cons, ih]
    by_cases h : x = e <;> simp [h]

/-- Outside FALLBACK the HPT takes a notice (R211, R216). -/
theorem notice_hpt {s : State} (h : s.running = true) (n : Notice) : (s.notice n).hpt = s.hpt.takeNotice n := by
  have hnode : s.pfl.node ≠ .fallback := fun e => by simp [State.running, e] at h
  unfold State.notice
  rw [if_neg hnode]

theorem neighbourId_of_configured {r : LegRecord} {f : LegStatic} (h : r.fixed = some f) : r.neighbourId = f.neighbour := by
  unfold LegRecord.neighbourId
  rw [h]

/-- What an evaluation moved of a leg. -/
def passabilityMoved (old new : LegRecord) : Bool := old.barred != new.barred || old.passable != new.passable

theorem passabilityMoved_iff (old new : LegRecord) :
    passabilityMoved old new = true ↔ ¬ (new.barred = old.barred ∧ new.passable = old.passable) := by
  simp [passabilityMoved, @eq_comm _ new.barred, @eq_comm _ new.passable, ← not_and_or]

/-- A leg that changes its link state is reported with that state, and with what evaluation moved (R46). -/
theorem legChange_of_link (l : LegIx) {old new : LegRecord} (hl : new.link ≠ old.link) (hc : new.crowd = old.crowd)
    (hs : new.smoke = old.smoke) : legChange l old new
      = some { leg := l, link := some new.link, passability := passabilityMoved old new, conditions := false } := by
  unfold legChange passabilityMoved
  rw [hc, hs]
  simp [Ne.symm hl]

/-- Evaluation writes barred and passable alone. -/
theorem evaluated_rest (s : State) (r : LegRecord) :
    s.evaluated r = { r with barred := (s.evaluated r).barred, passable := (s.evaluated r).passable } := by
  unfold State.evaluated LegRecord.evaluate
  split <;> rfl

section
variable {s : State} {l : LegIx} {f : LegStatic} (hr : s.running = true) (hf : s.lgm.legs[l].fixed = some f)
include hr hf

/-- The arrival's outcome on a configured leg in RUNNING (R35). -/
theorem execAdvertArrival_eq : exec (.advertArrival l) s = .next (
    let old := s.lgm.legs[l]
    let new := if old.link = .up then old.heard else s.evaluated old.heard
    let t := (s.setLeg l new).takeGiving (.advertArrival l) (reportEvents (legChange l old new))
    if old.link = .silent then t.notice (.legState l f.neighbour .up) else t) := by
  show execAdvertArrival l s = _
  unfold execAdvertArrival legStateNotice
  rw [if_pos (by rw [hr, hf]; rfl), neighbourId_of_configured hf]

/-- The arrival on an UP leg starts its timer again, and reports nothing. -/
theorem advertArrival_of_up (hup : s.lgm.legs[l].link = .up) :
    exec (.advertArrival l) s = .next ((s.setLeg l s.lgm.legs[l].heard).take (.advertArrival l)) := by
  have hnone : legChange l s.lgm.legs[l] s.lgm.legs[l].heard = none :=
    (legChange_eq_none_iff _ _ _).mpr ⟨hup.symm, rfl, rfl, rfl, rfl⟩
  rw [execAdvertArrival_eq hr hf]
  dsimp only
  rw [if_pos hup, if_neg (by rw [hup]; decide), hnone]
  exact congrArg (fun es => Host.Outcome.next { s.setLeg l s.lgm.legs[l].heard with handoffs := es }) (replaceFirst_nil _ _)

/-- The expiry's outcome on a configured leg whose timer runs (R36). -/
theorem execSilenceTimerExpiry_eq (hrun : s.lgm.legs[l].silenceRunning = true) : exec (.silenceTimerExpiry l) s = .next (
    let old := s.lgm.legs[l]
    let new := s.evaluated { old with link := .silent, silenceRunning := false }
    ((s.setLeg l new).handAhead (.advertArrival l) (reportEvents (legChange l old new))).notice (.legState l f.neighbour .silent)) := by
  show execSilenceTimerExpiry l s = _
  unfold execSilenceTimerExpiry legStateNotice
  rw [if_pos (by rw [hr, hf, hrun]; rfl), neighbourId_of_configured hf]

end

theorem setLeg_legs_same (s : State) (l : LegIx) (r : LegRecord) : (s.setLeg l r).lgm.legs[l] = r := setAt_same _ _ _

theorem setLeg_legs_other (s : State) {l l' : LegIx} (h : l' ≠ l) (r : LegRecord) : (s.setLeg l r).lgm.legs[l'] = s.lgm.legs[l'] :=
  setAt_other _ _ _ _ (Ne.symm h)

/-- A leg whose silence timer has run out, barred evaluated anew (R36, R45; log 43). -/
def silenced (s : State) (r : LegRecord) : LegRecord :=
  { r with link := .silent, silenceRunning := false, barred := (s.evaluated r).barred, passable := false }

theorem evaluated_silent (s : State) {r : LegRecord} {f : LegStatic} (h : r.fixed = some f) :
    s.evaluated { r with link := .silent, silenceRunning := false } = silenced s r := by
  rw [evaluated_of_configured s (r := { r with link := .silent, silenceRunning := false }) h, silenced, evaluated_of_configured s h]
  rfl

/-- Settles O16: the link state moves, and the report takes its place among the hand-offs. -/
theorem arrivalAndSilenceMoveTheLink : Obligations.ArrivalAndSilenceMoveTheLink := by
  refine ⟨fun s l f hr hf => ?_, fun s l f hr hf hup hrun => ?_⟩
  · by_cases hup : s.lgm.legs[l].link = .up
    · have hexec := advertArrival_of_up hr hf hup
      have hw := (execAdvertArrival_within l s).of_eq hexec
      refine ⟨_, hexec, fun l' hl => setLeg_legs_other s hl _, rfl, rfl, fun _ => ⟨setLeg_legs_same s l _, rfl⟩, fun h => absurd hup h, ?_,
        (hw.mono (by simp [touched])).same⟩
      rw [if_neg (by rw [hup]; decide)]
      rfl
    · have hexec := execAdvertArrival_eq hr hf
      have hw := (execAdvertArrival_within l s).of_eq hexec
      dsimp only at hexec hw
      rw [if_neg hup] at hexec hw
      have hnew := evaluated_rest s s.lgm.legs[l].heard
      have hchange : legChange l s.lgm.legs[l] (s.evaluated s.lgm.legs[l].heard)
          = some { leg := l, link := some .up, passability := passabilityMoved s.lgm.legs[l] (s.evaluated s.lgm.legs[l].heard),
                   conditions := false } := by
        have hlink : (s.evaluated s.lgm.legs[l].heard).link = .up := congrArg LegRecord.link hnew
        have hcrowd : (s.evaluated s.lgm.legs[l].heard).crowd = s.lgm.legs[l].crowd := by rw [hnew]; rfl
        have hsmoke : (s.evaluated s.lgm.legs[l].heard).smoke = s.lgm.legs[l].smoke := by rw [hnew]; rfl
        rw [legChange_of_link l (by rw [hlink]; exact Ne.symm hup) hcrowd hsmoke, hlink]
      rw [hchange] at hexec hw
      generalize ht : (s.setLeg l (s.evaluated s.lgm.legs[l].heard)).takeGiving (.advertArrival l) _ = t at hexec hw
      have hlgm : t.lgm = (s.setLeg l (s.evaluated s.lgm.legs[l].heard)).lgm := ht ▸ rfl
      have hhand := congrArg State.handoffs ht.symm
      have hhpt : t.hpt = s.hpt := ht ▸ rfl
      have hrun : t.running = true := ht ▸ hr
      have hlgm' : (if s.lgm.legs[l].link = .silent then t.notice (.legState l f.neighbour .up) else t).lgm = t.lgm := by
        split <;> simp
      have hhand' : (if s.lgm.legs[l].link = .silent then t.notice (.legState l f.neighbour .up) else t).handoffs = t.handoffs := by
        split <;> simp
      refine ⟨_, hexec, fun l' hl => ?_, ?_, ?_, fun h => absurd h hup, fun _ => ⟨?_, _, passabilityMoved_iff _ _, fun habs => ?_, fun pre post hpre hsplit => ?_⟩, ?_,
        (hw.mono (by simp [touched])).same⟩
      · rw [hlgm', hlgm]; exact setLeg_legs_other s hl _
      · rw [hlgm', hlgm]; rfl
      · rw [hlgm', hlgm]; rfl
      · rw [hlgm', hlgm]; exact setLeg_legs_same s l _
      · rw [hhand', hhand]; exact replaceFirst_absent _ _ _ habs
      · rw [hhand', hhand]
        show replaceFirst _ _ s.handoffs = _
        rw [hsplit, replaceFirst_present _ _ _ _ hpre, List.append_assoc]
        rfl
      · split
        · rw [notice_hpt hrun, hhpt]
        · exact hhpt
  · have hexec := execSilenceTimerExpiry_eq hr hf hrun
    have hw := (execSilenceTimerExpiry_within l s).of_eq hexec
    dsimp only at hexec hw
    have hnew := evaluated_silent s hf
    have hchange := legChange_of_link l (old := s.lgm.legs[l]) (new := silenced s s.lgm.legs[l])
      (by rw [hup]; exact fun e => nomatch e) rfl rfl
    rw [hnew, hchange] at hexec hw
    refine ⟨_, hexec, ?_, fun l' hl => ?_, ?_, ?_, ⟨passabilityMoved s.lgm.legs[l] (silenced s s.lgm.legs[l]), ?_, fun habs => ?_,
      fun pre post hpre hsplit => ?_⟩, ?_, (hw.mono (by simp [touched])).same⟩
    · rw [State.notice_lgm]; exact setLeg_legs_same s l _
    · rw [State.notice_lgm]; exact setLeg_legs_other s hl _
    · rw [State.notice_lgm]; rfl
    · rw [State.notice_lgm]; rfl
    · exact (passabilityMoved_iff _ _).trans (not_congr (and_congr_right fun _ => eq_comm))
    · rw [State.notice_handoffs]; exact insertAhead_absent _ _ _ habs
    · rw [State.notice_handoffs]
      show insertAhead _ _ s.handoffs = _
      rw [hsplit, insertAhead_present _ _ _ _ hpre, List.append_assoc]
      rfl
    · rw [notice_hpt (by exact hr)]
      rfl

/-! ### Conditions, crowds and muster events (R41, R43, R45) -/

theorem applyReport_eq (c : ConditionBody) (r : LegRecord) : r.applyReport c = { r with
    remoteDoor := c.doorClosed, smoke := c.smoke
    crowd := if c.crowdValid then min 7 c.crowd.toNat else r.crowd, crowdRunning := c.crowdValid || r.crowdRunning } := by
  unfold LegRecord.applyReport
  cases c.crowdValid <;> rfl

/-- A report meets a leg: it is between this node and the leg's neighbour (R41 steps 2 and 3). -/
def meetsLeg (me : Byte) (c : ConditionBody) (r : LegRecord) : Bool := r.fixed.any fun f =>
  c.end1 != c.end2 && ((c.end1 == me && c.end2 == f.neighbour) || (c.end2 == me && c.end1 == f.neighbour))

theorem meetsLeg_of_no_end {me : Byte} {c : ConditionBody} (h : otherEnd me c = none) (r : LegRecord) : meetsLeg me c r = false := by
  unfold meetsLeg
  unfold otherEnd at h
  cases r.fixed with
  | none => rfl
  | some f =>
    split at h
    · next heq => simp [heq]
    · next heq =>
      split at h
      · exact absurd h (by simp)
      · next h1 =>
        split at h
        · exact absurd h (by simp)
        · next h2 => simp [h1, h2]

theorem meetsLeg_of_end {me other : Byte} {c : ConditionBody} (h : otherEnd me c = some other) (r : LegRecord) :
    meetsLeg me c r = r.fixed.any (fun f => f.neighbour == other) := by
  unfold meetsLeg
  unfold otherEnd at h
  cases r.fixed with
  | none => rfl
  | some f =>
    split at h
    · exact absurd h (by simp)
    · next hne =>
      split at h
      · next h1 =>
        have h2 : c.end2 ≠ me := fun e => hne (h1.trans e.symm)
        cases h
        rw [Option.any_some, Option.any_some, Bool.eq_iff_iff]
        simp only [Bool.and_eq_true, bne_iff_ne, Bool.or_eq_true, beq_iff_eq]
        grind
      · next h1 =>
        split at h
        · next h2 =>
          cases h
          rw [Option.any_some, Option.any_some, Bool.eq_iff_iff]
          simp only [Bool.and_eq_true, bne_iff_ne, Bool.or_eq_true, beq_iff_eq]
          grind
        · exact absurd h (by simp)

/-- What a report from another endpoint makes of a leg (R41). -/
def reportedBy (c : ConditionBody) (other : Byte) (s : State) (r : LegRecord) : LegRecord :=
  if r.fixed.any (fun f => f.neighbour == other) then s.evaluated (r.applyReport c) else r

theorem applyToLeg_eq (c : ConditionBody) (other : Byte) (s : State) (l : LegIx) :
    applyToLeg c other s l = s ∧ reportedBy c other s s.lgm.legs[l] = s.lgm.legs[l]
      ∨ applyToLeg c other s l = s.changeLegTo l (reportedBy c other s s.lgm.legs[l]) := by
  unfold reportedBy applyToLeg
  cases s.lgm.legs[l].fixed with
  | none => exact .inl ⟨rfl, rfl⟩
  | some f =>
    rw [Option.any_some]
    by_cases hn : f.neighbour = other
    · refine .inr ?_
      rw [if_pos (beq_iff_eq.mpr hn)]
      exact if_pos hn
    · exact .inl ⟨if_neg hn, if_neg fun h => hn (beq_iff_eq.mp h)⟩

/-- What a report makes of a leg of this node (R41). -/
def reported (c : ConditionBody) (s : State) (r : LegRecord) : LegRecord :=
  if meetsLeg s.pfl.profile.nodeId c r then s.evaluated (r.applyReport c) else r

/-- A report applied: each leg between its two ends takes it, with one report for each leg it moved. -/
theorem applyCondition_legs (s : State) (c : ConditionBody) :
    (∀ l : LegIx, (s.applyCondition c).lgm.legs[l] = reported c s s.lgm.legs[l])
    ∧ (s.applyCondition c).lgm.condSeq = s.lgm.condSeq ∧ (s.applyCondition c).lgm.doors = s.lgm.doors
    ∧ (s.applyCondition c).handoffs = s.handoffs
        ++ (indices 6).filterMap (fun l => (legChange l s.lgm.legs[l] (reported c s s.lgm.legs[l])).map Instr.legReport)
    ∧ Frame.only [.lgm, .handoffs] s (s.applyCondition c) := by
  cases ho : otherEnd s.pfl.profile.nodeId c with
  | none =>
    have hframe := (applyCondition_within s c).same
    have hstay : s.applyCondition c = s := by unfold State.applyCondition; rw [ho]
    have hnone : ∀ r, reported c s r = r := fun r => if_neg (by rw [meetsLeg_of_no_end ho]; exact Bool.false_ne_true)
    rw [hstay] at hframe ⊢
    exact ⟨fun l => (hnone _).symm, rfl, rfl, by simp [hnone, legChange_self], hframe⟩
  | some other =>
    have hgo : s.applyCondition c = (indices 6).foldl (applyToLeg c other) s := by unfold State.applyCondition; rw [ho]
    have hsame : ∀ r, reported c s r = reportedBy c other s r := fun r => by
      unfold reported reportedBy
      rw [meetsLeg_of_end ho]
    obtain ⟨hlegs, hrest⟩ := foldl_changeLegs (applyToLeg c other) (reportedBy c other) (applyToLeg_eq c other)
      (fun s t hm _ r => by unfold reportedBy; rw [evaluated_congr hm]) (indices 6) (indices_nodup 6) s
    simp only [hsame]
    rw [hgo]
    exact ⟨fun l => (hlegs l).trans (if_pos (mem_indices l)), hrest⟩

/-- Settles O18: the legs a report meets take it, each that moved reported. -/
theorem conditionAppliesToLegsBetweenItsEnds : Obligations.ConditionAppliesToLegsBetweenItsEnds := by
  intro s c hr
  refine ⟨fun hother => ?_, fun hown => ?_⟩
  · have hexec : exec (.conditionApply c) s = .next ((s.take (.conditionApply c)).applyCondition c) :=
      congrArg Host.Outcome.next (if_pos (by
        rw [take_running hr]
        simpa using hother))
    obtain ⟨hlegs, hseq, hdoors, hreports, -⟩ := applyCondition_legs (s.take (.conditionApply c)) c
    have hw := (exec_within (.conditionApply c) s).of_eq hexec
    have happlied : ∀ r, reported c (s.take (.conditionApply c)) r = if meetsLeg s.pfl.profile.nodeId c r then s.evaluated { r with
        remoteDoor := c.doorClosed, smoke := c.smoke
        crowd := if c.crowdValid then min 7 c.crowd.toNat else r.crowd, crowdRunning := c.crowdValid || r.crowdRunning } else r := fun r => by
      unfold reported
      rw [applyReport_eq]
      rfl
    refine ⟨_, hexec, fun l => (hlegs l).trans (happlied _), hseq, hdoors, hreports.trans ?_, (hw.mono (by simp [touched])).same⟩
    refine congrArg (_ ++ ·) (filterMap_same fun l _ => ?_)
    rw [happlied]
    show _ = if meetsLeg s.pfl.profile.nodeId c s.lgm.legs[l] then _ else none
    by_cases hm : meetsLeg s.pfl.profile.nodeId c s.lgm.legs[l] = true
    · rw [State.take_lgm, if_pos hm, if_pos hm]
    · rw [State.take_lgm, if_neg hm, if_neg hm, legChange_self]
      rfl
  · have hexec : exec (.conditionApply c) s = .next (s.take (.conditionApply c)) :=
      congrArg Host.Outcome.next (if_neg (by simp [hown]))
    exact ⟨_, hexec, (take_within s _).same⟩

/-- A configured leg evaluated again (R45). -/
def reevaluated (s : State) (r : LegRecord) : LegRecord := if r.fixed.isSome then s.evaluated r else r

theorem reevaluate_eq (s : State) (l : LegIx) : s.reevaluate l = s ∧ reevaluated s s.lgm.legs[l] = s.lgm.legs[l]
    ∨ s.reevaluate l = s.changeLegTo l (reevaluated s s.lgm.legs[l]) := by
  unfold reevaluated State.reevaluate
  by_cases h : s.lgm.legs[l].fixed.isSome = true
  · rw [if_pos h, if_pos h]
    exact .inr rfl
  · exact .inl ⟨if_neg h, if_neg h⟩

theorem reevaluateAll_legs (s : State) :
    (∀ l : LegIx, s.reevaluateAll.lgm.legs[l] = reevaluated s s.lgm.legs[l])
    ∧ s.reevaluateAll.lgm.condSeq = s.lgm.condSeq ∧ s.reevaluateAll.lgm.doors = s.lgm.doors
    ∧ s.reevaluateAll.handoffs = s.handoffs
        ++ (indices 6).filterMap (fun l => (legChange l s.lgm.legs[l] (reevaluated s s.lgm.legs[l])).map Instr.legReport)
    ∧ Frame.only [.lgm, .handoffs] s s.reevaluateAll := by
  obtain ⟨hlegs, hrest⟩ := foldl_changeLegs State.reevaluate reevaluated reevaluate_eq
    (fun s t hm _ r => by unfold reevaluated; rw [evaluated_congr hm]) (indices 6) (indices_nodup 6) s
  have hgo : s.reevaluateAll = (indices 6).foldl State.reevaluate s := rfl
  rw [hgo]
  exact ⟨fun l => (hlegs l).trans (if_pos (mem_indices l)), hrest⟩

/-- A leg whose crowd level falls to 0 is reported when the level was above 0. -/
theorem legChange_of_crowd (l : LegIx) (r : LegRecord) : reportEvents (legChange l r { r with crowd := 0, crowdRunning := false })
    = if 0 < r.crowd then [.legReport { leg := l, link := none, passability := false, conditions := true }] else [] := by
  unfold legChange reportEvents
  by_cases h : 0 < r.crowd
  · have hne : r.crowd ≠ 0 := Nat.pos_iff_ne_zero.mp h
    simp [h, hne]
  · have heq : r.crowd = 0 := Nat.eq_zero_of_not_pos h
    simp [heq]

/-- Settles O19: one leg changed, or every configured leg evaluated again. -/
theorem crowdExpiryAndMusterEventsChangeLegs : Obligations.CrowdExpiryAndMusterEventsChangeLegs := by
  refine ⟨fun s l hr hfixed hcrowd => ?_, fun s i hr hi => ?_⟩
  · have hexec : exec (.crowdLifetimeExpiry l) s = .next (s.changeLegTo l { s.lgm.legs[l] with crowd := 0, crowdRunning := false }) :=
      if_pos (by rw [hr, hfixed, hcrowd]; rfl)
    have hw := (exec_within (.crowdLifetimeExpiry l) s).of_eq hexec
    refine ⟨_, hexec, ?_, fun l' hl => ?_, ?_, ?_, ?_, (hw.mono (by simp [touched])).same⟩
    · rw [changeLegTo_lgm]; exact setAt_same _ _ _
    · rw [changeLegTo_lgm]; exact setAt_other _ _ _ _ (Ne.symm hl)
    · rw [changeLegTo_lgm]
    · rw [changeLegTo_lgm]
    · rw [changeLegTo_handoffs, legChange_of_crowd]
  · have hexec : exec i s = .next (s.take i).reevaluateAll := by
      rcases hi with rfl | rfl <;> exact congrArg Host.Outcome.next (if_pos (take_running hr _))
    have hw : Within [.lgm, .handoffs] s (s.take i).reevaluateAll :=
      ((take_within s i).mono (by simp)).trans (reevaluateAll_within _)
    obtain ⟨hlegs, hseq, hdoors, hreports, -⟩ := reevaluateAll_legs (s.take i)
    exact ⟨_, hexec, hlegs, hseq, hdoors, hreports, hw.same⟩

end Sys2Proof.Machine
end

section
/-! PROOFS. The Leg Monitor's doors (02): the lines, the frames a door originates, and the profile load (R34, R38 to R40). -/

namespace Sys2Proof.Machine

/-! ### Door frames (R39, R40, R70) -/

theorem doorUsed_of_configured {r : LegRecord} {f : LegStatic} (h : r.fixed = some f) : r.doorUsed = f.doorUsed := by
  unfold LegRecord.doorUsed
  rw [h]
  rfl

theorem doorUsed_iff (r : LegRecord) : r.doorUsed = true ↔ ∃ f, r.fixed = some f ∧ f.doorUsed = true := by
  unfold LegRecord.doorUsed
  cases r.fixed <;> simp

/-- A key entered stands in relay memory (R66). -/
theorem mem_enterKey (ring : List Key) (k : Key) : k ∈ enterKey ring k := by
  unfold enterKey
  split
  · next h => exact List.contains_iff_mem.mp h
  · split <;> exact List.mem_append_right _ List.mem_cons_self

/-- The body of the next door frame of a leg (R39, R40). -/
def State.nextDoorBody (s : State) (l : LegIx) (f : LegStatic) : ConditionBody :=
  doorBody s.pfl.profile.nodeId (s.lgm.condSeq + 1) f s.lgm.legs[l]

/-- A port with a frame placed in a leg's door slot (R72). -/
def LinkPort.placeDoor (lp : LinkPort) (l : LegIx) (fr : Frame) (fresh : Nat) : LinkPort :=
  { lp with condLeg := modifyAt lp.condLeg l (fun sl => sl.place fr fresh) }

/-- A door frame takes the next number and its leg's slot; none is displaced. -/
theorem originateDoor_eq {s : State} {l : LegIx} {f : LegStatic} (h : s.lgm.legs[l].fixed = some f) : s.originateDoor l = { s with
    lgm := { s.lgm with condSeq := s.lgm.condSeq + 1 }
    dlc :=
      { ports := s.dlc.ports.set f.port
          ((s.dlc.ports.get f.port).placeDoor l (s.ownFrame (.condition (s.nextDoorBody l f))) s.dlc.stamp)
        ring := enterKey s.dlc.ring (.condition s.pfl.profile.nodeId (s.lgm.condSeq + 1)), stamp := s.dlc.stamp + 1 } } := by
  unfold State.originateDoor
  rw [h]
  rfl

theorem originateDoor_of_unconfigured {s : State} {l : LegIx} (h : s.lgm.legs[l].fixed = none) : s.originateDoor l = s := by
  unfold State.originateDoor
  rw [h]

theorem placeDoor_same (lp : LinkPort) (l : LegIx) (fr : Frame) (n : Nat) :
    (lp.placeDoor l fr n).condLeg[l].unsent.map (·.item) = some fr := by
  unfold LinkPort.placeDoor
  rw [modifyAt_get, if_pos rfl]
  rfl

theorem placeDoor_other {l m : LegIx} (h : l ≠ m) (lp : LinkPort) (fr : Frame) (n : Nat) :
    (lp.placeDoor l fr n).condLeg[m] = lp.condLeg[m] := by
  unfold LinkPort.placeDoor
  rw [modifyAt_get, if_neg h]

theorem otherPort_ne (p : Port) : p ≠ otherPort p := by cases p <;> decide

/-- Originating a door frame touches the sequence number and the links alone: no frame is displaced. -/
theorem originateDoor_frame (s : State) (l : LegIx) : Frame.only [.lgm, .dlc] s (s.originateDoor l) := by
  cases h : s.lgm.legs[l].fixed with
  | none => rw [originateDoor_of_unconfigured h]; exact (Within.refl _ s).same
  | some f => rw [originateDoor_eq h]; exact fun b hb => by cases b <;> first | rfl | exact absurd (by simp) hb

section
variable {s : State} {l : LegIx} {f : LegStatic} (h : s.lgm.legs[l].fixed = some f)
include h

theorem originateDoor_lgm : (s.originateDoor l).lgm = { s.lgm with condSeq := s.lgm.condSeq + 1 } := by rw [originateDoor_eq h]

theorem originateDoor_slot : ((s.originateDoor l).dlc.ports.get f.port).condLeg[l].unsent.map (·.item)
    = some { hop := 0, sender := s.pfl.profile.nodeId, body := .condition (s.nextDoorBody l f) } := by
  rw [originateDoor_eq h, PerPort.get_set, placeDoor_same]
  rfl

theorem originateDoor_slot_other {m : LegIx} (hm : l ≠ m) (p : Port) :
    ((s.originateDoor l).dlc.ports.get p).condLeg[m] = (s.dlc.ports.get p).condLeg[m] := by
  rw [originateDoor_eq h]
  by_cases hp : f.port = p
  · subst hp
    rw [PerPort.get_set, placeDoor_other hm]
  · rw [PerPort.get_set_other _ _ _ _ hp]

theorem originateDoor_otherPort : (s.originateDoor l).dlc.ports.get (otherPort f.port) = s.dlc.ports.get (otherPort f.port) := by
  rw [originateDoor_eq h, PerPort.get_set_other _ _ _ _ (otherPort_ne f.port)]

theorem originateDoor_key : .condition s.pfl.profile.nodeId (s.lgm.condSeq + 1) ∈ (s.originateDoor l).dlc.ring := by
  rw [originateDoor_eq h]
  exact mem_enterKey _ _

end

/-! ### Door lines (R38) -/

/-- The leg with a new level taken (R38, R45). -/
def State.levelTaken (s : State) (l : LegIx) : LegRecord := s.evaluated { s.lgm.legs[l] with localDoor := s.lgm.doors[l].closed }

theorem levelTaken_rest (s : State) (l : LegIx) : s.levelTaken l = { s.lgm.legs[l] with
    localDoor := s.lgm.doors[l].closed, barred := (s.levelTaken l).barred, passable := (s.levelTaken l).passable } := evaluated_rest s _

/-- The state that announces a level taken: the wait ended, the leg changed and reported. -/
def State.levelReported (s : State) (l : LegIx) : State :=
  (s.setDoor l { s.lgm.doors[l] with wait := false }).changeLegTo l (s.levelTaken l)

section
variable (s : State) (l : LegIx)

theorem levelReported_leg : (s.levelReported l).lgm.legs[l] = s.levelTaken l := by
  unfold State.levelReported
  rw [changeLegTo_lgm]
  exact setAt_same _ _ _

theorem levelReported_leg_other {m : LegIx} (h : m ≠ l) : (s.levelReported l).lgm.legs[m] = s.lgm.legs[m] := by
  unfold State.levelReported
  rw [changeLegTo_lgm]
  exact setAt_other _ _ _ _ (Ne.symm h)

theorem levelReported_condSeq : (s.levelReported l).lgm.condSeq = s.lgm.condSeq := by
  unfold State.levelReported
  rw [changeLegTo_lgm]
  rfl

theorem levelReported_doors : (s.levelReported l).lgm.doors = (s.setDoor l { s.lgm.doors[l] with wait := false }).lgm.doors := by
  unfold State.levelReported
  rw [changeLegTo_lgm]

theorem levelReported_frame : Frame.only [.lgm, .handoffs] s (s.levelReported l) :=
  (((setDoor_within s l _).mono (by simp)).trans (changeLegTo_within _ l _)).same

theorem levelReported_handoffs :
    (s.levelReported l).handoffs = s.handoffs ++ ((legChange l s.lgm.legs[l] (s.levelTaken l)).map Instr.legReport).toList :=
  changeLegTo_handoffs _ l _

/-- The frame that announces a level taken. -/
theorem levelReported_body (f : LegStatic) : (s.levelReported l).nextDoorBody l f =
    { origin := s.pfl.profile.nodeId, seq := s.lgm.condSeq + 1, end1 := s.pfl.profile.nodeId, end2 := f.neighbour,
      doorClosed := s.lgm.doors[l].closed, smoke := s.lgm.legs[l].smoke, crowdValid := false, crowd := 0 } := by
  have hpfl : (s.levelReported l).pfl = s.pfl := levelReported_frame s l .pfl (by simp)
  unfold State.nextDoorBody doorBody
  rw [levelReported_leg, levelReported_condSeq, hpfl, levelTaken_rest]

theorem setDoor_doors (d : DoorInput) (m : LegIx) : (s.setDoor l d).lgm.doors[m] = if m = l then d else s.lgm.doors[m] := by
  by_cases h : m = l
  · subst h; rw [if_pos rfl]; exact setAt_same _ _ _
  · rw [if_neg h]; exact setAt_other _ _ _ _ (Ne.symm h)

end

/-- The level's outcome on a used line that is waited for (R38). -/
theorem execDoorLevelTaken_eq {s : State} {l : LegIx} {f : LegStatic} (hr : s.running = true) (hf : s.lgm.legs[l].fixed = some f)
    (hused : f.doorUsed = true) (hwait : s.lgm.doors[l].wait = true) : exec (.doorLevelTaken l) s
      = .next (if s.lgm.legs[l].localDoor = s.lgm.doors[l].closed then s.setDoor l { s.lgm.doors[l] with wait := false }
          else (s.levelReported l).originateDoor l) :=
  if_pos (by rw [hr, hwait, doorUsed_of_configured hf, hused]; rfl)

/-- Settles O17: the line's level, then the wait, then the level taken, reported and announced. -/
theorem doorInputIsWaitedForThenTaken : Obligations.DoorInputIsWaitedForThenTaken := by
  refine ⟨fun s l closed => ⟨fun h => if_pos h, fun h => ?_⟩, fun s l f hr hf hused hwait => ?_⟩
  · have hexec : exec (.doorInputChange l closed) s
        = .next (s.setDoor l { closed := closed, wait := s.running && s.lgm.legs[l].doorUsed }) := if_neg h
    refine ⟨_, hexec, ?_, ?_, fun l' hl => ?_, rfl, rfl, (setDoor_within s l _).same⟩
    · rw [setDoor_doors, if_pos rfl]
    · rw [setDoor_doors, if_pos rfl, Bool.and_eq_true, doorUsed_iff]
    · rw [setDoor_doors, if_neg hl]
  · have hexec := execDoorLevelTaken_eq hr hf hused hwait
    by_cases hlevel : s.lgm.legs[l].localDoor = s.lgm.doors[l].closed
    · rw [if_pos hlevel] at hexec
      exact ⟨_, hexec, setDoor_doors s l _, fun _ _ => rfl, fun _ => ⟨rfl, rfl, (setDoor_within s l _).same⟩, fun h => absurd hlevel h⟩
    · rw [if_neg hlevel] at hexec
      have hfixed : (s.levelReported l).lgm.legs[l].fixed = some f := by rw [levelReported_leg, levelTaken_rest]; exact hf
      have hlgm := originateDoor_lgm hfixed
      have hpfl : (s.levelReported l).pfl = s.pfl := levelReported_frame s l .pfl (by simp)
      have hdlc : (s.levelReported l).dlc = s.dlc := levelReported_frame s l .dlc (by simp)
      refine ⟨_, hexec, fun l' => ?_, fun l' hl => ?_, fun h => absurd h hlevel, fun _ => ⟨?_, ?_, ?_, ?_, ?_, ?_, fun b hb => ?_⟩⟩
      · rw [hlgm]
        exact (congrArg (fun d : Vector DoorInput 6 => d[l']) (levelReported_doors s l)).trans (setDoor_doors s l _ l')
      · rw [hlgm]; exact levelReported_leg_other s l hl
      · rw [hlgm]; exact levelReported_leg s l
      · rw [hlgm, levelReported_condSeq]
      · rw [originateDoor_slot hfixed, levelReported_body, hpfl]
      · have hkey := originateDoor_key hfixed
        rw [hpfl, levelReported_condSeq] at hkey
        exact hkey
      · rw [originateDoor_otherPort hfixed, hdlc]
      · have hhand : ((s.levelReported l).originateDoor l).handoffs = (s.levelReported l).handoffs :=
          originateDoor_frame _ l .handoffs (by simp)
        rw [hhand, levelReported_handoffs]
        rfl
      · simp only [List.mem_cons, List.not_mem_nil, or_false, not_or] at hb
        obtain ⟨hb1, hb2, hb3⟩ := hb
        exact (levelReported_frame s l b (by simp [hb1, hb3])).trans (originateDoor_frame _ l b (by simp [hb1, hb2]))

/-! ### The profile load (R34) -/

/-- Whether a leg of the table uses its door input. -/
def doorsUsed (legs : Vector LegRecord 6) (l : LegIx) : Bool := legs[l].doorUsed

theorem announceDoor_of_unused {s : State} {l : LegIx} (h : s.lgm.legs[l].doorUsed = false) : s.announceDoor l = s :=
  if_neg (by rw [h]; exact Bool.false_ne_true)

theorem announceDoor_of_used {s : State} {l : LegIx} (h : s.lgm.legs[l].doorUsed = true) : s.announceDoor l = s.originateDoor l := if_pos h

theorem announceDoor_lgm (s : State) (l : LegIx) : (s.announceDoor l).lgm
    = { s.lgm with condSeq := s.lgm.condSeq + if doorsUsed s.lgm.legs l then 1 else 0 } := by
  unfold doorsUsed
  by_cases h : s.lgm.legs[l].doorUsed = true
  · obtain ⟨f, hf, -⟩ := (doorUsed_iff _).mp h
    rw [announceDoor_of_used h, originateDoor_lgm hf, if_pos h]
  · rw [announceDoor_of_unused (Bool.eq_false_iff.mpr h), if_neg h]
    simp

theorem announceDoor_frame (s : State) (l : LegIx) : Frame.only [.lgm, .dlc] s (s.announceDoor l) := by
  unfold State.announceDoor
  split
  · exact originateDoor_frame s l
  · exact (Within.refl _ s).same

theorem announceDoor_slot_other (s : State) {l m : LegIx} (hm : l ≠ m) (p : Port) :
    ((s.announceDoor l).dlc.ports.get p).condLeg[m] = (s.dlc.ports.get p).condLeg[m] := by
  by_cases h : s.lgm.legs[l].doorUsed = true
  · obtain ⟨f, hf, -⟩ := (doorUsed_iff _).mp h
    rw [announceDoor_of_used h, originateDoor_slot_other hf hm]
  · rw [announceDoor_of_unused (Bool.eq_false_iff.mpr h)]

section
variable (ls : List LegIx) (s : State)

theorem announceDoors_frame : Frame.only [.lgm, .dlc] s (ls.foldl State.announceDoor s) := by
  induction ls generalizing s with
  | nil => exact (Within.refl _ s).same
  | cons l ls ih => exact fun b hb => (announceDoor_frame s l b hb).trans (ih _ b hb)

/-- Each door frame takes the next number. -/
theorem announceDoors_lgm : (ls.foldl State.announceDoor s).lgm
    = { s.lgm with condSeq := s.lgm.condSeq + BitVec.ofNat 16 (ls.filter (doorsUsed s.lgm.legs)).length } := by
  induction ls generalizing s with
  | nil => simp
  | cons l ls ih =>
    rw [List.foldl_cons, ih, announceDoor_lgm, List.filter_cons]
    have hcount : (if doorsUsed s.lgm.legs l then 1 else 0) + BitVec.ofNat 16 (ls.filter (doorsUsed s.lgm.legs)).length
        = BitVec.ofNat 16 (if doorsUsed s.lgm.legs l then l :: ls.filter (doorsUsed s.lgm.legs)
            else ls.filter (doorsUsed s.lgm.legs)).length := by
      cases h : doorsUsed s.lgm.legs l with
      | true =>
        rw [if_pos rfl, if_pos rfl, List.length_cons, BitVec.ofNat_add, BitVec.add_comm]
        rfl
      | false =>
        rw [if_neg Bool.false_ne_true, if_neg Bool.false_ne_true]
        exact BitVec.zero_add _
    rw [← hcount, ← BitVec.add_assoc]

theorem announceDoors_slot_other {m : LegIx} (hm : m ∉ ls) (p : Port) :
    ((ls.foldl State.announceDoor s).dlc.ports.get p).condLeg[m] = (s.dlc.ports.get p).condLeg[m] := by
  induction ls generalizing s with
  | nil => rfl
  | cons l ls ih =>
    rw [List.mem_cons, not_or] at hm
    rw [List.foldl_cons, ih _ hm.2, announceDoor_slot_other s (Ne.symm hm.1)]

/-- The frame of a used door, numbered after the used doors before it. -/
theorem announceDoors_slot (hsorted : ls.Pairwise (· < ·)) {l : LegIx} (hl : l ∈ ls) {f : LegStatic} (hf : s.lgm.legs[l].fixed = some f)
    (hused : f.doorUsed = true) :
    ((ls.foldl State.announceDoor s).dlc.ports.get f.port).condLeg[l].unsent.map (·.item)
      = some (s.ownFrame (.condition (doorBody s.pfl.profile.nodeId
          (s.lgm.condSeq + BitVec.ofNat 16 (ls.filter (fun j => doorsUsed s.lgm.legs j && j ≤ l)).length) f s.lgm.legs[l]))) := by
  induction ls generalizing s with
  | nil => exact absurd hl List.not_mem_nil
  | cons a ls ih =>
    obtain ⟨hlater, hsorted⟩ := List.pairwise_cons.mp hsorted
    rw [List.foldl_cons]
    by_cases hal : a = l
    · subst hal
      have hdoor : s.lgm.legs[a].doorUsed = true := (doorUsed_of_configured hf).trans hused
      have hcount : (a :: ls).filter (fun j => doorsUsed s.lgm.legs j && j ≤ a) = [a] := by
        have hrest : ls.filter (fun j => doorsUsed s.lgm.legs j && j ≤ a) = [] :=
          List.filter_eq_nil_iff.mpr fun j hj => by simp [not_le.mpr (hlater j hj)]
        have hkeep : (doorsUsed s.lgm.legs a && decide (a ≤ a)) = true := by rw [show doorsUsed s.lgm.legs a = true from hdoor]; simp
        rw [List.filter_cons, if_pos hkeep, hrest]
      rw [announceDoors_slot_other _ _ (fun hm => lt_irrefl _ (hlater a hm)), announceDoor_of_used hdoor, originateDoor_slot hf, hcount]
      rfl
    · have hmem : l ∈ ls := (List.mem_cons.mp hl).resolve_left (Ne.symm hal)
      have hlgm := announceDoor_lgm s a
      have hlegs : (s.announceDoor a).lgm.legs = s.lgm.legs := by rw [hlgm]
      have hpfl : (s.announceDoor a).pfl = s.pfl := announceDoor_frame s a .pfl (by simp)
      have htail := ih (s.announceDoor a) hsorted hmem (by rw [hlegs]; exact hf)
      have hcount : (s.announceDoor a).lgm.condSeq + BitVec.ofNat 16 (ls.filter (fun j => doorsUsed s.lgm.legs j && j ≤ l)).length
          = s.lgm.condSeq + BitVec.ofNat 16 ((a :: ls).filter (fun j => doorsUsed s.lgm.legs j && j ≤ l)).length := by
        have hle : decide (a ≤ l) = true := by simp [le_of_lt (hlater l hmem)]
        rw [hlgm, List.filter_cons, hle, Bool.and_true]
        cases h : doorsUsed s.lgm.legs a with
        | true =>
          dsimp only
          rw [if_pos rfl, if_pos rfl, List.length_cons, BitVec.ofNat_add, BitVec.add_comm (BitVec.ofNat 16 _), ← BitVec.add_assoc]
          rfl
        | false =>
          dsimp only
          rw [if_neg Bool.false_ne_true, if_neg Bool.false_ne_true]
          exact congrArg (· + _) (BitVec.add_zero _)
      rw [htail, hlegs]
      unfold State.ownFrame
      rw [hpfl, hcount]

end

/-- The legs and lines as the profile load installs them, before the doors are announced (R34 steps 1 to 3). -/
def State.legsInstalled (s : State) : State :=
  { s.take .lgmProfileLoad with
    lgm := { s.lgm with
      legs := tabulate (fun l => s.evaluated (installLeg s.pfl.profile.legs[l] s.lgm.doors[l]))
      doors := tabulate (fun l => { s.lgm.doors[l] with wait := false }) } }

theorem legsInstalled_frame (s : State) : Frame.only [.lgm, .handoffs] s s.legsInstalled := fun b hb => by
  cases b <;> first | rfl | exact absurd (by simp) hb

theorem execLgmProfileLoad_eq {s : State} (hr : s.running = true) (hmem : .lgmProfileLoad ∈ s.handoffs) :
    exec .lgmProfileLoad s = .next ((indices 6).foldl State.announceDoor s.legsInstalled) :=
  if_pos (by rw [hr, List.contains_iff_mem.mpr hmem]; rfl)

theorem legsInstalled_leg (s : State) (l : LegIx) :
    s.legsInstalled.lgm.legs[l] = s.evaluated (installLeg s.pfl.profile.legs[l] s.lgm.doors[l]) := tabulate_get _ l

theorem elim_eq_any {α : Type} (o : Option α) (p : α → Bool) : o.elim false p = o.any p := by cases o <;> rfl

theorem legsInstalled_used (s : State) (l : LegIx) : doorsUsed s.legsInstalled.lgm.legs l = (s.pfl.profile.legs[l]).any (·.doorUsed) := by
  unfold doorsUsed LegRecord.doorUsed
  rw [legsInstalled_leg, evaluated_rest]
  exact elim_eq_any _ _

/-- Settles O15: the legs installed and evaluated, then one numbered frame for each used door. -/
theorem lgmLoadInstallsSamplesAndAnnounces : Obligations.LgmLoadInstallsSamplesAndAnnounces := by
  intro s hr hmem
  have hexec := execLgmProfileLoad_eq hr hmem
  have hlgm := announceDoors_lgm (indices 6) s.legsInstalled
  have hframe := announceDoors_frame (indices 6) s.legsInstalled
  have hused : doorsUsed s.legsInstalled.lgm.legs = fun l => (s.pfl.profile.legs[l]).any (·.doorUsed) := funext (legsInstalled_used s)
  refine ⟨_, hexec, fun l => ?_, fun l => ?_, ?_, fun l f hf hdoor => ?_, hframe .handoffs (by simp), fun b hb => ?_⟩
  · rw [hlgm, legsInstalled_leg]
    unfold installLeg
    rw [elim_eq_any]
  · rw [hlgm]
    exact tabulate_get _ l
  · rw [hlgm, hused]
    rfl
  · have hleg := legsInstalled_leg s l
    have hfixed : s.legsInstalled.lgm.legs[l].fixed = some f := by
      rw [hleg, evaluated_rest]
      exact hf
    have hbody : ∀ n, doorBody s.pfl.profile.nodeId n f s.legsInstalled.lgm.legs[l] =
        { origin := s.pfl.profile.nodeId, seq := n, end1 := s.pfl.profile.nodeId, end2 := f.neighbour,
          doorClosed := s.lgm.doors[l].closed, smoke := false, crowdValid := false, crowd := 0 } := fun n => by
      unfold doorBody
      rw [hleg, evaluated_rest]
      unfold installLeg
      rw [hf]
      simp only [Option.elim_some, hdoor, Bool.true_and]
      rfl
    rw [announceDoors_slot (indices 6) s.legsInstalled (indices_sorted 6) (mem_indices l) hfixed hdoor, hused]
    have hme : s.legsInstalled.pfl = s.pfl := rfl
    have hseq : s.legsInstalled.lgm.condSeq = s.lgm.condSeq := rfl
    unfold State.ownFrame
    rw [hme, hseq, hbody]
  · simp only [List.mem_cons, List.not_mem_nil, or_false, not_or] at hb
    obtain ⟨hb1, hb2, hb3⟩ := hb
    exact (legsInstalled_frame s b (by simp [hb1, hb3])).trans (hframe b (by simp [hb1, hb2]))

end Sys2Proof.Machine
end

section
/-! PROOFS. The Deck Link Controller's transmitter (03): the one slot a launch, an end or a collision changes, completion and backoff (R75, R77, R78). -/

namespace Sys2Proof.Machine

/-! ### One slot's launch, end and collision in its port -/

/-- A port's flooded slots after a change of those of one name. -/
def floodAfter (lp : LinkPort) (n : SlotName) (f : Slot Frame → Slot Frame) (m : SlotName) : Slot Frame :=
  if m = n then f (lp.floodSlot m) else lp.floodSlot m

theorem floodSlot_modify_alarm (lp : LinkPort) (f : Slot Frame → Slot Frame) (m : SlotName) :
    ({ lp with alarm := f lp.alarm } : LinkPort).floodSlot m = floodAfter lp .alarm f m := by
  cases m <;> rfl

theorem floodSlot_modify_clock (lp : LinkPort) (f : Slot Frame → Slot Frame) (m : SlotName) :
    ({ lp with clock := f lp.clock } : LinkPort).floodSlot m = floodAfter lp .clock f m := by
  cases m <;> rfl

theorem floodSlot_modify_condLeg (lp : LinkPort) (l : LegIx) (f : Slot Frame → Slot Frame) (m : SlotName) :
    ({ lp with condLeg := modifyAt lp.condLeg l f } : LinkPort).floodSlot m = floodAfter lp (.condLeg l) f m := by
  cases m with
  | condLeg k =>
    by_cases h : l = k
    · subst h
      exact (modifyAt_get _ _ _ _).trans ((if_pos rfl).trans (if_pos rfl).symm)
    · have hne : SlotName.condLeg k ≠ .condLeg l := fun e => h (SlotName.condLeg.inj e).symm
      exact (modifyAt_get _ _ _ _).trans ((if_neg h).trans (if_neg hne).symm)
  | _ => rfl

theorem floodSlot_modify_condRelay (lp : LinkPort) (i : Fin 4) (f : Slot Frame → Slot Frame) (m : SlotName) :
    ({ lp with condRelay := modifyAt lp.condRelay i f } : LinkPort).floodSlot m = floodAfter lp (.condRelay i) f m := by
  cases m with
  | condRelay k =>
    by_cases h : i = k
    · subst h
      exact (modifyAt_get _ _ _ _).trans ((if_pos rfl).trans (if_pos rfl).symm)
    · have hne : SlotName.condRelay k ≠ .condRelay i := fun e => h (SlotName.condRelay.inj e).symm
      exact (modifyAt_get _ _ _ _).trans ((if_neg h).trans (if_neg hne).symm)
  | _ => rfl

/-- The transmitter and the slots of ADVERT and PROGRAMME have no part in the flooded slots. -/
theorem floodSlot_congr {lp lq : LinkPort} (ha : lq.alarm = lp.alarm) (hl : lq.condLeg = lp.condLeg) (hr : lq.condRelay = lp.condRelay)
    (hc : lq.clock = lp.clock) (m : SlotName) : lq.floodSlot m = lp.floodSlot m := by
  unfold LinkPort.floodSlot
  rw [ha, hl, hr, hc]

/-- A change of one slot of a port: one of the flooded slots, an ADVERT slot, or the PROGRAMME queue. -/
structure SlotChange (n : SlotName) (f : Slot Frame → Slot Frame) (g : Slot Bool → Slot Bool) (lp lq : LinkPort) : Prop where
  flood   : isFloodSlot n → ∀ m, lq.floodSlot m = floodAfter lp n f m
  still   : ¬ isFloodSlot n → ∀ m, lq.floodSlot m = lp.floodSlot m
  advert  : ∀ k : BlockIx, lq.advert[k] = if n = .advert k then g lp.advert[k] else lp.advert[k]
  queue   : n ≠ .programme → lq.programme = lp.programme ∧ lq.progInFlight = lp.progInFlight

theorem not_isFloodSlot_advert (b : BlockIx) : ¬ isFloodSlot (.advert b) := fun h => h.1 b rfl

theorem not_isFloodSlot_programme : ¬ isFloodSlot .programme := fun h => h.2 rfl

theorem isFloodSlot_iff (n : SlotName) : isFloodSlot n ↔ n ≠ .programme ∧ ∀ b, n ≠ .advert b := and_comm

/-- The other slots of the port hold what they held. -/
theorem SlotChange.others {n : SlotName} {f : Slot Frame → Slot Frame} {g : Slot Bool → Slot Bool} {lp lq : LinkPort}
    (h : SlotChange n f g lp lq) : otherSlots n lp lq := by
  refine ⟨fun m _ hm => ?_, fun b hb => (h.advert b).trans (if_neg hb), h.queue⟩
  by_cases hn : isFloodSlot n
  · exact (h.flood hn m).trans (if_neg hm)
  · exact h.still hn m

/-- The changed flooded slot. -/
theorem SlotChange.slot {n : SlotName} {f : Slot Frame → Slot Frame} {g : Slot Bool → Slot Bool} {lp lq : LinkPort}
    (h : SlotChange n f g lp lq) (hn : isFloodSlot n) : lq.floodSlot n = f (lp.floodSlot n) := (h.flood hn n).trans (if_pos rfl)

theorem SlotChange.block {k : BlockIx} {f : Slot Frame → Slot Frame} {g : Slot Bool → Slot Bool} {lp lq : LinkPort}
    (h : SlotChange (.advert k) f g lp lq) : lq.advert[k] = g lp.advert[k] := (h.advert k).trans (if_pos rfl)

section
variable (lp : LinkPort) (tx : Tx) (f : Slot Frame → Slot Frame) (g : Slot Bool → Slot Bool)

theorem slotChange_alarm : SlotChange .alarm f g lp { lp with alarm := f lp.alarm, tx := tx } :=
  ⟨fun _ m => (floodSlot_congr rfl rfl rfl rfl m).trans (floodSlot_modify_alarm lp f m), fun h => absurd ⟨nofun, nofun⟩ h,
    fun _ => rfl, fun _ => ⟨rfl, rfl⟩⟩

theorem slotChange_clock : SlotChange .clock f g lp { lp with clock := f lp.clock, tx := tx } :=
  ⟨fun _ m => (floodSlot_congr rfl rfl rfl rfl m).trans (floodSlot_modify_clock lp f m), fun h => absurd ⟨nofun, nofun⟩ h,
    fun _ => rfl, fun _ => ⟨rfl, rfl⟩⟩

theorem slotChange_condLeg (l : LegIx) : SlotChange (.condLeg l) f g lp { lp with condLeg := modifyAt lp.condLeg l f, tx := tx } :=
  ⟨fun _ m => (floodSlot_congr rfl rfl rfl rfl m).trans (floodSlot_modify_condLeg lp l f m), fun h => absurd ⟨nofun, nofun⟩ h,
    fun _ => rfl, fun _ => ⟨rfl, rfl⟩⟩

theorem slotChange_condRelay (i : Fin 4) : SlotChange (.condRelay i) f g lp { lp with condRelay := modifyAt lp.condRelay i f, tx := tx } :=
  ⟨fun _ m => (floodSlot_congr rfl rfl rfl rfl m).trans (floodSlot_modify_condRelay lp i f m), fun h => absurd ⟨nofun, nofun⟩ h,
    fun _ => rfl, fun _ => ⟨rfl, rfl⟩⟩

theorem slotChange_advert (b : BlockIx) : SlotChange (.advert b) f g lp { lp with advert := modifyAt lp.advert b g, tx := tx } := by
  refine ⟨fun h => absurd h (not_isFloodSlot_advert b), fun _ m => floodSlot_congr rfl rfl rfl rfl m, fun k => ?_, fun _ => ⟨rfl, rfl⟩⟩
  refine (modifyAt_get _ _ _ _).trans ?_
  simp only [SlotName.advert.injEq]

theorem slotChange_programme (q : List (Held Frame)) (b : Bool) :
    SlotChange .programme f g lp { lp with programme := q, progInFlight := b, tx := tx } :=
  ⟨fun h => absurd h not_isFloodSlot_programme, fun _ m => floodSlot_congr rfl rfl rfl rfl m, fun _ => rfl, fun h => absurd rfl h⟩

end

theorem launch_change (lp : LinkPort) (a : BlockIx → List Byte) (n : SlotName) : SlotChange n Slot.launch Slot.launch lp (lp.launch a n) := by
  cases n with
  | alarm => exact slotChange_alarm lp _ _ _
  | condLeg l => exact slotChange_condLeg lp _ _ _ l
  | condRelay i => exact slotChange_condRelay lp _ _ _ i
  | clock => exact slotChange_clock lp _ _ _
  | advert b => exact slotChange_advert lp _ _ _ b
  | programme => exact slotChange_programme lp _ _ _ lp.programme true

theorem finish_change (lp : LinkPort) (n : SlotName) : SlotChange n Slot.finish Slot.finish lp (lp.finish n) := by
  cases n with
  | alarm => exact slotChange_alarm lp _ _ _
  | condLeg l => exact slotChange_condLeg lp _ _ _ l
  | condRelay i => exact slotChange_condRelay lp _ _ _ i
  | clock => exact slotChange_clock lp _ _ _
  | advert b => exact slotChange_advert lp _ _ _ b
  | programme => exact slotChange_programme lp _ _ _ _ false

theorem collide_change (lp : LinkPort) (n : SlotName) (tx : Tx) :
    SlotChange n (fun sl => sl.collide.1) (fun sl => sl.collide.1) lp { (lp.collide n).1 with tx := tx } := by
  cases n with
  | alarm => exact slotChange_alarm lp _ _ _
  | condLeg l => exact slotChange_condLeg lp _ _ _ l
  | condRelay i => exact slotChange_condRelay lp _ _ _ i
  | clock => exact slotChange_clock lp _ _ _
  | advert b => exact slotChange_advert lp _ _ _ b
  | programme => exact slotChange_programme lp _ _ _ _ false

/-! ### Backoff expiry and completion (R77, R78) -/

theorem finish_tx (lp : LinkPort) (n : SlotName) : (lp.finish n).tx = .ready := by cases n <;> rfl

theorem setPort_frame (s : State) (p : Port) (lp : LinkPort) : Frame.only [.dlc] s (s.setPort p lp) := (setPort_within s p lp).same

theorem setPort_same (s : State) (p : Port) (lp : LinkPort) : (s.setPort p lp).dlc.ports.get p = lp := PerPort.get_set _ _ _

theorem setPort_other (s : State) (p : Port) (lp : LinkPort) :
    (s.setPort p lp).dlc.ports.get (otherPort p) = s.dlc.ports.get (otherPort p) := PerPort.get_set_other _ _ _ _ (otherPort_ne p)

/-- Settles O28: each transmitter state, the expiry and the completion. -/
theorem backoffEndsAndTransmissionCompletes : Obligations.BackoffEndsAndTransmissionCompletes := by
  intro s p
  refine ⟨fun k hk => ?_, fun hk => ?_, fun hk => ?_, fun n b hn => ?_⟩
  · have hexec : exec (.backoffExpiry p) s = .next (s.setPort p { s.dlc.ports.get p with tx := .ready }) := by
      show execBackoffExpiry p s = _
      unfold execBackoffExpiry
      dsimp only
      rw [hk]
    exact ⟨_, hexec, setPort_same _ _ _, setPort_other _ _ _, rfl, rfl, setPort_frame _ _ _⟩
  · show execBackoffExpiry p s = _
    unfold execBackoffExpiry
    dsimp only
    split
    · next k h => exact absurd h (hk k)
    · rfl
  · show execTransmissionComplete p s = _
    unfold execTransmissionComplete
    dsimp only
    split
    · next n b h => exact absurd h (hk n b)
    · rfl
  · have hexec : exec (.transmissionComplete p) s = .next (s.setPort p ((s.dlc.ports.get p).finish n)) := by
      show execTransmissionComplete p s = _
      unfold execTransmissionComplete
      dsimp only
      rw [hn]
    have hchange := finish_change (s.dlc.ports.get p) n
    refine ⟨_, hexec, ?_⟩
    dsimp only
    rw [setPort_same]
    refine ⟨finish_tx _ n, setPort_other _ _ _, rfl, rfl, setPort_frame _ _ _, fun m hm => ?_, fun k => hchange.advert k, ?_, hchange.queue⟩
    · by_cases hf : isFloodSlot n
      · exact hchange.flood hf m
      · have hne : m ≠ n := fun e => hf (e ▸ hm)
        rw [if_neg hne]
        exact hchange.still hf m
    · rintro rfl
      exact ⟨rfl, rfl⟩

end Sys2Proof.Machine
end

section
/-! PROOFS. The Deck Link Controller's transmitter (03): launch and collision (R75 to R79, R90, R91). -/

namespace Sys2Proof.Machine

/-! ### Launch (R75, R76, R90) -/

theorem indices_getElem? {n : Nat} (i : Fin n) : (indices n)[i.val]? = some i := by simp [indices]

theorem slotBytes_of_unsent {sl : Slot Frame} {w : Held Frame} (h : sl.unsent = some w) : slotBytes sl = w.item.bytes := by
  unfold slotBytes
  rw [h]

theorem launch_of_unsent {α : Type} {sl : Slot α} {w : Held α} (h : sl.unsent = some w) : sl.launch = { inFlight := some w, unsent := none } := by
  unfold Slot.launch
  rw [h]

theorem launch_tx_flood (lp : LinkPort) (a : BlockIx → List Byte) {n : SlotName} (h : isFloodSlot n) :
    (lp.launch a n).tx = .sending n (slotBytes (lp.floodSlot n)) := by
  cases n with
  | advert b => exact absurd h (not_isFloodSlot_advert b)
  | programme => exact absurd h not_isFloodSlot_programme
  | _ => rfl

theorem buildAdvert_entry (s : State) (b : BlockIx) (i : Fin 16) :
    (buildAdvert s b).entries[i.val]? = some { cost := costWord s.rtu.table[blockDest b i].cost, via := viaNode s.lgm.legs s.rtu.table[blockDest b i].best } := by
  show ((indices 16).map (fun i => advertEntry s (blockDest b i)))[i.val]? = _
  rw [List.getElem?_map, indices_getElem?]
  rfl

theorem blockOf_eq_iff (d : DestIx) (k : BlockIx) : blockOf d = k ↔ d.val / 16 = k.val := Fin.ext_iff

theorem clearMarks_table (s : State) (p : Port) (k : BlockIx) (d : DestIx) :
    (s.clearMarks p k).rtu.table[d] = if d.val / 16 = k.val then clearChanged p s.rtu.table[d] else s.rtu.table[d] := by
  refine (tabulate_get _ d).trans ?_
  simp only [blockOf_eq_iff]

theorem clearMarks_port (s : State) (p : Port) (k : BlockIx) :
    (s.clearMarks p k).adu.ports.get p
      = { s.adu.ports.get p with urgent := setAt (s.adu.ports.get p).urgent k false, gapRunning := true } := PerPort.get_set _ _ _

theorem clearMarks_otherPort (s : State) (p : Port) (k : BlockIx) :
    (s.clearMarks p k).adu.ports.get (otherPort p) = s.adu.ports.get (otherPort p) := PerPort.get_set_other _ _ _ _ (otherPort_ne p)

/-- The state as a port begins to send a slot's frame. -/
def State.launched (s : State) (p : Port) (n : SlotName) : State :=
  s.setPort p ((s.dlc.ports.get p).launch (fun b => advertFrameBytes (buildAdvert s b)) n)

theorem launched_port (s : State) (p : Port) (n : SlotName) :
    (s.launched p n).dlc.ports.get p = (s.dlc.ports.get p).launch (fun b => advertFrameBytes (buildAdvert s b)) n := setPort_same _ _ _

theorem launched_otherPort (s : State) (p : Port) (n : SlotName) :
    (s.launched p n).dlc.ports.get (otherPort p) = s.dlc.ports.get (otherPort p) := setPort_other _ _ _

theorem marksOnStart_dlc (s : State) (p : Port) (n : SlotName) : (s.marksOnStart p n).dlc = s.dlc := by cases n <;> rfl

theorem marksOnStart_of_not_advert (s : State) (p : Port) {n : SlotName} (h : ∀ b, n ≠ .advert b) : s.marksOnStart p n = s := by
  cases n with
  | advert b => exact absurd rfl (h b)
  | _ => rfl

theorem transmissionStart_eq {s : State} {p : Port} {n : SlotName} (hready : (s.dlc.ports.get p).tx = .ready)
    (hchoice : (s.dlc.ports.get p).choose (s.adu.ports.get p).gapRunning = some n) :
    exec (.transmissionStart p) s = .next ((s.launched p n).marksOnStart p n) := by
  show execTransmissionStart p s = _
  unfold execTransmissionStart
  dsimp only
  rw [hready, hchoice]
  rfl

theorem transmissionStart_still {s : State} {p : Port}
    (h : (s.dlc.ports.get p).tx ≠ .ready ∨ (s.dlc.ports.get p).choose (s.adu.ports.get p).gapRunning = none) :
    exec (.transmissionStart p) s = .next s := by
  show execTransmissionStart p s = _
  unfold execTransmissionStart
  dsimp only
  split
  · next n hready hchoice =>
    cases h with
    | inl h => exact absurd hready h
    | inr h => exact nomatch h.symm.trans hchoice
  · rfl

/-- Settles O26: the launch changes the chosen slot alone; an ADVERT start clears its marks. -/
theorem transmissionStartSendsTheChoice : Obligations.TransmissionStartSendsTheChoice := by
  intro s p
  refine ⟨transmissionStart_still, fun n hready hchoice => ?_⟩
  refine ⟨_, transmissionStart_eq hready hchoice, ?_⟩
  have hchange := launch_change (s.dlc.ports.get p) (fun b => advertFrameBytes (buildAdvert s b)) n
  dsimp only
  rw [marksOnStart_dlc, launched_port, launched_otherPort]
  have hframe : Frame.only [.dlc] s (s.launched p n) := setPort_frame _ _ _
  refine ⟨rfl, rfl, hchange.others, fun hn w hw => ?_, ?_, ?_⟩
  · rw [marksOnStart_of_not_advert _ _ hn.1, launch_tx_flood _ _ hn, slotBytes_of_unsent hw]
    exact ⟨rfl, (hchange.slot hn).trans (launch_of_unsent hw), hframe⟩
  · rintro rfl w hw
    refine ⟨?_, rfl, rfl, hframe⟩
    show Tx.sending .programme ((s.dlc.ports.get p).programme.head?.elim [] (fun w => w.item.bytes)) = _
    rw [hw]
    rfl
  · rintro k rfl
    have hport := clearMarks_port (s.launched p (.advert k)) p k
    refine ⟨⟨buildAdvert s k, rfl, rfl, rfl, ?_, buildAdvert_entry s k⟩, hchange.block, ?_, ?_, clearMarks_otherPort _ _ _,
      clearMarks_table _ p k, rfl, ?_⟩
    · show ((indices 16).map _).length = 16
      rw [List.length_map]
      rfl
    · exact (congrArg (fun ap : AduPort => ap.urgent[k]) hport).trans (setAt_same _ _ _)
    · exact congrArg AduPort.gapRunning hport
    · exact fun b hb => by cases b <;> first | rfl | exact absurd (by simp) hb

/-! ### Collision of one slot (R75, R79) -/

theorem collide_behind {α : Type} {sl : Slot α} {w x : Held α} (hf : sl.inFlight = some w) (hu : sl.unsent = some x) :
    sl.collide = ({ inFlight := none, unsent := some x }, .abandoned) := by
  unfold Slot.collide
  rw [hf, hu]

theorem collide_alone {α : Type} {sl : Slot α} {w : Held α} (hf : sl.inFlight = some w) (hu : sl.unsent = none) :
    sl.collide = ({ inFlight := none, unsent := (collideHeld w).1 }, (collideHeld w).2) := by
  unfold Slot.collide
  rw [hf, hu]

theorem collideHeld_returned {α : Type} {w : Held α} (h : w.attempts + 1 < 16) :
    collideHeld w = (some { w with attempts := w.attempts + 1 }, .returned (w.attempts + 1)) := if_pos h

theorem collideHeld_dropped {α : Type} {w : Held α} (h : 16 ≤ w.attempts + 1) :
    collideHeld w = (none, .dropped (w.attempts + 1) w.item) := if_neg (Nat.not_lt.2 h)

theorem collideHeld_fst {α : Type} (w : Held α) :
    (collideHeld w).1 = if w.attempts + 1 < 16 then some { w with attempts := w.attempts + 1 } else none := by
  by_cases h : w.attempts + 1 < 16
  · rw [collideHeld_returned h, if_pos h]
  · rw [collideHeld_dropped (Nat.not_lt.1 h), if_neg h]

/-- A held frame that collided is counted: the backoff is formed with its count raised (R77). -/
theorem collisionCount_collideHeld {α : Type} (free : Nat) (w : Held α) : collisionCount free (collideHeld w).2 = w.attempts + 1 := by
  unfold collideHeld
  split <;> rfl

/-! ### What a collision was of -/

theorem collide_what_flood (lp : LinkPort) {n : SlotName} (h : isFloodSlot n) : (lp.collide n).2 = .flooded (lp.floodSlot n).collide.2 := by
  cases n with
  | advert b => exact absurd h (not_isFloodSlot_advert b)
  | programme => exact absurd h not_isFloodSlot_programme
  | _ => rfl

theorem collide_what (lp : LinkPort) {n : SlotName} (h : ∀ b, n ≠ .advert b) : ∃ e, (lp.collide n).2 = .flooded e := by
  cases n with
  | advert b => exact absurd rfl (h b)
  | _ => exact ⟨_, rfl⟩

theorem collide_programme {lp : LinkPort} {w : Held Frame} {rest : List (Held Frame)} (h : lp.programme = w :: rest) :
    lp.collide .programme
      = ({ lp with programme := (collideHeld w).1.toList ++ rest, progInFlight := false }, .flooded (collideHeld w).2) := by
  unfold LinkPort.collide
  rw [h]
  rfl

/-! ### The backoff (R77) -/

theorem txAfter_zero {k : Nat} (h : k = 0) : txAfter k = .ready := if_pos h

theorem txAfter_pos {k : Nat} (h : 0 < k) : txAfter k = .backoff k := if_neg (Nat.ne_of_gt h)

theorem txAfter_backoff (base id count : Nat) :
    txAfter (backoffSlots base id count) = .ready
      ∨ ∃ k, txAfter (backoffSlots base id count) = .backoff k ∧ base ≤ k ∧ k ≤ base + 15 := by
  by_cases h : backoffSlots base id count = 0
  · exact Or.inl (txAfter_zero h)
  · refine Or.inr ⟨_, if_neg h, Nat.le_add_right _ _, ?_⟩
    have := Nat.mod_lt (id * 7 + count * 13) (show 0 < 16 by decide)
    unfold backoffSlots
    omega

/-! ### The state after a collision -/

/-- The state when the line is quiet again: the frame returned, abandoned or removed, the backoff running, nothing told yet. -/
def State.collided (s : State) (p : Port) (n : SlotName) : State :=
  let lp := s.dlc.ports.get p
  (s.setPort p { (lp.collide n).1 with
    tx := txAfter (backoffSlots (classBase n) s.contentionId ((lp.collide n).2.count s.freeCount)) }).spendFree

theorem collision_eq {s : State} {p : Port} {n : SlotName} {bytes : List Byte} (h : (s.dlc.ports.get p).tx = .sending n bytes) :
    exec (.collision p) s = .next ((s.collided p n).afterCollision p ((s.dlc.ports.get p).collide n).2) := by
  show execCollision p s = _
  unfold execCollision
  dsimp only
  rw [h]
  rfl

section
variable (s : State) (p : Port) (n : SlotName)

theorem collided_port : (s.collided p n).dlc.ports.get p = { ((s.dlc.ports.get p).collide n).1 with
    tx := txAfter (backoffSlots (classBase n) s.contentionId (((s.dlc.ports.get p).collide n).2.count s.freeCount)) } :=
  setPort_same _ _ _

theorem collided_otherPort : (s.collided p n).dlc.ports.get (otherPort p) = s.dlc.ports.get (otherPort p) := setPort_other _ _ _

theorem collided_change : SlotChange n (fun sl => sl.collide.1) (fun sl => sl.collide.1) (s.dlc.ports.get p) ((s.collided p n).dlc.ports.get p) := by
  rw [collided_port]
  exact collide_change _ n _

theorem collided_frame : Frame.only [.dlc, .freeCount] s (s.collided p n) :=
  fun b hb => by cases b <;> first | rfl | exact absurd (by simp) hb

theorem collided_tx : ((s.collided p n).dlc.ports.get p).tx = .ready
    ∨ ∃ k, ((s.collided p n).dlc.ports.get p).tx = .backoff k ∧ classBase n ≤ k ∧ k ≤ classBase n + 15 := by
  rw [collided_port]
  exact txAfter_backoff _ _ _

end

theorem afterCollision_fallback {s : State} (h : s.pfl.node = .fallback) (p : Port) (e : CollisionEnd Frame) :
    s.afterCollision p (.flooded e) = s := by
  cases e with
  | dropped _ fr => exact if_pos h
  | _ => rfl

theorem afterCollision_flooded_dlc (s : State) (p : Port) (e : CollisionEnd Frame) : (s.afterCollision p (.flooded e)).dlc = s.dlc := by
  cases e with
  | dropped _ fr => exact State.notice_dlc _ _
  | _ => rfl

theorem afterCollision_flooded_adu (s : State) (p : Port) (e : CollisionEnd Frame) : (s.afterCollision p (.flooded e)).adu = s.adu := by
  cases e with
  | dropped _ fr => exact State.notice_adu _ _
  | _ => rfl

/-- A dropped ADVERT block is told of, and requested again as urgent (R79, R91). -/
theorem afterCollision_advert_dropped (s : State) (p : Port) (b : BlockIx) (a : Nat) (i : Bool) :
    s.afterCollision p (.advert b (.dropped a i))
      = (s.notice (.linkDrop p 1 .attempts s.pfl.profile.nodeId (BitVec.ofNat 16 b.val))).markUrgent p b := rfl

theorem markUrgent_port (s : State) (p : Port) (b : BlockIx) :
    (s.markUrgent p b).dlc.ports.get p = { s.dlc.ports.get p with
      advert := modifyAt (s.dlc.ports.get p).advert b (fun sl => sl.request true s.dlc.stamp) } := PerPort.get_set _ _ _

theorem markUrgent_otherPort (s : State) (p : Port) (b : BlockIx) :
    (s.markUrgent p b).dlc.ports.get (otherPort p) = s.dlc.ports.get (otherPort p) := PerPort.get_set_other _ _ _ _ (otherPort_ne p)

theorem markUrgent_ring (s : State) (p : Port) (b : BlockIx) : (s.markUrgent p b).dlc.ring = s.dlc.ring := rfl

theorem markUrgent_urgent (s : State) (p : Port) (b : BlockIx) : ((s.markUrgent p b).adu.ports.get p).urgent[b] = true :=
  (congrArg (fun ap : AduPort => ap.urgent[b]) (PerPort.get_set _ _ _)).trans (setAt_same _ _ _)

theorem markUrgent_change (s : State) (p : Port) (b : BlockIx) :
    SlotChange (.advert b) id (fun sl => sl.request true s.dlc.stamp) (s.dlc.ports.get p) ((s.markUrgent p b).dlc.ports.get p) := by
  rw [markUrgent_port]
  exact slotChange_advert _ _ _ _ b

theorem otherSlots_trans {n : SlotName} {a b c : LinkPort} (h : otherSlots n a b) (k : otherSlots n b c) : otherSlots n a c := by
  obtain ⟨hf, ha, hp⟩ := h
  obtain ⟨kf, ka, kp⟩ := k
  exact ⟨fun m hm hne => (kf m hm hne).trans (hf m hm hne), fun b hb => (ka b hb).trans (ha b hb),
    fun hn => ⟨(kp hn).1.trans (hp hn).1, (kp hn).2.trans (hp hn).2⟩⟩

theorem otherSlots_refl (n : SlotName) (a : LinkPort) : otherSlots n a a := ⟨fun _ _ _ => rfl, fun _ _ => rfl, fun _ => ⟨rfl, rfl⟩⟩

/-- What follows a collision leaves the other port, relay memory, the transmitter and every slot but the collided one. -/
structure CollisionAfterLeaves (s t : State) (p : Port) (n : SlotName) : Prop where
  otherPort : t.dlc.ports.get (otherPort p) = s.dlc.ports.get (otherPort p)
  ring      : t.dlc.ring = s.dlc.ring
  slots     : otherSlots n (s.dlc.ports.get p) (t.dlc.ports.get p)
  tx        : (t.dlc.ports.get p).tx = (s.dlc.ports.get p).tx
  frame     : Frame.only [.dlc, .hpt, .adu, .freeCount] s t

theorem collisionAfterLeaves_of_dlc {s t : State} (p : Port) (n : SlotName) (h : t.dlc = s.dlc)
    (hf : Frame.only [.dlc, .hpt, .adu, .freeCount] s t) : CollisionAfterLeaves s t p n := by
  refine ⟨?_, ?_, ?_, ?_, hf⟩ <;> rw [h]
  exact otherSlots_refl _ _

theorem afterCollision_frame (s : State) (p : Port) (c : Collided) : Frame.only [.dlc, .hpt, .adu, .freeCount] s (s.afterCollision p c) :=
  ((afterCollision_within s p c).mono (by simp)).same

theorem afterCollision_leaves (s : State) (p : Port) (lp : LinkPort) (n : SlotName) :
    CollisionAfterLeaves s (s.afterCollision p (lp.collide n).2) p n := by
  have hframe := afterCollision_frame s p (lp.collide n).2
  by_cases hn : ∀ b, n ≠ .advert b
  · obtain ⟨e, he⟩ := collide_what lp hn
    exact collisionAfterLeaves_of_dlc p n (he ▸ afterCollision_flooded_dlc s p e) hframe
  · obtain ⟨b, hb⟩ := not_forall.1 hn
    obtain rfl := not_not.1 hb
    cases he : lp.advert[b].collide.2 with
    | dropped a i =>
      have hafter : s.afterCollision p (lp.collide (.advert b)).2 = (s.notice _).markUrgent p b :=
        (congrArg (fun e => s.afterCollision p (.advert b e)) he).trans (afterCollision_advert_dropped s p b a i)
      rw [hafter]
      refine ⟨?_, ?_, ?_, ?_, hafter ▸ hframe⟩
      · exact (markUrgent_otherPort _ p b).trans (by rw [State.notice_dlc])
      · exact (markUrgent_ring _ p b).trans (congrArg Dlc.ring (State.notice_dlc _ _))
      · have hchange := (markUrgent_change (s.notice (.linkDrop p 1 .attempts s.pfl.profile.nodeId (BitVec.ofNat 16 b.val))) p b).others
        rw [State.notice_dlc] at hchange
        exact hchange
      · rw [markUrgent_port, State.notice_dlc]
    | _ => exact collisionAfterLeaves_of_dlc p _ (congrArg (fun e => (s.afterCollision p (.advert b e)).dlc) he) hframe

/-- The transmitter after a counted collision in RUNNING: the backoff of the raised count (R77). -/
theorem collided_tx_count {s : State} {p : Port} {n : SlotName} {a : Nat} (hr : s.pfl.node = .running)
    (ha : ((s.dlc.ports.get p).collide n).2.count s.freeCount = a) :
    let slots := classBase n + (s.pfl.profile.nodeId.toNat * 7 + a * 13) % 16
    (slots = 0 → ((s.collided p n).dlc.ports.get p).tx = .ready)
      ∧ (0 < slots → ((s.collided p n).dlc.ports.get p).tx = .backoff slots) := by
  have hid : s.contentionId = s.pfl.profile.nodeId.toNat := if_neg (by rw [hr]; decide)
  rw [collided_port, ha, hid]
  exact ⟨txAfter_zero, txAfter_pos⟩

theorem only_mono {A B : List Block} {s t : State} (h : Frame.only A s t) (hAB : A ⊆ B) : Frame.only B s t :=
  fun b hb => h b fun ha => hb (hAB ha)

theorem only_trans {touched : List Block} {s t u : State} (h : Frame.only touched s t) (k : Frame.only touched t u) :
    Frame.only touched s u := fun b hb => Same.trans (h b hb) (k b hb)

/-- Every collision: the other port, relay memory and every other slot keep what they hold. -/
theorem collision_leaves (s : State) (p : Port) (n : SlotName) :
    let t := (s.collided p n).afterCollision p ((s.dlc.ports.get p).collide n).2
    t.dlc.ports.get (otherPort p) = s.dlc.ports.get (otherPort p) ∧ t.dlc.ring = s.dlc.ring
      ∧ otherSlots n (s.dlc.ports.get p) (t.dlc.ports.get p) ∧ Frame.only [.dlc, .hpt, .adu, .freeCount] s t := by
  have hafter := afterCollision_leaves (s.collided p n) p (s.dlc.ports.get p) n
  refine ⟨hafter.otherPort.trans (collided_otherPort s p n), hafter.ring, otherSlots_trans (collided_change s p n).others hafter.slots, ?_⟩
  have hcollided : Frame.only [.dlc, .hpt, .adu, .freeCount] s (s.collided p n) := only_mono (collided_frame s p n) (by simp)
  exact only_trans hcollided hafter.frame

theorem collision_fallback {s : State} {p : Port} {n : SlotName} {bytes : List Byte} (hf : s.pfl.node = .fallback)
    (hn : (s.dlc.ports.get p).tx = .sending n bytes) (hna : ∀ k, n ≠ .advert k) : exec (.collision p) s = .next (s.collided p n) := by
  obtain ⟨e, he⟩ := collide_what (s.dlc.ports.get p) hna
  rw [collision_eq hn, he, afterCollision_fallback (s := s.collided p n) hf]

/-- The slot of a flooded frame that collides: a newer frame stays, else the frame returns or is dropped (R75). -/
theorem collide_slot {sl : Slot Frame} {w : Held Frame} (hw : sl.inFlight = some w) :
    (∀ x, sl.unsent = some x → sl.collide.1 = { inFlight := none, unsent := some x })
      ∧ (sl.unsent = none → sl.collide.1
          = { inFlight := none, unsent := if w.attempts + 1 < 16 then some { w with attempts := w.attempts + 1 } else none }) := by
  refine ⟨fun x hx => ?_, fun hu => ?_⟩
  · rw [collide_behind hw hx]
  · rw [collide_alone hw hu, collideHeld_fst]

theorem collided_programme {s : State} {p : Port} {w : Held Frame} {rest : List (Held Frame)}
    (h : (s.dlc.ports.get p).programme = w :: rest) :
    ((s.collided p .programme).dlc.ports.get p).progInFlight = false
      ∧ ((s.collided p .programme).dlc.ports.get p).programme
        = if w.attempts + 1 < 16 then { w with attempts := w.attempts + 1 } :: rest else rest := by
  rw [collided_port, collide_programme h, collideHeld_fst]
  refine ⟨rfl, ?_⟩
  by_cases hw : w.attempts + 1 < 16
  · rw [if_pos hw, if_pos hw]
    rfl
  · rw [if_neg hw, if_neg hw]
    rfl

/-- A frame returned is told to nobody; a frame dropped is a LINK_DROP notice (R79). -/
theorem afterCollision_flooded_hpt {s : State} (hr : s.pfl.node = .running) (p : Port) (w : Held Frame) :
    (w.attempts + 1 < 16 → (s.afterCollision p (.flooded (collideHeld w).2)).hpt = s.hpt)
      ∧ (16 ≤ w.attempts + 1 →
          (s.afterCollision p (.flooded (collideHeld w).2)).hpt = s.hpt.takeNotice (dropNotice p .attempts w.item)) := by
  refine ⟨fun h => ?_, fun h => ?_⟩
  · rw [collideHeld_returned h]
    rfl
  · rw [collideHeld_dropped h]
    exact notice_hpt (by unfold State.running; rw [hr]; rfl) _

/-- A request made of an empty slot. -/
theorem request_of_unsent_none {sl : Slot Bool} (hf : sl.inFlight = none) (hu : sl.unsent = none) (fresh : Nat) :
    sl.request true fresh = { inFlight := none, unsent := some { item := true, attempts := 0, pos := fresh } } := by
  obtain ⟨f, u⟩ := sl
  subst hf hu
  rfl

theorem collide_what_advert {lp : LinkPort} {k : BlockIx} {c : Slot Bool × CollisionEnd Bool} (h : lp.advert[k].collide = c) :
    (lp.collide (.advert k)).2 = .advert k c.2 := congrArg (fun c : Slot Bool × CollisionEnd Bool => Collided.advert k c.2) h

section
variable {s : State} {p : Port} {n : SlotName}

theorem collision_flood_behind {w x : Held Frame} (hn : isFloodSlot n) (hw : ((s.dlc.ports.get p).floodSlot n).inFlight = some w)
    (hx : ((s.dlc.ports.get p).floodSlot n).unsent = some x) :
    let t := (s.collided p n).afterCollision p ((s.dlc.ports.get p).collide n).2
    (t.dlc.ports.get p).floodSlot n = { inFlight := none, unsent := some x } ∧ t.hpt = s.hpt ∧ t.adu = s.adu
      ∧ ((t.dlc.ports.get p).tx = .ready
        ∨ ∃ k, (t.dlc.ports.get p).tx = .backoff k ∧ classBase n ≤ k ∧ k ≤ classBase n + 15) := by
  rw [collide_what_flood _ hn, collide_behind hw hx]
  exact ⟨((collided_change s p n).slot hn).trans ((collide_slot hw).1 x hx), rfl, rfl, collided_tx s p n⟩

theorem collision_advert_behind {k : BlockIx} {w x : Held Bool} (hw : (s.dlc.ports.get p).advert[k].inFlight = some w)
    (hx : (s.dlc.ports.get p).advert[k].unsent = some x) :
    let t := (s.collided p (.advert k)).afterCollision p ((s.dlc.ports.get p).collide (.advert k)).2
    (t.dlc.ports.get p).advert[k] = { inFlight := none, unsent := some x } ∧ t.hpt = s.hpt ∧ t.adu = s.adu := by
  have hwhat : ((s.dlc.ports.get p).collide (.advert k)).2 = .advert k .abandoned :=
    collide_what_advert (collide_behind hw hx)
  rw [hwhat]
  exact ⟨(collided_change s p (.advert k)).block.trans (congrArg Prod.fst (collide_behind hw hx)), rfl, rfl⟩

section
variable (hr : s.pfl.node = .running)
include hr

theorem collision_flood_alone {w : Held Frame} (hn : isFloodSlot n) (hw : ((s.dlc.ports.get p).floodSlot n).inFlight = some w)
    (hu : ((s.dlc.ports.get p).floodSlot n).unsent = none) :
    let t := (s.collided p n).afterCollision p ((s.dlc.ports.get p).collide n).2
    let slots := classBase n + (s.pfl.profile.nodeId.toNat * 7 + (w.attempts + 1) * 13) % 16
    ((slots = 0 → (t.dlc.ports.get p).tx = .ready) ∧ (0 < slots → (t.dlc.ports.get p).tx = .backoff slots)) ∧ t.adu = s.adu
      ∧ (w.attempts + 1 < 16 →
          (t.dlc.ports.get p).floodSlot n = { inFlight := none, unsent := some { w with attempts := w.attempts + 1 } } ∧ t.hpt = s.hpt)
      ∧ (16 ≤ w.attempts + 1 → (t.dlc.ports.get p).floodSlot n = { inFlight := none, unsent := none }
          ∧ t.hpt = s.hpt.takeNotice (dropNotice p .attempts w.item)) := by
  have hwhat : ((s.dlc.ports.get p).collide n).2 = .flooded (collideHeld w).2 := by
    rw [collide_what_flood _ hn, collide_alone hw hu]
  have hslot := ((collided_change s p n).slot hn).trans ((collide_slot hw).2 hu)
  have htx := collided_tx_count (a := w.attempts + 1) hr (by rw [hwhat]; exact collisionCount_collideHeld _ w)
  have hhpt := afterCollision_flooded_hpt (s := s.collided p n) hr p w
  dsimp only
  rw [hwhat, afterCollision_flooded_dlc, hslot]
  refine ⟨htx, afterCollision_flooded_adu _ _ _, fun h => ⟨by rw [if_pos h], hhpt.1 h⟩, fun h => ⟨by rw [if_neg (Nat.not_lt.2 h)], hhpt.2 h⟩⟩

theorem collision_programme {w : Held Frame} {rest : List (Held Frame)} (hq : (s.dlc.ports.get p).programme = w :: rest) :
    let t := (s.collided p .programme).afterCollision p ((s.dlc.ports.get p).collide .programme).2
    let slots := classBase .programme + (s.pfl.profile.nodeId.toNat * 7 + (w.attempts + 1) * 13) % 16
    ((slots = 0 → (t.dlc.ports.get p).tx = .ready) ∧ (0 < slots → (t.dlc.ports.get p).tx = .backoff slots))
      ∧ (t.dlc.ports.get p).progInFlight = false ∧ t.adu = s.adu
      ∧ (w.attempts + 1 < 16 →
          (t.dlc.ports.get p).programme = { w with attempts := w.attempts + 1 } :: rest ∧ t.hpt = s.hpt)
      ∧ (16 ≤ w.attempts + 1 →
          (t.dlc.ports.get p).programme = rest ∧ t.hpt = s.hpt.takeNotice (dropNotice p .attempts w.item)) := by
  have hwhat : ((s.dlc.ports.get p).collide .programme).2 = .flooded (collideHeld w).2 := by rw [collide_programme hq]
  have hqueue := collided_programme hq
  have htx := collided_tx_count (a := w.attempts + 1) hr (by rw [hwhat]; exact collisionCount_collideHeld _ w)
  have hhpt := afterCollision_flooded_hpt (s := s.collided p .programme) hr p w
  dsimp only
  rw [hwhat, afterCollision_flooded_dlc, hqueue.2]
  exact ⟨htx, hqueue.1, afterCollision_flooded_adu _ _ _, fun h => ⟨if_pos h, hhpt.1 h⟩, fun h => ⟨if_neg (Nat.not_lt.2 h), hhpt.2 h⟩⟩

theorem collision_advert_alone {k : BlockIx} {w : Held Bool} (hw : (s.dlc.ports.get p).advert[k].inFlight = some w)
    (hu : (s.dlc.ports.get p).advert[k].unsent = none) :
    let t := (s.collided p (.advert k)).afterCollision p ((s.dlc.ports.get p).collide (.advert k)).2
    let slots := classBase (.advert k) + (s.pfl.profile.nodeId.toNat * 7 + (w.attempts + 1) * 13) % 16
    ((slots = 0 → (t.dlc.ports.get p).tx = .ready) ∧ (0 < slots → (t.dlc.ports.get p).tx = .backoff slots))
      ∧ (w.attempts + 1 < 16 → t.hpt = s.hpt ∧ t.adu = s.adu
          ∧ (t.dlc.ports.get p).advert[k] = { inFlight := none, unsent := some { w with attempts := w.attempts + 1 } })
      ∧ (16 ≤ w.attempts + 1 → (t.adu.ports.get p).urgent[k] = true
          ∧ (∃ x, (t.dlc.ports.get p).advert[k] = { inFlight := none, unsent := some { item := true, attempts := 0, pos := x } })
          ∧ t.hpt = s.hpt.takeNotice (.linkDrop p 1 .attempts s.pfl.profile.nodeId (BitVec.ofNat 16 k.val))) := by
  have hcollide := collide_alone hw hu
  have hwhat : ((s.dlc.ports.get p).collide (.advert k)).2 = .advert k (collideHeld w).2 :=
    collide_what_advert hcollide
  have hslot : ((s.collided p (.advert k)).dlc.ports.get p).advert[k] = { inFlight := none, unsent := (collideHeld w).1 } :=
    (collided_change s p (.advert k)).block.trans (congrArg Prod.fst hcollide)
  have htx := collided_tx_count (a := w.attempts + 1) hr (by rw [hwhat]; exact collisionCount_collideHeld _ w)
  have hleaves := afterCollision_leaves (s.collided p (.advert k)) p (s.dlc.ports.get p) (.advert k)
  refine ⟨by rw [hleaves.tx]; exact htx, fun h => ?_, fun h => ?_⟩
  · rw [hwhat, collideHeld_returned h]
    rw [collideHeld_returned h] at hslot
    exact ⟨rfl, rfl, hslot⟩
  · rw [collideHeld_dropped h] at hwhat hslot
    rw [hwhat, afterCollision_advert_dropped]
    refine ⟨markUrgent_urgent _ p k, ⟨s.dlc.stamp, ?_⟩, notice_hpt (by unfold State.running; exact beq_iff_eq.2 hr) _⟩
    refine (markUrgent_change _ p k).block.trans ?_
    rw [State.notice_dlc, hslot]
    exact request_of_unsent_none rfl rfl _

end

end

/-- Settles O27: the collided slot, the backoff, and what follows of a drop. -/
theorem collisionReturnsAbandonsOrDrops : Obligations.CollisionReturnsAbandonsOrDrops := by
  refine ⟨⟨rfl, fun _ => rfl, fun _ => rfl, rfl, fun _ => rfl, rfl⟩, fun s p n bytes hf hn hna => ?_, fun s p n bytes hr hn => ?_⟩
  · refine ⟨_, collision_fallback hf hn hna, collided_otherPort s p n, rfl, (collided_change s p n).others, collided_frame s p n,
      collided_tx s p n, fun hflood w hw => ?_, ?_⟩
    · rw [(collided_change s p n).slot hflood]
      exact collide_slot hw
    · rintro rfl w rest hq
      exact collided_programme hq
  · obtain ⟨hother, hring, hslots, hframe⟩ := collision_leaves s p n
    refine ⟨_, collision_eq hn, hother, hring, hslots, hframe, fun hflood => ⟨fun w x => ?_, fun w => ?_⟩, ?_, ?_⟩
    · exact collision_flood_behind hflood
    · exact collision_flood_alone hr hflood
    · rintro rfl w rest
      exact collision_programme hr
    · rintro k rfl
      exact ⟨fun w x => collision_advert_behind, fun w => collision_advert_alone hr⟩

end Sys2Proof.Machine
end

section
/-! PROOFS. The Deck Link Controller's placing of a frame (03): R72, R73, R75. -/

namespace Sys2Proof.Machine

/-! ### Placing in one slot and in the PROGRAMME queue (R72, R73, R75) -/

theorem position_of_unsent {α : Type} {sl : Slot α} {w : Held α} (h : sl.unsent = some w) (fresh : Nat) : sl.position fresh = w.pos := by
  unfold Slot.position
  rw [h]

theorem position_of_inFlight {α : Type} {sl : Slot α} {w : Held α} (hu : sl.unsent = none) (hf : sl.inFlight = some w) (fresh : Nat) :
    sl.position fresh = w.pos := by
  unfold Slot.position
  rw [hu, hf]

theorem position_of_vacant {α : Type} {sl : Slot α} (hu : sl.unsent = none) (hf : sl.inFlight = none) (fresh : Nat) :
    sl.position fresh = fresh := by
  unfold Slot.position
  rw [hu, hf]

theorem placeQueue_of_room {q : List (Held Frame)} (h : q.length < 8) (flying : Bool) (fr : Frame) (fresh : Nat) :
    placeQueue q flying fr fresh = (q ++ [{ item := fr, attempts := 0, pos := fresh }], none) := if_pos h

theorem placeQueue_full_quiet {h : Held Frame} {rest : List (Held Frame)} (hq : (h :: rest).length = 8) (fr : Frame) (fresh : Nat) :
    placeQueue (h :: rest) false fr fresh = (rest ++ [{ item := fr, attempts := 0, pos := fresh }], some h.item) := by
  have hfull : ¬ (h :: rest).length < Config.programmeQueueCapacity := by rw [hq]; decide
  exact (if_neg hfull).trans (by cases rest <;> rfl)

theorem placeQueue_full_flying {h o : Held Frame} {rest : List (Held Frame)} (hq : (h :: o :: rest).length = 8) (fr : Frame) (fresh : Nat) :
    placeQueue (h :: o :: rest) true fr fresh = (h :: rest ++ [{ item := fr, attempts := 0, pos := fresh }], some o.item) := by
  have hfull : ¬ (h :: o :: rest).length < Config.programmeQueueCapacity := by rw [hq]; decide
  exact if_neg hfull

/-! ### Placing in the CONDITION relay slots (R72 note 1, R73) -/

theorem find_indices_some {n : Nat} {q : Fin n → Bool} (h : ∃ i, q i = true) : ∃ i, (indices n).find? q = some i ∧ q i = true := by
  obtain ⟨i, hi⟩ := h
  cases hf : (indices n).find? q with
  | none => exact absurd hi (List.find?_eq_none.1 hf i (mem_indices i))
  | some j => exact ⟨j, rfl, List.find?_some hf⟩

theorem find_indices_none {n : Nat} {q : Fin n → Bool} (h : ∀ i, q i = false) : (indices n).find? q = none :=
  List.find?_eq_none.2 fun i _ hi => Bool.noConfusion ((h i).symm.trans hi)

theorem sameCondition_comm (c d : ConditionBody) :
    sameCondition c d = (d.origin == c.origin && ((d.end1 == c.end1 && d.end2 == c.end2) || (d.end1 == c.end2 && d.end2 == c.end1))) := by
  unfold sameCondition
  rw [Bool.beq_comm (a := c.origin), Bool.beq_comm (a := c.end1), Bool.beq_comm (a := c.end2), Bool.beq_comm (a := c.end1) (b := d.end2),
    Bool.beq_comm (a := c.end2), Bool.and_comm (d.end2 == c.end1)]

/-- The CONDITION held is one of the same origin between the same endpoints. -/
theorem heldSame_eq (c : ConditionBody) (w : Option (Held Frame)) :
    heldSame c w = w.any (fun h => match h.item.body with
      | .condition d => d.origin == c.origin && ((d.end1 == c.end1 && d.end2 == c.end2) || (d.end1 == c.end2 && d.end2 == c.end1))
      | _ => false) := by
  cases w with
  | none => rfl
  | some h =>
    obtain ⟨⟨hop, sender, body⟩, attempts, pos⟩ := h
    cases body with
    | condition d => exact sameCondition_comm c d
    | _ => rfl

theorem isVacant_iff {α : Type} (sl : Slot α) : sl.isVacant = true ↔ sl = Slot.vacant := by
  obtain ⟨f, u⟩ := sl
  cases f <;> cases u <;> simp [Slot.isVacant, Slot.vacant]

section
variable (v : Vector (Slot Frame) 4) (c : ConditionBody) (fr : Frame) (fresh : Nat)

theorem placeRelay_of_slot {i : Fin 4} (h : relaySlotFor v c = some i) :
    placeRelay v c fr fresh = (setAt v i (v[i].place fr fresh), none) := by
  unfold placeRelay
  rw [h]
  rfl

theorem placeRelay_full (h : relaySlotFor v c = none) :
    placeRelay v c fr fresh = (setAt v (longestUnsent v) (({ v[longestUnsent v] with unsent := none } : Slot Frame).place fr fresh),
      v[longestUnsent v].unsent.map (·.item)) := by
  unfold placeRelay
  rw [h]
  rfl

/-- An unsent frame of the same identity is replaced. -/
theorem relaySlotFor_unsent (h : ∃ i : Fin 4, heldSame c v[i].unsent = true) :
    ∃ i : Fin 4, heldSame c v[i].unsent = true ∧ relaySlotFor v c = some i := by
  obtain ⟨i, hi, hsame⟩ := find_indices_some h
  refine ⟨i, hsame, ?_⟩
  unfold relaySlotFor
  rw [hi]
  rfl

theorem relaySlotFor_behind (hun : ∀ i : Fin 4, heldSame c v[i].unsent = false) (h : ∃ i : Fin 4, v[i].unsent = none ∧ heldSame c v[i].inFlight = true) :
    ∃ i : Fin 4, v[i].unsent = none ∧ heldSame c v[i].inFlight = true ∧ relaySlotFor v c = some i := by
  obtain ⟨i, hi, hsame⟩ := find_indices_some (q := fun i => v[i].unsent.isNone && heldSame c v[i].inFlight)
    (h.imp fun i hi => by rw [hi.1, hi.2]; rfl)
  obtain ⟨hnone, hflight⟩ := Bool.and_eq_true_iff.1 hsame
  refine ⟨i, Option.isNone_iff_eq_none.1 hnone, hflight, ?_⟩
  unfold relaySlotFor
  rw [find_indices_none hun, hi]
  rfl

variable (hfl : ∀ i : Fin 4, v[i].unsent = none → heldSame c v[i].inFlight = false)
include hfl

theorem find_behind_none : (indices 4).find? (fun i => v[i].unsent.isNone && heldSame c v[i].inFlight) = none := by
  refine find_indices_none fun i => ?_
  cases hu : v[i].unsent with
  | none => exact hfl i hu
  | some w => rfl

variable (hun : ∀ i : Fin 4, heldSame c v[i].unsent = false)
include hun

theorem relaySlotFor_vacant (h : ∃ i : Fin 4, v[i] = Slot.vacant) : ∃ i : Fin 4, v[i] = Slot.vacant ∧ relaySlotFor v c = some i := by
  obtain ⟨i, hi, hvacant⟩ := find_indices_some (q := fun i => v[i].isVacant) (h.imp fun i hi => (isVacant_iff _).2 hi)
  refine ⟨i, (isVacant_iff _).1 hvacant, ?_⟩
  unfold relaySlotFor
  rw [find_indices_none hun, find_behind_none v c hfl, hi]
  rfl

theorem relaySlotFor_full (h : ∀ i : Fin 4, v[i].unsent.isSome = true) : relaySlotFor v c = none := by
  have hnone : ∀ i : Fin 4, v[i].unsent.isNone = false := fun i => by
    rw [← Option.not_isSome, h i]
    rfl
  have hvacant : ∀ i : Fin 4, v[i].isVacant = false := fun i => by
    unfold Slot.isVacant
    rw [hnone i]
    rfl
  unfold relaySlotFor
  rw [find_indices_none hun, find_behind_none v c hfl, find_indices_none hvacant, find_indices_none hnone]
  rfl

end

theorem olderUnsent_eq {v : Vector (Slot Frame) 4} {i j : Fin 4} {a b : Held Frame} (ha : v[i].unsent = some a) (hb : v[j].unsent = some b) :
    olderUnsent v i j = if b.pos < a.pos then j else i := by
  unfold olderUnsent
  rw [ha, hb]

/-- The older of two unsent frames. -/
theorem olderUnsent_le {v : Vector (Slot Frame) 4} {i j : Fin 4} {a b : Held Frame} (ha : v[i].unsent = some a) (hb : v[j].unsent = some b) :
    ∃ w, v[olderUnsent v i j].unsent = some w ∧ w.pos ≤ a.pos ∧ w.pos ≤ b.pos := by
  have holder := olderUnsent_eq ha hb
  by_cases h : b.pos < a.pos
  · rw [if_pos h] at holder
    simp only [holder]
    exact ⟨b, hb, Nat.le_of_lt h, Nat.le_refl _⟩
  · rw [if_neg h] at holder
    simp only [holder]
    exact ⟨a, ha, Nat.le_refl _, Nat.le_of_not_lt h⟩

theorem foldl_olderUnsent_le {v : Vector (Slot Frame) 4} (hall : ∀ i : Fin 4, v[i].unsent.isSome = true) (l : List (Fin 4)) :
    ∀ (i : Fin 4) (a : Held Frame), v[i].unsent = some a → ∃ w, v[l.foldl (olderUnsent v) i].unsent = some w ∧ w.pos ≤ a.pos
      ∧ ∀ j ∈ l, ∀ x, v[j].unsent = some x → w.pos ≤ x.pos := by
  induction l with
  | nil => exact fun i a ha => ⟨a, ha, Nat.le_refl _, fun _ hj => absurd hj List.not_mem_nil⟩
  | cons k l ih =>
    intro i a ha
    obtain ⟨b, hb⟩ := Option.isSome_iff_exists.1 (hall k)
    obtain ⟨u, hu, hua, hub⟩ := olderUnsent_le ha hb
    obtain ⟨w, hw, hwu, hrest⟩ := ih _ u hu
    refine ⟨w, hw, hwu.trans hua, fun j hj x hx => ?_⟩
    cases List.mem_cons.1 hj with
    | inl hjk =>
      subst hjk
      obtain rfl := Option.some.inj (hb.symm.trans hx)
      exact hwu.trans hub
    | inr hjl => exact hrest j hjl x hx

theorem longestUnsent_le {v : Vector (Slot Frame) 4} (hall : ∀ i : Fin 4, v[i].unsent.isSome = true) :
    ∃ w, v[longestUnsent v].unsent = some w ∧ ∀ (j : Fin 4) (x : Held Frame), v[j].unsent = some x → w.pos ≤ x.pos := by
  obtain ⟨a, ha⟩ := Option.isSome_iff_exists.1 (hall 0)
  obtain ⟨w, hw, _, hrest⟩ := foldl_olderUnsent_le hall (indices 4) 0 a ha
  exact ⟨w, hw, fun j => hrest j (mem_indices j)⟩

/-- The places a CONDITION takes in the relay slots, by any test that holds exactly of a frame of its identity. -/
theorem placeRelay_cases (v : Vector (Slot Frame) 4) (c : ConditionBody) (fr : Frame) (fresh : Nat) {same : Option (Held Frame) → Bool}
    (hs : ∀ w, heldSame c w = same w) :
    ((∃ i : Fin 4, same v[i].unsent = true)
      → ∃ i : Fin 4, same v[i].unsent = true ∧ placeRelay v c fr fresh = (setAt v i (v[i].place fr fresh), none))
    ∧ ((∀ i : Fin 4, same v[i].unsent = false) →
      ((∃ i : Fin 4, v[i].unsent = none ∧ same v[i].inFlight = true) →
        ∃ i : Fin 4, v[i].unsent = none ∧ same v[i].inFlight = true
          ∧ placeRelay v c fr fresh = (setAt v i (v[i].place fr fresh), none))
      ∧ ((∀ i : Fin 4, v[i].unsent = none → same v[i].inFlight = false) →
        ((∃ i : Fin 4, v[i] = Slot.vacant)
          → ∃ i : Fin 4, v[i] = Slot.vacant ∧ placeRelay v c fr fresh = (setAt v i (v[i].place fr fresh), none))
        ∧ ((∀ i : Fin 4, v[i].unsent.isSome = true) →
          ∃ (i : Fin 4) (w : Held Frame), v[i].unsent = some w
            ∧ (∀ (j : Fin 4) (x : Held Frame), v[j].unsent = some x → w.pos ≤ x.pos)
            ∧ (placeRelay v c fr fresh).2 = some w.item
            ∧ (∀ j : Fin 4, j ≠ i → (placeRelay v c fr fresh).1[j] = v[j])
            ∧ ((placeRelay v c fr fresh).1[i].unsent.map (·.item)) = some fr))) := by
  obtain rfl : heldSame c = same := funext hs
  refine ⟨fun h => ?_, fun hun => ⟨fun h => ?_, fun hfl => ⟨fun h => ?_, fun hall => ?_⟩⟩⟩
  · obtain ⟨i, hi, hslot⟩ := relaySlotFor_unsent v c h
    exact ⟨i, hi, placeRelay_of_slot v c fr fresh hslot⟩
  · obtain ⟨i, hi, hsame, hslot⟩ := relaySlotFor_behind v c hun h
    exact ⟨i, hi, hsame, placeRelay_of_slot v c fr fresh hslot⟩
  · obtain ⟨i, hi, hslot⟩ := relaySlotFor_vacant v c hfl hun h
    exact ⟨i, hi, placeRelay_of_slot v c fr fresh hslot⟩
  · obtain ⟨w, hw, hle⟩ := longestUnsent_le hall
    refine ⟨longestUnsent v, w, hw, hle, ?_⟩
    rw [placeRelay_full v c fr fresh (relaySlotFor_full v c hfl hun hall)]
    refine ⟨congrArg (Option.map _) hw, fun j hj => setAt_other _ _ _ _ hj.symm, ?_⟩
    exact congrArg (fun sl : Slot Frame => sl.unsent.map (·.item)) (setAt_same _ _ _)

/-- Settles O24: one slot, the PROGRAMME queue, and the relay slots by the four places a CONDITION may go. -/
theorem placingReplacesWaitsOrDisplaces : Obligations.PlacingReplacesWaitsOrDisplaces := by
  refine ⟨fun sl fr fresh => ⟨rfl, fun w hw => ?_, fun w hu hf => ?_, fun hu hf => ?_⟩, fun q flying fr fresh => ⟨?_, fun hq h hh => ?_⟩,
    fun v c fr fresh => ?_⟩
  · exact congrArg (fun n => some _) (position_of_unsent hw fresh)
  · exact congrArg (fun n => some _) (position_of_inFlight hu hf fresh)
  · exact congrArg (fun n => some _) (position_of_vacant hu hf fresh)
  · exact fun hq => placeQueue_of_room hq flying fr fresh
  · obtain ⟨rest, rfl⟩ : ∃ rest, q = h :: rest := ⟨q.tail, List.eq_cons_of_mem_head? hh⟩
    refine ⟨?_, ?_⟩
    · rintro rfl
      exact placeQueue_full_quiet hq fr fresh
    · rintro rfl o ho
      obtain ⟨more, rfl⟩ : ∃ more, rest = o :: more := ⟨rest.tail, List.eq_cons_of_mem_head? ho⟩
      exact placeQueue_full_flying hq fr fresh
  · exact placeRelay_cases v c fr fresh (heldSame_eq c)

end Sys2Proof.Machine
end

section
/-! PROOFS. The Deck Link Controller's transmit choice (03): R74, R76, R89. -/

namespace Sys2Proof.Machine

/-! ### The longest waiting of some slots -/

/-- The best so far is the longest waiting of those seen. -/
def IsLongest (seen : List (SlotName × Nat)) (best : Option (SlotName × Nat)) : Prop :=
  (best = none → seen = []) ∧ ∀ b, best = some b → b ∈ seen ∧ ∀ c ∈ seen, b.2 ≤ c.2

theorem longerWaiting_isLongest {seen : List (SlotName × Nat)} {best : Option (SlotName × Nat)} (h : IsLongest seen best) (c : SlotName × Nat) :
    IsLongest (seen ++ [c]) (longerWaiting best c) := by
  cases best with
  | none =>
    have hseen := h.1 rfl
    subst hseen
    refine ⟨nofun, fun b hb => ?_⟩
    obtain rfl := Option.some.inj hb
    exact ⟨List.mem_singleton_self _, fun c hc => by rw [List.eq_of_mem_singleton hc]⟩
  | some b =>
    obtain ⟨hmem, hle⟩ := h.2 b rfl
    have hlonger : longerWaiting (some b) c = if c.2 < b.2 then some c else some b := rfl
    by_cases hc : c.2 < b.2
    · rw [hlonger, if_pos hc]
      refine ⟨nofun, fun d hd => ?_⟩
      obtain rfl := Option.some.inj hd
      refine ⟨List.mem_append_right _ (List.mem_singleton_self _), fun e he => ?_⟩
      cases List.mem_append.1 he with
      | inl he => exact (Nat.le_of_lt hc).trans (hle e he)
      | inr he => rw [List.eq_of_mem_singleton he]
    · rw [hlonger, if_neg hc]
      refine ⟨nofun, fun d hd => ?_⟩
      obtain rfl := Option.some.inj hd
      refine ⟨List.mem_append_left _ hmem, fun e he => ?_⟩
      cases List.mem_append.1 he with
      | inl he => exact hle e he
      | inr he => rw [List.eq_of_mem_singleton he]; exact Nat.le_of_not_lt hc

theorem foldl_longerWaiting_isLongest (l : List (SlotName × Nat)) : ∀ (seen : List (SlotName × Nat)) (best : Option (SlotName × Nat)),
    IsLongest seen best → IsLongest (seen ++ l) (l.foldl longerWaiting best) := by
  induction l with
  | nil => exact fun seen best h => (List.append_nil seen).symm ▸ h
  | cons c l ih =>
    intro seen best h
    rw [List.append_cons]
    exact ih _ _ (longerWaiting_isLongest h c)

theorem longestWaiting_eq_none {cs : List (Option (SlotName × Nat))} (h : longestWaiting cs = none) (m : SlotName) (y : Nat) :
    some (m, y) ∉ cs := by
  intro hmem
  have hlongest := foldl_longerWaiting_isLongest (cs.filterMap id) [] none ⟨fun _ => rfl, nofun⟩
  have hnil := hlongest.1 (Option.map_eq_none_iff.1 h)
  have hseen : (m, y) ∈ cs.filterMap id := List.mem_filterMap.2 ⟨_, hmem, rfl⟩
  rw [show cs.filterMap id = [] from hnil] at hseen
  exact absurd hseen List.not_mem_nil

theorem longestWaiting_eq_some {cs : List (Option (SlotName × Nat))} {n : SlotName} (h : longestWaiting cs = some n) :
    ∃ x, some (n, x) ∈ cs ∧ ∀ m y, some (m, y) ∈ cs → x ≤ y := by
  have hlongest := foldl_longerWaiting_isLongest (cs.filterMap id) [] none ⟨fun _ => rfl, nofun⟩
  obtain ⟨⟨m, x⟩, hb, rfl⟩ := Option.map_eq_some_iff.1 h
  obtain ⟨hmem, hle⟩ := hlongest.2 _ hb
  rw [List.nil_append] at hmem hle
  obtain ⟨a, ha, rfl⟩ := List.mem_filterMap.1 hmem
  exact ⟨x, ha, fun m y hm => hle (m, y) (List.mem_filterMap.2 ⟨_, hm, rfl⟩)⟩

/-! ### The choice among the slots of one row, and of the rows from one on -/

/-- Of two slots of one row, the one chosen: the longest waiting in rows 2 and 6, the lowest block in row 4 (R76). -/
def goesFirst (lp : LinkPort) (n m : SlotName) : Prop :=
  (lp.row n = 2 ∨ lp.row n = 6 → ∀ x y, lp.eligiblePos n = some x → lp.eligiblePos m = some y → x ≤ y)
  ∧ (lp.row n = 4 → ∀ b c, n = .advert b → m = .advert c → b ≤ c)

/-- The choice among the slots of one row. -/
structure RowChoice (lp : LinkPort) (gap : Bool) (r : Nat) (o : Option SlotName) : Prop where
  none : o = none → ∀ m, lp.row m = r → ¬ lp.maySend gap m
  some : ∀ n, o = some n → lp.row n = r ∧ lp.maySend gap n ∧ ∀ m, lp.row m = r → lp.maySend gap m → goesFirst lp n m

/-- The choice among the slots of a row and those below it in the table. -/
structure RowsFrom (lp : LinkPort) (gap : Bool) (r : Nat) (o : Option SlotName) : Prop where
  none : o = none → ∀ m, r ≤ lp.row m → ¬ lp.maySend gap m
  some : ∀ n, o = some n → r ≤ lp.row n ∧ lp.maySend gap n
    ∧ ∀ m, r ≤ lp.row m → lp.maySend gap m → lp.row n ≤ lp.row m ∧ (lp.row m = lp.row n → goesFirst lp n m)

section
variable {lp : LinkPort} {gap : Bool}

@[simp] theorem row_alarm : lp.row .alarm = 1 := rfl
@[simp] theorem row_condLeg (l : LegIx) : lp.row (.condLeg l) = 2 := rfl
@[simp] theorem row_condRelay (i : Fin 4) : lp.row (.condRelay i) = 2 := rfl
@[simp] theorem row_clock : lp.row .clock = 3 := rfl
@[simp] theorem row_programme : lp.row .programme = 5 := rfl

theorem row_advert (lp : LinkPort) (b : BlockIx) : lp.row (.advert b) = 4 ∨ lp.row (.advert b) = 6 := by
  show (if _ then 4 else 6) = 4 ∨ (if _ then 4 else 6) = 6
  split <;> simp

theorem row_range (lp : LinkPort) (n : SlotName) : 1 ≤ lp.row n ∧ lp.row n ≤ 6 := by
  cases n with
  | advert b => have := row_advert lp b; omega
  | _ => simp

theorem RowsFrom.last (h : RowChoice lp gap 6 o) : RowsFrom lp gap 6 o where
  none ho m hm := h.none ho m (Nat.le_antisymm (row_range lp m).2 hm)
  some n ho := by
    obtain ⟨hr, hsend, hfirst⟩ := h.some n ho
    exact ⟨hr.ge, hsend, fun m hm hs => ⟨hr.trans_le hm, fun e => hfirst m (e.trans hr) hs⟩⟩

/-- The choice of the first row that has one. -/
theorem RowsFrom.cons {r : Nat} {o o' : Option SlotName} (h : RowChoice lp gap r o) (h' : RowsFrom lp gap (r + 1) o') :
    RowsFrom lp gap r (o <|> o') := by
  cases o with
  | none =>
    refine ⟨fun ho m hm => ?_, fun n ho => ?_⟩
    · by_cases e : lp.row m = r
      · exact h.none rfl m e
      · exact h'.none ho m (Nat.lt_of_le_of_ne hm (Ne.symm e))
    · obtain ⟨hr, hsend, hrest⟩ := h'.some n ho
      refine ⟨Nat.le_of_succ_le hr, hsend, fun m hm hs => ?_⟩
      exact hrest m (Nat.lt_of_le_of_ne hm (fun e => h.none rfl m e.symm hs)) hs
  | some k =>
    refine ⟨nofun, fun n ho => ?_⟩
    obtain rfl := Option.some.inj ho
    obtain ⟨hr, hsend, hfirst⟩ := h.some k rfl
    exact ⟨hr.ge, hsend, fun m hm hs => ⟨hr.trans_le hm, fun e => hfirst m (e.trans hr) hs⟩⟩

/-! ### The six rows (R76) -/

theorem maySend_of_row {n : SlotName} (h : lp.row n ≠ 4) : lp.maySend gap n ↔ (lp.eligiblePos n).isSome = true :=
  and_iff_left fun h4 => h h4.1

theorem goesFirst_of_row {n : SlotName} (h2 : lp.row n ≠ 2) (h4 : lp.row n ≠ 4) (h6 : lp.row n ≠ 6) (m : SlotName) : goesFirst lp n m :=
  ⟨fun h => h.elim (absurd · h2) (absurd · h6), fun h => absurd h h4⟩

/-- A row of one slot. -/
theorem rowChoice_single {n : SlotName} {r : Nat} (hr : lp.row n = r) (honly : ∀ m, lp.row m = r → m = n) (h2 : r ≠ 2) (h4 : r ≠ 4) (h6 : r ≠ 6)
    {o : Option SlotName} (ho : o = if (lp.eligiblePos n).isSome then some n else none) : RowChoice lp gap r o := by
  subst hr
  by_cases he : (lp.eligiblePos n).isSome
  · rw [if_pos he] at ho
    subst ho
    refine ⟨nofun, fun k hk => ?_⟩
    obtain rfl := Option.some.inj hk
    exact ⟨rfl, (maySend_of_row h4).2 he, fun m _ _ => goesFirst_of_row h2 h4 h6 m⟩
  · rw [if_neg he] at ho
    subst ho
    refine ⟨fun _ m hm hs => ?_, nofun⟩
    rw [honly m hm] at hs
    exact he hs.1

/-- A row whose longest waiting slot is chosen. -/
theorem rowChoice_longest {r : Nat} (hr : r ≠ 4) {cs : List (Option (SlotName × Nat))}
    (hcs : ∀ m y, some (m, y) ∈ cs ↔ lp.row m = r ∧ lp.eligiblePos m = some y) : RowChoice lp gap r (longestWaiting cs) := by
  refine ⟨fun ho m hm hs => ?_, fun n ho => ?_⟩
  · obtain ⟨y, hy⟩ := Option.isSome_iff_exists.1 hs.1
    exact longestWaiting_eq_none ho m y ((hcs m y).2 ⟨hm, hy⟩)
  · obtain ⟨x, hx, hle⟩ := longestWaiting_eq_some ho
    obtain ⟨hrow, hpos⟩ := (hcs n x).1 hx
    refine ⟨hrow, (maySend_of_row (hrow.trans_ne hr)).2 (by rw [hpos]; rfl), fun m hm _ => ⟨fun _ x' y hx' hy => ?_, fun h4 => absurd (hrow.symm.trans h4) hr⟩⟩
    obtain rfl := Option.some.inj (hpos.symm.trans hx')
    exact hle m y ((hcs m y).2 ⟨hm, hy⟩)

theorem mem_map_pos {α : Type} {l : List α} {name : α → SlotName} {pos : α → Option Nat} {m : SlotName} {y : Nat} :
    some (m, y) ∈ l.map (fun a => (pos a).map (fun x => (name a, x))) ↔ ∃ a ∈ l, pos a = some y ∧ name a = m := by
  rw [List.mem_map]
  refine exists_congr fun a => and_congr_right fun _ => ?_
  rw [Option.map_eq_some_iff]
  refine ⟨?_, fun ⟨hp, hn⟩ => ⟨y, hp, Prod.ext hn rfl⟩⟩
  rintro ⟨x, hp, e⟩
  obtain ⟨hn, rfl⟩ := Prod.mk.inj e
  exact ⟨hp, hn⟩

theorem rowChoice_condition (lp : LinkPort) (gap : Bool) : RowChoice lp gap 2 lp.chooseCondition := by
  refine rowChoice_longest (by decide) fun m y => ?_
  rw [List.mem_append, mem_map_pos, mem_map_pos]
  constructor
  · rintro (⟨l, _, hl, rfl⟩ | ⟨i, _, hi, rfl⟩)
    · exact ⟨rfl, hl⟩
    · exact ⟨rfl, hi⟩
  · rintro ⟨hrow, hpos⟩
    cases m with
    | condLeg l => exact Or.inl ⟨l, mem_indices l, hpos, rfl⟩
    | condRelay i => exact Or.inr ⟨i, mem_indices i, hpos, rfl⟩
    | advert b => have := row_advert lp b; omega
    | _ => simp at hrow

/-- An ADVERT slot holds an eligible request of a mark when it holds an eligible request, and its mark is that. -/
theorem advertEligible_eq_some (sl : Slot Bool) (urgent : Bool) (y : Nat) :
    advertEligible sl urgent = some y ↔ sl.eligible = some y ∧ sl.unsent.any (·.item) = urgent := by
  obtain ⟨f, u⟩ := sl
  cases f with
  | some w => simp [advertEligible, Slot.eligible]
  | none =>
    cases u with
    | none => simp [advertEligible, Slot.eligible]
    | some w =>
      show (if w.item == urgent then some w.pos else none) = some y ↔ some w.pos = some y ∧ w.item = urgent
      by_cases hu : w.item = urgent
      · rw [if_pos (beq_iff_eq.2 hu)]
        exact (and_iff_left hu).symm
      · rw [if_neg (fun h => hu (beq_iff_eq.1 h))]
        exact iff_of_false nofun (fun h => hu h.2)

theorem row_advert_urgent {b : BlockIx} : lp.row (.advert b) = 4 ↔ lp.advert[b].unsent.any (·.item) = true := by
  show (if lp.advert[b].unsent.any (·.item) then 4 else 6) = 4 ↔ _
  split <;> simp_all

theorem row_advert_periodic {b : BlockIx} : lp.row (.advert b) = 6 ↔ lp.advert[b].unsent.any (·.item) = false := by
  show (if lp.advert[b].unsent.any (·.item) then 4 else 6) = 6 ↔ _
  split <;> simp_all

theorem rowChoice_periodic (lp : LinkPort) (gap : Bool) : RowChoice lp gap 6 lp.choosePeriodic := by
  refine rowChoice_longest (by decide) fun m y => ?_
  rw [mem_map_pos]
  constructor
  · rintro ⟨b, _, hb, rfl⟩
    obtain ⟨hpos, hmark⟩ := (advertEligible_eq_some _ _ _).1 hb
    exact ⟨row_advert_periodic.2 hmark, hpos⟩
  · rintro ⟨hrow, hpos⟩
    cases m with
    | advert b => exact ⟨b, mem_indices b, (advertEligible_eq_some _ _ _).2 ⟨hpos, row_advert_periodic.1 hrow⟩, rfl⟩
    | _ => simp at hrow

theorem advertEligible_isSome (b : BlockIx) :
    (advertEligible lp.advert[b] true).isSome = true ↔ lp.row (.advert b) = 4 ∧ (lp.eligiblePos (.advert b)).isSome = true := by
  rw [Option.isSome_iff_exists, row_advert_urgent, Option.isSome_iff_exists, ← exists_and_left]
  exact exists_congr fun y => (advertEligible_eq_some _ _ _).trans and_comm

theorem row_eq_four {m : SlotName} (h : lp.row m = 4) : ∃ b, m = .advert b := by
  cases m with
  | advert b => exact ⟨b, rfl⟩
  | _ => simp at h

/-- The lowest index that passes a test. -/
theorem find_indices_least {n : Nat} {q : Fin n → Bool} {i : Fin n} (h : (indices n).find? q = some i) {j : Fin n} (hj : q j = true) : i ≤ j := by
  obtain ⟨as, bs, hsplit, hbefore⟩ := (List.find?_eq_some_iff_append.1 h).2
  refine not_lt.1 fun hlt => ?_
  have hmem : j ∈ as ++ i :: bs := hsplit ▸ mem_indices j
  have hsorted : (as ++ i :: bs).Pairwise (· < ·) := hsplit ▸ indices_sorted n
  cases List.mem_append.1 hmem with
  | inl has => exact absurd hj (by have := hbefore j has; simpa using this)
  | inr hbs =>
    obtain ⟨_, htail, _⟩ := List.pairwise_append.1 hsorted
    cases List.mem_cons.1 hbs with
    | inl e => exact absurd hlt (e ▸ lt_irrefl _)
    | inr hin => exact absurd hlt (not_lt.2 (le_of_lt ((List.pairwise_cons.1 htail).1 j hin)))

theorem rowChoice_urgent (lp : LinkPort) (gap : Bool) : RowChoice lp gap 4 (if gap then none else lp.chooseUrgent) := by
  cases gap with
  | true => exact ⟨fun _ m hm hs => hs.2 ⟨hm, rfl⟩, nofun⟩
  | false =>
    refine ⟨fun ho m hm hs => ?_, fun n ho => ?_⟩
    · obtain ⟨b, rfl⟩ := row_eq_four hm
      exact List.find?_eq_none.1 (Option.map_eq_none_iff.1 ho) b (mem_indices b) ((advertEligible_isSome b).2 ⟨hm, hs.1⟩)
    · obtain ⟨b, hb, rfl⟩ := Option.map_eq_some_iff.1 ho
      obtain ⟨hrow, hpos⟩ := (advertEligible_isSome b).1 (List.find?_some (p := fun b : BlockIx => (advertEligible lp.advert[b] true).isSome) hb)
      refine ⟨hrow, ⟨hpos, fun h => nomatch h.2⟩, fun m hm hs => ⟨fun h => ?_, ?_⟩⟩
      · rw [hrow] at h
        exact absurd h (by decide)
      · rintro _ k c hk rfl
        obtain rfl := SlotName.advert.inj hk
        exact find_indices_least hb ((advertEligible_isSome c).2 ⟨hm, hs.1⟩)

theorem rowChoice_alarm (lp : LinkPort) (gap : Bool) : RowChoice lp gap 1 (if lp.alarm.eligible.isSome then some .alarm else none) := by
  refine rowChoice_single (n := .alarm) (r := 1) rfl (fun m hm => ?_) (by decide) (by decide) (by decide) rfl
  cases m with
  | alarm => rfl
  | advert b => have := row_advert lp b; omega
  | _ => simp at hm

theorem rowChoice_clock (lp : LinkPort) (gap : Bool) : RowChoice lp gap 3 (if lp.clock.eligible.isSome then some .clock else none) := by
  refine rowChoice_single (n := .clock) (r := 3) rfl (fun m hm => ?_) (by decide) (by decide) (by decide) rfl
  cases m with
  | clock => rfl
  | advert b => have := row_advert lp b; omega
  | _ => simp at hm

theorem rowChoice_programme (lp : LinkPort) (gap : Bool) :
    RowChoice lp gap 5 (if lp.programme.isEmpty || lp.progInFlight then none else some .programme) := by
  refine rowChoice_single (n := .programme) (r := 5) rfl (fun m hm => ?_) (by decide) (by decide) (by decide) ?_
  · cases m with
    | programme => rfl
    | advert b => have := row_advert lp b; omega
    | _ => simp at hm
  · show _ = if (if lp.progInFlight then none else lp.programme.head?.map (·.pos)).isSome then _ else _
    cases lp.progInFlight <;> cases lp.programme <;> rfl

end

/-- The transmit choice is that of the rows from the first on. -/
theorem choose_rowsFrom (lp : LinkPort) (gap : Bool) : RowsFrom lp gap 1 (lp.choose gap) := by
  have hrows := RowsFrom.cons (rowChoice_alarm lp gap) <| RowsFrom.cons (rowChoice_condition lp gap) <| RowsFrom.cons (rowChoice_clock lp gap)
    <| RowsFrom.cons (rowChoice_urgent lp gap) <| RowsFrom.cons (rowChoice_programme lp gap) <| RowsFrom.last (rowChoice_periodic lp gap)
  unfold LinkPort.choose
  by_cases h : lp.alarm.eligible.isSome = true
  · rw [if_pos h] at hrows ⊢
    exact hrows
  · rw [if_neg h] at hrows ⊢
    exact hrows

/-- Settles O25: row by row, with the choice within each row. -/
theorem transmitChoiceIsFirstRow : Obligations.TransmitChoiceIsFirstRow := by
  intro lp gap
  have hrows := choose_rowsFrom lp gap
  refine ⟨⟨fun hnone n => hrows.none hnone n (row_range lp n).1, fun hnone => ?_⟩, fun n hn => ?_⟩
  · cases hc : lp.choose gap with
    | none => rfl
    | some n => exact absurd (hrows.some n hc).2.1 (hnone n)
  · obtain ⟨_, hsend, hfirst⟩ := hrows.some n hn
    refine ⟨hsend, fun m hm => ?_⟩
    obtain ⟨hle, hgoes⟩ := hfirst m (row_range lp m).1 hm
    exact ⟨hle, fun e => (hgoes e).1, fun e => (hgoes e).2⟩

end Sys2Proof.Machine
end

section
/-! PROOFS. The Deck Link Controller's arrivals (03): what is read, what is discarded, dispatch and relay in RUNNING and in FALLBACK
(R63 to R68, R71, R80). -/

namespace Sys2Proof.Machine

/-! ### What an arrival is read as (R61, R63) -/

/-- A kind of frame with a length that fits it, and the frame it is read as. -/
inductive ReadAs (b : List Byte) : Nat → Arrived → Prop where
  | advert (hl : b.length = 54) : ReadAs b 1 (.advert (readAdvert b))
  | condition (hl : b.length = 12) :
    ReadAs b 2 (.flooded { hop := (byteAt b 1).toNat, sender := byteAt b 2, body := .condition (readCondition b) })
  | alarm (hl : b.length = 10 + (byteAt b 7).toNat) (hz : (byteAt b 7).toNat ≤ 8) :
    ReadAs b 3 (.flooded { hop := (byteAt b 1).toNat, sender := byteAt b 2, body := .alarm (readAlarm b) })
  | clock (hl : b.length = 12) :
    ReadAs b 4 (.flooded { hop := (byteAt b 1).toNat, sender := byteAt b 2, body := .clock (readClock b) })
  | programme (hl : b.length = 22) :
    ReadAs b 5 (.flooded { hop := (byteAt b 1).toNat, sender := byteAt b 2, body := .programme (readProgramme b) })

theorem readFrameBody_of_readAs {b : List Byte} {a : Arrived} (h : ReadAs b (byteAt b 0).toNat a) : readFrameBody b = some a := by
  generalize hk : (byteAt b 0).toNat = k at h
  unfold readFrameBody
  dsimp only
  rw [hk]
  cases h with
  | alarm hl hz => exact if_pos ⟨hl, hz⟩
  | _ hl => exact if_pos hl

theorem readAs_of_readFrameBody {b : List Byte} {a : Arrived} (h : readFrameBody b = some a) : ReadAs b (byteAt b 0).toNat a := by
  unfold readFrameBody at h
  dsimp only at h
  split at h
  · next hk =>
    obtain ⟨hl, ⟨⟩⟩ := Option.ite_none_right_eq_some.1 h
    exact hk ▸ .advert hl
  · next hk =>
    obtain ⟨hl, ⟨⟩⟩ := Option.ite_none_right_eq_some.1 h
    exact hk ▸ .condition hl
  · next hk =>
    obtain ⟨⟨hl, hz⟩, ⟨⟩⟩ := Option.ite_none_right_eq_some.1 h
    exact hk ▸ .alarm hl hz
  · next hk =>
    obtain ⟨hl, ⟨⟩⟩ := Option.ite_none_right_eq_some.1 h
    exact hk ▸ .clock hl
  · next hk =>
    obtain ⟨hl, ⟨⟩⟩ := Option.ite_none_right_eq_some.1 h
    exact hk ▸ .programme hl
  · exact nomatch h

theorem readFrame_eq_some {b : List Byte} {a : Arrived} : readFrame b = some a ↔
    6 ≤ b.length ∧ checkGood b = true ∧ (byteAt b 1).toNat ≤ 15 ∧ ReadAs b (byteAt b 0).toNat a := by
  constructor
  · intro h
    unfold readFrame at h
    split at h
    · exact nomatch h
    · next hcheck =>
      split at h
      · exact nomatch h
      · next hhop =>
        obtain ⟨hlen, hgood⟩ := not_or.1 hcheck
        exact ⟨Nat.not_lt.1 hlen, (Bool.not_eq_false _).mp hgood, Nat.not_lt.1 hhop, readAs_of_readFrameBody h⟩
  · rintro ⟨hlen, hgood, hhop, hread⟩
    have hcheck : ¬ (b.length < 6 ∨ checkGood b = false) := by
      rw [hgood]
      exact fun h => h.elim (Nat.not_lt.2 hlen) nofun
    unfold readFrame
    rw [if_neg hcheck, if_neg (Nat.not_lt.2 hhop)]
    exact readFrameBody_of_readAs hread

/-- A good arrival's sender is its byte 2. -/
theorem readAs_sender {b : List Byte} {k : Nat} {a : Arrived} (h : ReadAs b k a) :
    (∀ f, a = .advert f → f.sender = byteAt b 2) ∧ ∀ f, a = .flooded f → f.sender = byteAt b 2 := by
  cases h <;> exact ⟨fun f hf => by cases hf <;> rfl, fun f hf => by cases hf <;> rfl⟩

/-- A length that does not fit the kind (R63 case 3). -/
def wrongLength (b : List Byte) (kind count : Nat) : Prop :=
  (kind = 1 ∧ b.length ≠ 54) ∨ ((kind = 2 ∨ kind = 4) ∧ b.length ≠ 12)
    ∨ (kind = 3 ∧ (b.length ≠ 10 + count ∨ 8 < count)) ∨ (kind = 5 ∧ b.length ≠ 22)

theorem readAs_not_wrongLength {b : List Byte} {k : Nat} {a : Arrived} (h : ReadAs b k a) :
    1 ≤ k ∧ k ≤ 5 ∧ ¬ wrongLength b k (byteAt b 7).toNat := by
  unfold wrongLength
  cases h <;> omega

theorem exists_readAs {b : List Byte} {k : Nat} (h1 : 1 ≤ k) (h5 : k ≤ 5) (h : ¬ wrongLength b k (byteAt b 7).toNat) : ∃ a, ReadAs b k a := by
  unfold wrongLength at h
  obtain rfl | rfl | rfl | rfl | rfl : k = 1 ∨ k = 2 ∨ k = 3 ∨ k = 4 ∨ k = 5 := by omega
  · exact ⟨_, .advert (by omega)⟩
  · exact ⟨_, .condition (by omega)⟩
  · exact ⟨_, .alarm (by omega) (by omega)⟩
  · exact ⟨_, .clock (by omega)⟩
  · exact ⟨_, .programme (by omega)⟩

/-! ### Discards (R63, R64) -/

theorem frameArrival_unread {p : Port} {w : Bool} {b : List Byte} {s : State} (h : readFrame b = none) :
    exec (.frameArrival p w b) s = .next s := by
  show execFrameArrival p w b s = _
  unfold execFrameArrival
  rw [h]

theorem frameArrival_starting (p : Port) (w : Bool) (b : List Byte) {s : State} (h : s.pfl.node = .starting) :
    exec (.frameArrival p w b) s = .next s := by
  show execFrameArrival p w b s = _
  unfold execFrameArrival
  rw [h]
  split <;> rfl

theorem frameArrival_running {p : Port} {w : Bool} {b : List Byte} {s : State} {a : Arrived} (hb : readFrame b = some a)
    (h : s.pfl.node = .running) : exec (.frameArrival p w b) s = .next (s.arriveRunning p w a) := by
  show execFrameArrival p w b s = _
  unfold execFrameArrival
  rw [hb, h]

theorem frameArrival_fallback {p : Port} {w : Bool} {b : List Byte} {s : State} {a : Arrived} (hb : readFrame b = some a)
    (h : s.pfl.node = .fallback) : exec (.frameArrival p w b) s = .next (s.arriveFallback p w a) := by
  show execFrameArrival p w b s = _
  unfold execFrameArrival
  rw [hb, h]

section
variable {s : State} {p : Port}

theorem arriveRunning_whileSending (s : State) (p : Port) (a : Arrived) : s.arriveRunning p true a = s := rfl

theorem arriveRunning_advert {f : AdvertFrame} :
    s.arriveRunning p false (.advert f) = if f.sender = s.pfl.profile.nodeId then s else s.handOff (.advertReceipt p f) := rfl

theorem arriveRunning_ownSender {f : Frame} (h : f.sender = s.pfl.profile.nodeId) (w : Bool) :
    s.arriveRunning p w (.flooded f) = s := by
  cases w with
  | true => rfl
  | false => exact if_pos h

theorem arriveRunning_ownOrigin {f : Frame} (ha : f.body.isAlarm = false) (h : floodOrigin f.body = s.pfl.profile.nodeId) (w : Bool) :
    s.arriveRunning p w (.flooded f) = s := by
  cases w with
  | true => rfl
  | false =>
    by_cases hs : f.sender = s.pfl.profile.nodeId
    · exact if_pos hs
    · exact (if_neg hs).trans (if_pos ⟨ha, h⟩)

theorem arriveRunning_dispatch {f : Frame} (hs : f.sender ≠ s.pfl.profile.nodeId)
    (ho : ¬ (f.body.isAlarm = false ∧ floodOrigin f.body = s.pfl.profile.nodeId)) :
    s.arriveRunning p false (.flooded f) = s.dispatchFlood p f :=
  (if_neg hs).trans (if_neg ho)

theorem dispatchFlood_alarm {f : Frame} {m : AlarmBody} (h : f.body = .alarm m) :
    s.dispatchFlood p f = s.handOff (.alarmReceipt p f.hop m) := by
  unfold State.dispatchFlood
  rw [h]
  rfl

end

/-- Settles O21: what is read has no fault of R63, and each test of R64 in its order. -/
theorem arrivalDiscardsBadAndOwnFrames : Obligations.ArrivalDiscardsBadAndOwnFrames := by
  intro s p whileSending b kind count wrong bad
  refine ⟨fun h => ?_, fun hgood => ?_⟩
  · cases h with
    | inr hstarting => exact frameArrival_starting p whileSending b hstarting
    | inl hbad =>
      refine frameArrival_unread (Option.eq_none_iff_forall_ne_some.2 fun a ha => ?_)
      obtain ⟨hlen, hcheck, hhop, hread⟩ := readFrame_eq_some.1 ha
      obtain ⟨h1, h5, hfits⟩ := readAs_not_wrongLength hread
      obtain h | h | h | h | h | h := hbad
      · exact Bool.noConfusion (hcheck.symm.trans h)
      · exact absurd h (Nat.not_lt.2 hlen)
      · exact absurd h (Nat.not_lt.2 h1)
      · exact absurd h (Nat.not_lt.2 h5)
      · exact hfits h
      · exact absurd h (Nat.not_lt.2 hhop)
  · simp only [bad, not_or, Bool.not_eq_false, Nat.not_lt] at hgood
    obtain ⟨hcheck, hlen, h1, h5, hfits, hhop⟩ := hgood
    obtain ⟨a, hread⟩ := exists_readAs h1 h5 (fun h => hfits h)
    have hb : readFrame b = some a := readFrame_eq_some.2 ⟨hlen, hcheck, hhop, hread⟩
    obtain ⟨hadvert, hflooded⟩ := readAs_sender hread
    refine ⟨a, hb, frameArrival_fallback hb, fun hrunning => ⟨frameArrival_running hb hrunning, fun h => ?_, fun f hf => ?_⟩⟩
    · cases h with
      | inl hsending => rw [hsending, arriveRunning_whileSending]
      | inr hown =>
        cases a with
        | advert f =>
          cases whileSending with
          | true => rfl
          | false => exact arriveRunning_advert.trans (if_pos ((hadvert f rfl).trans hown))
        | flooded f => exact arriveRunning_ownSender ((hflooded f rfl).trans hown) whileSending
    · subst hf
      refine ⟨fun halarm horigin => arriveRunning_ownOrigin halarm horigin whileSending, fun m hm hsending hsender => ?_⟩
      have hnot : f.body.isAlarm = true := by rw [hm]; rfl
      rw [hsending, arriveRunning_dispatch (fun e => hsender ((hflooded f rfl).symm.trans e)) (fun h => by simp [hnot] at h)]
      exact dispatchFlood_alarm hm

/-! ### Dispatch and relay (R65 to R68, R71, R80) -/

theorem enterKey_of_not_mem {ring : List Key} {k : Key} (h : k ∉ ring) :
    enterKey ring k = (if ring.length < 16 then ring else ring.tail) ++ [k] := by
  have hc : ¬ ring.contains k = true := fun hc => h (List.contains_iff_mem.1 hc)
  unfold enterKey
  rw [if_neg hc, apply_ite (· ++ [k])]
  rfl

theorem zonePasses_iff (zone target mask : Word) :
    zonePasses zone target mask = true ↔ ∀ i, i < 16 → mask.getLsbD i = true → target.getLsbD i = zone.getLsbD i := by
  unfold zonePasses
  rw [beq_iff_eq]
  constructor
  · intro h i hi hm
    have hbit := congrArg (fun w : Word => w.getLsbD i) h
    simpa [hm] using hbit
  · intro h
    apply BitVec.eq_of_getLsbD_eq
    intro i hi
    cases hm : mask.getLsbD i with
    | false => simp [hm]
    | true => simp [hm, h i hi hm]

section
variable {s : State} (p : Port) (why : Purpose) (fr : Frame)

theorem place_otherPort_same (s : State) (p q : Port) (hq : p ≠ q) (why : Purpose) (fr : Frame) :
    (s.place p why fr).dlc.ports.get q = s.dlc.ports.get q := by
  rw [State.place_dlc]
  exact PerPort.get_set_other _ _ _ _ hq

theorem place_port (s : State) : (s.place p why fr).dlc.ports.get p = ((s.dlc.ports.get p).place why fr s.dlc.stamp).1 := by
  rw [State.place_dlc]
  exact PerPort.get_set _ _ _

theorem place_ring (s : State) : (s.place p why fr).dlc.ring = s.dlc.ring := by rw [State.place_dlc]

/-- A frame placed tells of the one it displaces (R73, R79). -/
theorem place_hpt (hr : s.running = true) : (s.place p why fr).hpt = match ((s.dlc.ports.get p).place why fr s.dlc.stamp).2 with
    | some out => s.hpt.takeNotice (dropNotice p .displaced out)
    | none => s.hpt := by
  unfold State.place
  split
  next lp out h =>
    rw [h]
    cases out with
    | none => rfl
    | some f => dsimp only; exact notice_hpt (by exact hr) _

theorem notice_hpt_fallback {s : State} (hf : s.pfl.node = .fallback) (n : Notice) : (s.notice n).hpt = s.hpt :=
  congrArg State.hpt (if_pos hf)

theorem place_hpt_fallback (hf : s.pfl.node = .fallback) : (s.place p why fr).hpt = s.hpt := by
  unfold State.place
  split
  next lp out h =>
    cases out with
    | none => rfl
    | some f => dsimp only; exact notice_hpt_fallback (by exact hf) _

end

theorem relay_within_limit {s : State} {p : Port} {hop limit : Nat} {sender : Byte} {body : FloodBody} (h : hop + 1 ≤ limit) :
    s.relay p hop limit sender body = s.place (otherPort p) .flood { hop := hop + 1, sender := sender, body := body } := if_pos h

theorem relay_past_limit {s : State} {p : Port} {hop limit : Nat} {sender : Byte} {body : FloodBody} (h : limit < hop + 1) :
    s.relay p hop limit sender body = s := if_neg (Nat.not_le.2 h)

theorem relay_ring (s : State) (p : Port) (hop limit : Nat) (sender : Byte) (body : FloodBody) :
    (s.relay p hop limit sender body).dlc.ring = s.dlc.ring := by
  unfold State.relay
  split
  · exact place_ring _ _ _ s
  · rfl

theorem relay_port (s : State) (p : Port) (hop limit : Nat) (sender : Byte) (body : FloodBody) :
    (s.relay p hop limit sender body).dlc.ports.get p = s.dlc.ports.get p := by
  unfold State.relay
  split
  · exact place_otherPort_same s _ _ (fun e => otherPort_ne p e.symm) _ _
  · rfl

section
variable (s : State) (p : Port) (hop : Nat)

theorem handToOwner_frame (b : FloodBody) : Frame.only [.handoffs] s (s.handToOwner p hop b) := (handToOwner_within s p hop b).same

theorem handToOwner_dlc (b : FloodBody) : (s.handToOwner p hop b).dlc = s.dlc := handToOwner_frame s p hop b .dlc (by simp)

theorem handToOwner_hpt (b : FloodBody) : (s.handToOwner p hop b).hpt = s.hpt := handToOwner_frame s p hop b .hpt (by simp)

theorem handToOwner_pfl (b : FloodBody) : (s.handToOwner p hop b).pfl = s.pfl := handToOwner_frame s p hop b .pfl (by simp)

theorem handToOwner_programme (g : ProgrammeBody) : (s.handToOwner p hop (.programme g)).handoffs
    = if zonePasses s.pfl.profile.zone g.target g.mask then s.handoffs ++ [.programmeOffer g.offer] else s.handoffs :=
  apply_ite State.handoffs _ _ _

end

/-- The state when a new flooded frame's key is entered and its owner told (R65, R66, R71). -/
def State.owned (s : State) (p : Port) (f : Frame) : State := (s.enterKey (floodKey f.body)).handToOwner p f.hop f.body

section
variable (s : State) (p : Port) (f : Frame)

theorem owned_dlc : (s.owned p f).dlc = { s.dlc with ring := enterKey s.dlc.ring (floodKey f.body) } := handToOwner_dlc _ _ _ _

theorem owned_hpt : (s.owned p f).hpt = s.hpt := handToOwner_hpt _ _ _ _

theorem owned_pfl : (s.owned p f).pfl = s.pfl := handToOwner_pfl _ _ _ _

theorem owned_running : (s.owned p f).running = s.running := congrArg (fun x : Pfl => x.node == .running) (owned_pfl s p f)

end

theorem dispatchFlood_known {s : State} {p : Port} {f : Frame} (ha : f.body.isAlarm = false) (hk : floodKey f.body ∈ s.dlc.ring) :
    s.dispatchFlood p f = s := by
  unfold State.dispatchFlood
  rw [if_neg (by rw [ha]; exact Bool.false_ne_true), if_pos (List.contains_iff_mem.2 hk)]

theorem dispatchFlood_new {s : State} {p : Port} {f : Frame} (ha : f.body.isAlarm = false) (hk : floodKey f.body ∉ s.dlc.ring) :
    s.dispatchFlood p f = (s.owned p f).relay p f.hop s.pfl.profile.relayLimit s.pfl.profile.nodeId f.body := by
  unfold State.dispatchFlood
  rw [if_neg (by rw [ha]; exact Bool.false_ne_true), if_neg (fun h => hk (List.contains_iff_mem.1 h))]
  rfl

/-- Settles O22: the key entered, the owner told, then the relay. -/
theorem arrivalIsDispatchedAndRelayed : Obligations.ArrivalIsDispatchedAndRelayed := by
  refine ⟨fun c k g => ⟨rfl, rfl, rfl⟩, fun s p b hnode => ⟨fun f hb hs => ?_, fun f hb ha hs ho => ?_⟩⟩
  · rw [frameArrival_running hb hnode, arriveRunning_advert, if_neg hs]
  · have hexec : exec (.frameArrival p false b) s = .next (s.dispatchFlood p f) := by
      rw [frameArrival_running hb hnode, arriveRunning_dispatch hs (fun h => ho h.2)]
    have hrunning : s.running = true := beq_iff_eq.2 hnode
    refine ⟨fun hk => hexec.trans (congrArg _ (dispatchFlood_known ha hk)), fun hk => ⟨_, hexec, ?_⟩⟩
    have hframe := (dispatchFlood_within s p f).same
    rw [dispatchFlood_new ha hk] at hframe ⊢
    refine ⟨?_, fun c hc => ?_, fun c hc => ?_, fun g hg => ?_, ?_, fun hl => ?_, fun hl => ?_, only_mono hframe (by simp)⟩
    · rw [relay_ring, owned_dlc]
      exact enterKey_of_not_mem hk
    · rw [State.relay_handoffs]
      unfold State.owned
      rw [hc]
      rfl
    · rw [State.relay_handoffs]
      unfold State.owned
      rw [hc]
      rfl
    · rw [State.relay_handoffs]
      unfold State.owned
      rw [hg, handToOwner_programme]
      refine ⟨fun hz => if_pos ((zonePasses_iff _ _ _).2 hz), ?_⟩
      rintro ⟨i, hi, hmask, hne⟩
      exact if_neg fun hz => hne ((zonePasses_iff _ _ _).1 hz i hi hmask)
    · rw [relay_port, owned_dlc]
    · rw [relay_within_limit hl]
      have hport : (s.owned p f).dlc.ports = s.dlc.ports := by rw [owned_dlc]
      have hstamp : (s.owned p f).dlc.stamp = s.dlc.stamp := by rw [owned_dlc]
      refine ⟨?_, ?_⟩
      · rw [place_port, hport, hstamp]
      · rw [place_hpt _ _ _ ((owned_running s p f).trans hrunning), hport, hstamp, owned_hpt] <;> rfl
    · rw [relay_past_limit hl, owned_dlc, owned_hpt]
      exact ⟨rfl, rfl⟩

theorem arriveFallback_known {s : State} {p : Port} {f : Frame} (hk : floodKey f.body ∈ s.dlc.ring) :
    s.arriveFallback p false (.flooded f) = s := if_pos (List.contains_iff_mem.2 hk)

theorem arriveFallback_new {s : State} {p : Port} {f : Frame} (hk : floodKey f.body ∉ s.dlc.ring) :
    s.arriveFallback p false (.flooded f) = (s.enterKey (floodKey f.body)).relay p f.hop 8 0 f.body :=
  if_neg fun h => hk (List.contains_iff_mem.1 h)

theorem relay_hpt_fallback {s : State} (hf : s.pfl.node = .fallback) (p : Port) (hop limit : Nat) (sender : Byte) (body : FloodBody) :
    (s.relay p hop limit sender body).hpt = s.hpt := by
  unfold State.relay
  split
  · exact place_hpt_fallback _ _ _ hf
  · rfl

theorem arriveFallback_frame {s : State} (hf : s.pfl.node = .fallback) (p : Port) (k : Key) (hop limit : Nat) (sender : Byte) (body : FloodBody) :
    Frame.only [.dlc] s ((s.enterKey k).relay p hop limit sender body) := by
  have hrelay := (relay_within (s.enterKey k) p hop limit sender body).same
  intro b hb
  by_cases hhpt : b = .hpt
  · subst hhpt
    exact relay_hpt_fallback (s := s.enterKey k) hf p hop limit sender body
  · refine Same.trans ?_ (hrelay b (by simp only [List.mem_cons, List.not_mem_nil, or_false] at hb ⊢; tauto))
    cases b <;> first | rfl | exact absurd (by simp) hb

/-- Settles O23: the key entered, then the relay of FALLBACK, which tells nobody. -/
theorem fallbackRelaysAndTellsNoOwner : Obligations.FallbackRelaysAndTellsNoOwner := by
  refine ⟨fun a => rfl, fun s p b hnode => ⟨fun a hb => frameArrival_fallback hb hnode, fun f hb => frameArrival_fallback hb hnode, fun f hb => ?_⟩⟩
  have hexec := frameArrival_fallback (p := p) (w := false) hb hnode
  refine ⟨fun hk => hexec.trans (congrArg _ (arriveFallback_known hk)), fun hk => ⟨_, hexec, ?_⟩⟩
  rw [arriveFallback_new hk]
  refine ⟨?_, relay_port _ _ _ _ _ _, fun hl => ?_, fun hl => ?_, arriveFallback_frame hnode p _ _ _ _ _⟩
  · rw [relay_ring]
    exact enterKey_of_not_mem hk
  · rw [relay_within_limit hl]
    exact place_port _ _ _ _
  · rw [relay_past_limit hl]
    rfl

end Sys2Proof.Machine
end

section
/-! PROOFS. The byte layouts of deck link frames (03): the check, the fields read, and a frame read back as sent (R61 to R63, R79). -/

namespace Sys2Proof.Machine

/-! ### Fields written and read back -/

theorem natByte_toNat {n : Nat} (h : n < 256) : (natByte n).toNat = n := by
  unfold natByte
  rw [BitVec.toNat_ofNat]
  exact Nat.mod_eq_of_lt h

theorem flagByte_bits (x y z : Bool) : let b := natByte (flagBit x 0 + flagBit y 1 + flagBit z 2)
    b.getLsbD 0 = x ∧ b.getLsbD 1 = y ∧ b.getLsbD 2 = z := by revert x y z; decide

theorem flagByte_bits2 (x y : Bool) : let b := natByte (flagBit x 0 + flagBit y 1)
    b.getLsbD 0 = x ∧ b.getLsbD 1 = y := by revert x y; decide

/-! ### A flooded frame read back (R61, R63) -/

section
variable (hop : Nat) (sender : Byte)

theorem readCondition_bytes (c : ConditionBody) : readCondition (Frame.bytes { hop := hop, sender := sender, body := .condition c }) = c := by
  obtain ⟨hdoor, hsmoke, hcrowd⟩ := flagByte_bits c.doorClosed c.smoke c.crowdValid
  have hseq := wordBytes_word c.seq
  obtain ⟨origin, seq, end1, end2, door, smoke, valid, crowd⟩ := c
  simp only [ConditionBody.mk.injEq, readCondition]
  exact ⟨rfl, hseq, rfl, rfl, hdoor, hsmoke, hcrowd, rfl⟩

theorem readClock_bytes (c : ClockBody) : readClock (Frame.bytes { hop := hop, sender := sender, body := .clock c }) = c := by
  have hseq := wordBytes_word c.seq
  have hminute := wordBytes_word c.minute
  obtain ⟨origin, seq, day, minute, second⟩ := c
  simp only [ClockBody.mk.injEq, readClock]
  exact ⟨rfl, hseq, rfl, hminute, rfl⟩

theorem programme_bytes (g : ProgrammeBody) : ∃ x y : Byte, Frame.bytes { hop := hop, sender := sender, body := .programme g }
    = [5, natByte hop, sender, g.origin] ++ wordBytes g.offer.id ++ [g.offer.revision] ++ wordBytes g.target ++ wordBytes g.mask
      ++ [g.offer.day] ++ wordBytes g.offer.start ++ wordBytes g.offer.stop ++ [g.offer.venue] ++ wordBytes g.offer.titlePage
      ++ [offerFlags g.offer, x, y] := ⟨_, _, rfl⟩

theorem readProgramme_bytes (g : ProgrammeBody) :
    readProgramme (Frame.bytes { hop := hop, sender := sender, body := .programme g }) = g := by
  obtain ⟨x, y, hbytes⟩ := programme_bytes hop sender g
  obtain ⟨hcancelled, hmoved⟩ := flagByte_bits2 g.offer.cancelled g.offer.moved
  rw [hbytes]
  obtain ⟨origin, ⟨id, rev, day, start, stop, venue, page, cancelled, moved⟩, target, mask⟩ := g
  simp only [readProgramme, offerAt, wordAt, byteAt, wordBytes, List.cons_append, List.nil_append, List.getD_cons_zero, List.getD_cons_succ,
    wordBytes_word, offerFlags]
  exact congr_arg₂ (fun c m => ProgrammeBody.mk origin ⟨id, rev, day, start, stop, venue, page, c, m⟩ target mask) hcancelled hmoved

theorem alarm_bytes (a : AlarmBody) : ∃ x y : Byte, Frame.bytes { hop := hop, sender := sender, body := .alarm a }
    = [3, natByte hop, sender, (a.epoch >>> 8).setWidth 8, a.epoch.setWidth 8, a.phaseCode, a.origin, natByte a.zones.length] ++ (a.zones ++ [x, y]) :=
  ⟨_, _, List.append_assoc [3, natByte hop, sender, (a.epoch >>> 8).setWidth 8, a.epoch.setWidth 8, a.phaseCode, a.origin,
    natByte a.zones.length] a.zones (wordBytes _)⟩

theorem readAlarm_bytes (a : AlarmBody) (hz : a.zones.length ≤ 8) :
    readAlarm (Frame.bytes { hop := hop, sender := sender, body := .alarm a }) = a := by
  obtain ⟨x, y, hbytes⟩ := alarm_bytes hop sender a
  have hepoch := wordBytes_word a.epoch
  have hcount : (natByte a.zones.length).toNat = a.zones.length := natByte_toNat (by omega)
  rw [hbytes]
  obtain ⟨epoch, code, origin, zones⟩ := a
  simp only [AlarmBody.mk.injEq, readAlarm]
  refine ⟨hepoch, rfl, rfl, ?_⟩
  show (zones ++ [x, y]).take (natByte zones.length).toNat = zones
  rw [hcount, List.take_left]

theorem alarm_length (a : AlarmBody) (hz : a.zones.length ≤ 8) :
    let b := Frame.bytes { hop := hop, sender := sender, body := .alarm a }
    b.length = 10 + (byteAt b 7).toNat ∧ (byteAt b 7).toNat ≤ 8 := by
  obtain ⟨x, y, hbytes⟩ := alarm_bytes hop sender a
  have hcount : (natByte a.zones.length).toNat = a.zones.length := natByte_toNat (by omega)
  dsimp only
  rw [hbytes]
  show (_ ++ (a.zones ++ [x, y])).length = 10 + (natByte a.zones.length).toNat ∧ (natByte a.zones.length).toNat ≤ 8
  rw [hcount, List.length_append, List.length_append]
  refine ⟨?_, hz⟩
  show 8 + (a.zones.length + 2) = 10 + a.zones.length
  omega

end

/-- The frame a frame's own bytes are read as, by its kind. -/
theorem readAs_bytes (f : Frame) (hhop : f.hop ≤ 15) (hz : ∀ a, f.body = .alarm a → a.zones.length ≤ 8) :
    ReadAs f.bytes (byteAt f.bytes 0).toNat (.flooded f) := by
  have hopByte : (natByte f.hop).toNat = f.hop := natByte_toNat (by omega)
  obtain ⟨hop, sender, body⟩ := f
  have key : ∀ {b : FloodBody} {k : Nat}, ReadAs (Frame.bytes { hop := hop, sender := sender, body := body }) k
      (.flooded { hop := (natByte hop).toNat, sender := sender, body := b }) → b = body →
      ReadAs (Frame.bytes { hop := hop, sender := sender, body := body }) k (.flooded { hop := hop, sender := sender, body := body }) := by
    rintro b k h rfl
    have h' := h
    rw [hopByte] at h'
    exact h'
  cases body with
  | condition c => exact key (.condition rfl) (congrArg _ (readCondition_bytes hop sender c))
  | clock c => exact key (.clock rfl) (congrArg _ (readClock_bytes hop sender c))
  | programme g => exact key (.programme rfl) (congrArg _ (readProgramme_bytes hop sender g))
  | alarm a =>
    obtain ⟨hl, hc⟩ := alarm_length hop sender a (hz a rfl)
    exact key (.alarm hl hc) (congrArg _ (readAlarm_bytes hop sender a (hz a rfl)))

theorem readFrame_bytes (f : Frame) (hhop : f.hop ≤ 15) (hz : ∀ a, f.body = .alarm a → a.zones.length ≤ 8) :
    readFrame f.bytes = some (.flooded f) := by
  have hlen : 6 ≤ f.bytes.length := by
    unfold Frame.bytes withCheck wordBytes
    cases f.body <;> simp [bodyBytes, wordBytes]
  have hop : (byteAt f.bytes 1).toNat = f.hop := natByte_toNat (by omega)
  exact readFrame_eq_some.2 ⟨hlen, checkGood_withCheck _, hop.trans_le hhop, readAs_bytes f hhop hz⟩

/-! ### An ADVERT frame read back (R61, R90) -/

/-- The place of byte k of entry i, three bytes an entry. -/
theorem flatMap_entryBytes (es : List AdvertEntry) (post : List Byte) (k : Nat) (hk : k < 3) : ∀ (i : Nat) (e : AdvertEntry), es[i]? = some e →
    (es.flatMap advertEntryBytes ++ post)[3 * i + k]? = (advertEntryBytes e)[k]? := by
  induction es with
  | nil => exact fun i e h => nomatch h
  | cons x es ih =>
    intro i e h
    rw [List.flatMap_cons, List.append_assoc]
    cases i with
    | zero =>
      obtain rfl := Option.some.inj h
      rw [Nat.mul_zero, Nat.zero_add]
      exact List.getElem?_append_left hk
    | succ i =>
      have hindex : 3 * (i + 1) + k = 3 + (3 * i + k) := by omega
      have hrest : (advertEntryBytes x ++ (es.flatMap advertEntryBytes ++ post))[3 + (3 * i + k)]?
          = (es.flatMap advertEntryBytes ++ post)[3 * i + k]? := by
        rw [List.getElem?_append_right (show (advertEntryBytes x).length ≤ 3 + (3 * i + k) from Nat.le_add_right 3 _)]
        exact congrArg (fun n => (es.flatMap advertEntryBytes ++ post)[n]?) (show 3 + (3 * i + k) - (advertEntryBytes x).length = 3 * i + k from Nat.add_sub_cancel_left 3 (3 * i + k))
      rw [hindex, hrest]
      exact ih i e h

theorem byteAt_of_getElem? {b : List Byte} {i : Nat} {x : Byte} (h : b[i]? = some x) : byteAt b i = x := by
  unfold byteAt
  rw [List.getD_eq_getElem?_getD, h]
  rfl

theorem advertFrameBytes_byte (f : AdvertFrame) {i k : Nat} {e : AdvertEntry} (he : f.entries[i]? = some e) (hk : k < 3) {x : Byte}
    (hx : (advertEntryBytes e)[k]? = some x) : byteAt (advertFrameBytes f) (4 + (3 * i + k)) = x := by
  refine byteAt_of_getElem? ?_
  unfold advertFrameBytes withCheck
  rw [List.append_assoc, List.getElem?_append_right (show List.length [advertKind, 0, f.sender, f.block] ≤ 4 + (3 * i + k) from Nat.le_add_right 4 _)]
  rw [show 4 + (3 * i + k) - List.length [advertKind, 0, f.sender, f.block] = 3 * i + k from Nat.add_sub_cancel_left 4 (3 * i + k)]
  exact (flatMap_entryBytes f.entries _ k hk i e he).trans hx

theorem advertEntryAt_bytes (f : AdvertFrame) {i : Nat} {e : AdvertEntry} (he : f.entries[i]? = some e) :
    advertEntryAt (advertFrameBytes f) i = e := by
  have h0 := advertFrameBytes_byte f he (k := 0) (by decide) rfl
  have h1 := advertFrameBytes_byte f he (k := 1) (by decide) rfl
  have h2 := advertFrameBytes_byte f he (k := 2) (by decide) rfl
  have hvia : 6 + 3 * i = 4 + (3 * i + 2) := by omega
  unfold advertEntryAt wordAt
  rw [show 4 + 3 * i = 4 + (3 * i + 0) from rfl, show 4 + (3 * i + 0) + 1 = 4 + (3 * i + 1) from rfl, hvia, h0, h1, h2, wordBytes_word]

theorem advertFrameBytes_length (f : AdvertFrame) (h : f.entries.length = 16) : (advertFrameBytes f).length = 54 := by
  have hentries : (f.entries.flatMap advertEntryBytes).length = 48 := by
    rw [List.length_flatMap, show f.entries.map (fun e => (advertEntryBytes e).length) = f.entries.map (fun _ => 3) from rfl, List.map_const', List.sum_replicate, h]
    rfl
  unfold advertFrameBytes withCheck
  rw [List.length_append, List.length_append, hentries]
  rfl

theorem readFrame_advertFrameBytes (f : AdvertFrame) (h : f.entries.length = 16) : readFrame (advertFrameBytes f) = some (.advert f) := by
  have hlen := advertFrameBytes_length f h
  have hentries : (List.range 16).map (advertEntryAt (advertFrameBytes f)) = f.entries := by
    refine List.ext_getElem (by rw [List.length_map, List.length_range, h]) fun i hi hi' => ?_
    rw [List.getElem_map, List.getElem_range]
    exact advertEntryAt_bytes f (List.getElem?_eq_getElem hi')
  have hread : ReadAs (advertFrameBytes f) (byteAt (advertFrameBytes f) 0).toNat (.advert (readAdvert (advertFrameBytes f))) := .advert hlen
  have hf : readAdvert (advertFrameBytes f) = f := congrArg (fun es => AdvertFrame.mk f.sender f.block es) hentries
  rw [hf] at hread
  exact readFrame_eq_some.2 ⟨by omega, checkGood_withCheck _, Nat.zero_le 15, hread⟩

/-! ### The fields an arrival is read as -/

theorem readAdvert_fields {b : List Byte} {f : AdvertFrame} (h : readFrame b = some (.advert f)) : f = readAdvert b := by
  obtain ⟨_, _, _, hread⟩ := readFrame_eq_some.1 h
  generalize (byteAt b 0).toNat = k at hread
  cases hread
  rfl

theorem readAdvert_entry (b : List Byte) (i : Fin 16) :
    (readAdvert b).entries[i.val]? = some { cost := wordAt b (4 + 3 * i.val), via := byteAt b (6 + 3 * i.val) } := by
  show ((List.range 16).map (advertEntryAt b))[i.val]? = _
  rw [List.getElem?_map, List.getElem?_range i.isLt]
  rfl

/-- A flooded frame read, by the kind in byte 0. -/
theorem readFlooded_fields {b : List Byte} {f : Frame} (h : readFrame b = some (.flooded f)) :
    f.hop = (byteAt b 1).toNat ∧ f.sender = byteAt b 2 ∧ (byteAt b 0 = 2 → f.body = .condition (readCondition b))
      ∧ (byteAt b 0 = 3 → f.body = .alarm (readAlarm b)) ∧ (byteAt b 0 = 4 → f.body = .clock (readClock b))
      ∧ (byteAt b 0 = 5 → f.body = .programme (readProgramme b)) := by
  obtain ⟨_, _, _, hread⟩ := readFrame_eq_some.1 h
  generalize hk : (byteAt b 0).toNat = k at hread
  have hne : ∀ {x : Byte}, x.toNat ≠ k → byteAt b 0 = x → False := fun hx e => hx (e ▸ hk)
  cases hread with
  | condition => exact ⟨rfl, rfl, fun _ => rfl, fun e => (hne (by decide) e).elim, fun e => (hne (by decide) e).elim, fun e => (hne (by decide) e).elim⟩
  | alarm => exact ⟨rfl, rfl, fun e => (hne (by decide) e).elim, fun _ => rfl, fun e => (hne (by decide) e).elim, fun e => (hne (by decide) e).elim⟩
  | clock => exact ⟨rfl, rfl, fun e => (hne (by decide) e).elim, fun e => (hne (by decide) e).elim, fun _ => rfl, fun e => (hne (by decide) e).elim⟩
  | programme => exact ⟨rfl, rfl, fun e => (hne (by decide) e).elim, fun e => (hne (by decide) e).elim, fun e => (hne (by decide) e).elim, fun _ => rfl⟩

/-! ### The check, bit by bit (R62) -/

theorem crc16_append (b : List Byte) (x : Byte) : crc16 (b ++ [x]) = crcByte (crc16 b) x := by
  unfold crc16
  rw [List.foldl_append]
  rfl

theorem checkGood_iff (b : List Byte) : checkGood b = true ↔ 2 ≤ b.length ∧ wordAt b (b.length - 2) = crc16 (b.take (b.length - 2)) := by
  unfold checkGood
  dsimp only
  rw [Bool.and_eq_true, decide_eq_true_iff, beq_iff_eq, eq_comm (a := wordAt _ _)]

/-- Settles O20: each layout as written, the fields as read, the check, and a frame read back. -/
theorem deckLinkFrameLayouts : Obligations.DeckLinkFrameLayouts := by
  refine ⟨fun hop sender => ⟨fun c => rfl, fun a => rfl, fun c => rfl, fun g => rfl⟩, fun f => rfl, fun b f h => ?_, fun b f h => readFlooded_fields h,
    fun b x w => ⟨rfl, rfl, rfl, crc16_append b x, checkGood_iff b⟩, fun p k f => ?_, readFrame_bytes, readFrame_advertFrameBytes⟩
  · obtain rfl := readAdvert_fields h
    exact ⟨rfl, rfl, by show ((List.range 16).map _).length = 16; rw [List.length_map, List.length_range], readAdvert_entry b⟩
  · obtain ⟨hop, sender, body⟩ := f
    cases body <;> rfl

end Sys2Proof.Machine
end

section
/-! PROOFS. The Advert Unit (04): a received ADVERT's writes, urgent and periodic requests, the gap timer (R35, R72, R86 to R89, R92). -/

namespace Sys2Proof.Machine

/-! ### A received ADVERT (R35, R92) -/

theorem legMatches_iff (p : Port) (sender : Byte) (r : LegRecord) :
    legMatches p sender r = true ↔ ∃ g, r.fixed = some g ∧ g.port = p ∧ g.neighbour = sender := by
  unfold legMatches
  cases r.fixed with
  | none => exact ⟨nofun, fun ⟨_, h, _⟩ => nomatch h⟩
  | some f =>
    rw [Bool.and_eq_true, beq_iff_eq, beq_iff_eq]
    exact ⟨fun h => ⟨f, rfl, h⟩, fun ⟨g, hg, h⟩ => Option.some.inj hg ▸ h⟩

theorem matchLeg_eq_none {legs : Vector LegRecord 6} {p : Port} {sender : Byte}
    (h : ∀ l : LegIx, ¬ ∃ g, legs[l].fixed = some g ∧ g.port = p ∧ g.neighbour = sender) : matchLeg legs p sender = none :=
  find_indices_none fun l => Bool.eq_false_iff.2 fun hl => h l ((legMatches_iff _ _ _).1 hl)

theorem matchLeg_eq_some {legs : Vector LegRecord 6} {p : Port} {sender : Byte} {l : LegIx}
    (h : ∃ g, legs[l].fixed = some g ∧ g.port = p ∧ g.neighbour = sender)
    (hleast : ∀ j : LegIx, (∃ g, legs[j].fixed = some g ∧ g.port = p ∧ g.neighbour = sender) → l ≤ j) : matchLeg legs p sender = some l := by
  obtain ⟨i, hi, hmatch⟩ := find_indices_some (q := fun l => legMatches p sender legs[l]) ⟨l, (legMatches_iff _ _ _).2 h⟩
  have hil : i ≤ l := find_indices_least hi ((legMatches_iff _ _ _).2 h)
  have hli : l ≤ i := hleast i ((legMatches_iff _ _ _).1 hmatch)
  exact hi.trans (congrArg some (le_antisymm hil hli))

theorem blockOfByte_above {b : Byte} (h : 3 < b.toNat) : blockOfByte b = none := dif_neg (by omega)

theorem blockOfByte_of_val {b : Byte} {k : BlockIx} (h : b.toNat = k.val) : blockOfByte b = some k := by
  unfold blockOfByte
  rw [dif_pos (by omega)]
  exact congrArg some (Fin.ext h)

theorem entryWrite_of_entry {f : AdvertFrame} {i : Fin 16} {e : AdvertEntry} (h : f.entries[i.val]? = some e) (self : Byte) (l : LegIx)
    (k : BlockIx) : entryWrite self l k f i = .advertisedCostWrite l (blockDest k i) (convertEntry self e) := by
  unfold entryWrite
  rw [List.getD_eq_getElem?_getD, h]
  rfl

theorem advertReceipt_discarded {s : State} {p : Port} {f : AdvertFrame} (hr : s.running = true)
    (h : blockOfByte f.block = none ∨ matchLeg s.lgm.legs p f.sender = none) :
    exec (.advertReceipt p f) s = .next (s.take (.advertReceipt p f)) := by
  show execAdvertReceipt p f s = _
  unfold execAdvertReceipt
  dsimp only
  rw [if_pos (show (s.take (.advertReceipt p f)).running = true from hr)]
  split
  · next b l hb hl =>
    cases h with
    | inl h => exact nomatch h.symm.trans hb
    | inr h => exact nomatch h.symm.trans hl
  · rfl

theorem advertReceipt_written {s : State} {p : Port} {f : AdvertFrame} {k : BlockIx} {l : LegIx} (hr : s.running = true)
    (hk : blockOfByte f.block = some k) (hl : matchLeg s.lgm.legs p f.sender = some l) :
    exec (.advertReceipt p f) s = .next ((s.take (.advertReceipt p f)).handOffs
      (.advertArrival l :: (indices 16).map (entryWrite s.pfl.profile.nodeId l k f))) := by
  show execAdvertReceipt p f s = _
  unfold execAdvertReceipt
  dsimp only
  rw [if_pos (show (s.take (.advertReceipt p f)).running = true from hr), hk,
    show matchLeg (s.take (.advertReceipt p f)).lgm.legs p f.sender = some l from hl]
  rfl

/-- Settles O30: the two discards, and the writes in entry order for the lowest matching leg. -/
theorem advertReceiptHandsArrivalThenSixteenWrites : Obligations.AdvertReceiptHandsArrivalThenSixteenWrites := by
  refine fun s p f hr => ⟨fun h => ?_, fun k l hk _ hl hleast => ?_⟩
  · refine ⟨_, advertReceipt_discarded hr (h.imp blockOfByte_above matchLeg_eq_none), rfl, ?_⟩
    exact fun b hb => by cases b <;> first | rfl | exact absurd (by simp) hb
  · refine ⟨_, advertReceipt_written hr (blockOfByte_of_val hk) (matchLeg_eq_some hl hleast),
      (indices 16).map (entryWrite s.pfl.profile.nodeId l k f), ?_, fun i e he => ?_, rfl, ?_⟩
    · rw [List.length_map]
      rfl
    · rw [List.getElem?_map, indices_getElem?, Option.map_some, entryWrite_of_entry he]
    · exact fun b hb => by cases b <;> first | rfl | exact absurd (by simp) hb

/-! ### One request (R72 note 2) -/

theorem request_of_unsent {sl : Slot Bool} {w : Held Bool} (h : sl.unsent = some w) (u : Bool) (fresh : Nat) :
    sl.request u fresh = { sl with unsent := some { w with item := w.item || u } } := by
  unfold Slot.request
  rw [h]

theorem request_of_empty {sl : Slot Bool} (h : sl.unsent = none) (u : Bool) (fresh : Nat) : sl.request u fresh = sl.place u fresh := by
  unfold Slot.request
  rw [h]

theorem request_inFlight (sl : Slot Bool) (u : Bool) (fresh : Nat) : (sl.request u fresh).inFlight = sl.inFlight := by
  cases h : sl.unsent with
  | none => rw [request_of_empty h]; rfl
  | some w => rw [request_of_unsent h]

/-- An urgent request waits, at the position and count of one waiting before. -/
theorem request_urgent (sl : Slot Bool) (fresh : Nat) : ∃ w, (sl.request true fresh).unsent = some w ∧ w.item = true
    ∧ ∀ x, sl.unsent = some x → w.pos = x.pos ∧ w.attempts = x.attempts := by
  cases h : sl.unsent with
  | none =>
    rw [request_of_empty h]
    exact ⟨_, rfl, rfl, nofun⟩
  | some w =>
    rw [request_of_unsent h]
    refine ⟨_, rfl, Bool.or_true _, fun x hx => ?_⟩
    obtain rfl := Option.some.inj hx
    exact ⟨rfl, rfl⟩

/-- A periodic request changes nothing where one waits. -/
theorem request_periodic_of_unsent {sl : Slot Bool} {w : Held Bool} (h : sl.unsent = some w) (fresh : Nat) : sl.request false fresh = sl := by
  rw [request_of_unsent h, Bool.or_false]
  obtain ⟨f, u⟩ := sl
  exact congrArg (Slot.mk f) h.symm

theorem requestAdvert_port (s : State) (p : Port) (b : BlockIx) (u : Bool) : (s.requestAdvert p b u).dlc.ports.get p
    = { s.dlc.ports.get p with advert := modifyAt (s.dlc.ports.get p).advert b (fun sl => sl.request u s.dlc.stamp) } := PerPort.get_set _ _ _

theorem requestAdvert_other (s : State) {p q : Port} (h : p ≠ q) (b : BlockIx) (u : Bool) :
    (s.requestAdvert p b u).dlc.ports.get q = s.dlc.ports.get q := PerPort.get_set_other _ _ _ _ h

/-! ### Urgent requests (R86, R88) -/

/-- An urgent request for a block waits on a port. -/
def Urged (lp : LinkPort) (b : BlockIx) : Prop := ∃ w, lp.advert[b].unsent = some w ∧ w.item = true

section
variable (s : State) (p : Port) (b : BlockIx)

theorem markUrgent_aduPort : (s.markUrgent p b).adu.ports.get p
    = { s.adu.ports.get p with urgent := setAt (s.adu.ports.get p).urgent b true } := PerPort.get_set _ _ _

theorem markUrgent_aduOther {q : Port} (h : p ≠ q) : (s.markUrgent p b).adu.ports.get q = s.adu.ports.get q :=
  PerPort.get_set_other _ _ _ _ h

theorem markUrgent_urged : Urged ((s.markUrgent p b).dlc.ports.get p) b := by
  obtain ⟨w, hw, hitem, _⟩ := request_urgent (s.dlc.ports.get p).advert[b] s.dlc.stamp
  exact ⟨w, (congrArg Slot.unsent (markUrgent_change s p b).block).trans hw, hitem⟩

theorem markUrgent_keepsUrged {q : Port} {c : BlockIx} (h : Urged (s.dlc.ports.get q) c) : Urged ((s.markUrgent p b).dlc.ports.get q) c := by
  by_cases hq : p = q
  · subst hq
    by_cases hc : b = c
    · subst hc
      exact markUrgent_urged s p b
    · obtain ⟨w, hw, hitem⟩ := h
      exact ⟨w, (congrArg Slot.unsent (((markUrgent_change s p b).advert c).trans (if_neg fun e => hc (SlotName.advert.inj e)))).trans hw, hitem⟩
  · have hport : (s.markUrgent p b).dlc.ports.get q = s.dlc.ports.get q := PerPort.get_set_other _ _ _ _ hq
    rw [hport]
    exact h

/-- The urgent request of a block whose changed flag for a port is set (R86). -/
def State.urgeBlock : State := if blockChanged s.rtu.table p b then s.markUrgent p b else s

theorem urgeBlock_rtu : (s.urgeBlock p b).rtu = s.rtu := by
  unfold State.urgeBlock
  split <;> rfl

theorem urgeBlock_aduPort : (s.urgeBlock p b).adu.ports.get p = { s.adu.ports.get p with
    urgent := if blockChanged s.rtu.table p b then setAt (s.adu.ports.get p).urgent b true else (s.adu.ports.get p).urgent } := by
  unfold State.urgeBlock
  split
  · exact markUrgent_aduPort s p b
  · rfl

theorem urgeBlock_aduOther {q : Port} (h : p ≠ q) : (s.urgeBlock p b).adu.ports.get q = s.adu.ports.get q := by
  unfold State.urgeBlock
  split
  · exact markUrgent_aduOther s p b h
  · rfl

theorem urgeBlock_tick : (s.urgeBlock p b).adu.tickRunning = s.adu.tickRunning := by
  unfold State.urgeBlock
  split <;> rfl

theorem urgeBlock_urged (h : blockChanged s.rtu.table p b = true) : Urged ((s.urgeBlock p b).dlc.ports.get p) b := by
  unfold State.urgeBlock
  rw [if_pos h]
  exact markUrgent_urged s p b

theorem urgeBlock_keepsUrged {q : Port} {c : BlockIx} (h : Urged (s.dlc.ports.get q) c) : Urged ((s.urgeBlock p b).dlc.ports.get q) c := by
  unfold State.urgeBlock
  split
  · exact markUrgent_keepsUrged s p b h
  · exact h

end

/-- What urging some blocks of a port does to the ADU and to the requests (R86). -/
structure UrgedFor (p : Port) (ls : List BlockIx) (s t : State) : Prop where
  rtu      : t.rtu = s.rtu
  tick     : t.adu.tickRunning = s.adu.tickRunning
  other    : ∀ q, p ≠ q → t.adu.ports.get q = s.adu.ports.get q
  rotation : (t.adu.ports.get p).rotation = (s.adu.ports.get p).rotation
  gap      : (t.adu.ports.get p).gapRunning = (s.adu.ports.get p).gapRunning
  urgent   : ∀ c : BlockIx, (t.adu.ports.get p).urgent[c] = true
    ↔ (s.adu.ports.get p).urgent[c] = true ∨ c ∈ ls ∧ blockChanged s.rtu.table p c = true
  keeps    : ∀ q (c : BlockIx), Urged (s.dlc.ports.get q) c → Urged (t.dlc.ports.get q) c
  urged    : ∀ c : BlockIx, c ∈ ls → blockChanged s.rtu.table p c = true → Urged (t.dlc.ports.get p) c

theorem urgeBlocks_urgedFor (p : Port) (ls : List BlockIx) : ∀ s : State, UrgedFor p ls s (ls.foldl (fun s b => s.urgeBlock p b) s) := by
  induction ls with
  | nil => exact fun s => ⟨rfl, rfl, fun _ _ => rfl, rfl, rfl, fun c => by simp, fun _ _ h => h, fun c hc => absurd hc List.not_mem_nil⟩
  | cons b ls ih =>
    intro s
    have h := ih (s.urgeBlock p b)
    have hport := urgeBlock_aduPort s p b
    rw [List.foldl_cons]
    refine ⟨h.rtu.trans (urgeBlock_rtu s p b), h.tick.trans (urgeBlock_tick s p b), fun q hq => (h.other q hq).trans (urgeBlock_aduOther s p b hq),
      h.rotation.trans (by rw [hport]), h.gap.trans (by rw [hport]), fun c => ?_,
      fun q c hc => h.keeps q c (urgeBlock_keepsUrged s p b hc), fun c hc hchanged => ?_⟩
    · rw [h.urgent c, urgeBlock_rtu, hport, List.mem_cons]
      by_cases hb : blockChanged s.rtu.table p b = true
      · rw [if_pos hb]
        by_cases hcb : b = c
        · subst hcb
          rw [setAt_same]
          exact iff_of_true (Or.inl rfl) (Or.inr ⟨Or.inl rfl, hb⟩)
        · rw [setAt_other _ _ _ _ hcb]
          have hne : c ≠ b := fun e => hcb e.symm
          simp only [hne, false_or]
      · rw [if_neg hb]
        refine or_congr_right ⟨fun ⟨hm, hc⟩ => ⟨Or.inr hm, hc⟩, fun ⟨hm, hc⟩ => ⟨hm.resolve_left fun e => hb (e ▸ hc), hc⟩⟩
    · cases List.mem_cons.1 hc with
      | inl e =>
        subst e
        exact h.keeps p _ (urgeBlock_urged s p _ hchanged)
      | inr hm => exact h.urged c hm (by rw [urgeBlock_rtu]; exact hchanged)

theorem urgeChanged_urgedFor (s : State) (p : Port) : UrgedFor p (indices 4) s (s.urgeChanged p) := urgeBlocks_urgedFor p (indices 4) s

theorem blockChanged_iff (t : Vector Entry 64) (p : Port) (b : BlockIx) :
    blockChanged t p b = true ↔ ∃ d : DestIx, d.val / 16 = b.val ∧ t[d].changed p = true := by
  unfold blockChanged
  rw [List.any_eq_true]
  refine ⟨fun ⟨d, _, h⟩ => ⟨d, ?_⟩, fun ⟨d, hd, hc⟩ => ⟨d, mem_indices d, ?_⟩⟩
  · obtain ⟨hb, hc⟩ := Bool.and_eq_true_iff.1 h
    exact ⟨(blockOf_eq_iff d b).1 (beq_iff_eq.1 hb), hc⟩
  · exact Bool.and_eq_true_iff.2 ⟨beq_iff_eq.2 ((blockOf_eq_iff d b).2 hd), hc⟩

/-- The state once the tick timer runs. -/
def State.tickStarted (s : State) : State :=
  { s.take .aduProfileLoad with adu := { s.adu with tickRunning := true } }

theorem aduProfileLoad_eq {s : State} (hr : s.running = true) (hl : .aduProfileLoad ∈ s.handoffs) :
    exec .aduProfileLoad s = .next ((s.tickStarted.urgeChanged .da).urgeChanged .db) :=
  if_pos (Bool.and_eq_true_iff.2 ⟨hr, List.contains_iff_mem.2 hl⟩)

theorem aduLoad_urges {s : State} (hr : s.running = true) (hl : .aduProfileLoad ∈ s.handoffs) :
    Completes (exec .aduProfileLoad s) (fun t =>
      t.adu.tickRunning = true
      ∧ (∀ (p : Port) (b : BlockIx), (t.adu.ports.get p).urgent[b] = true ↔
          (s.adu.ports.get p).urgent[b] = true ∨ ∃ d : DestIx, d.val / 16 = b.val ∧ (s.rtu.table[d]).changed p = true)
      ∧ (∀ (p : Port) (b : BlockIx), (∃ d : DestIx, d.val / 16 = b.val ∧ (s.rtu.table[d]).changed p = true) →
          ∃ w, (t.dlc.ports.get p).advert[b].unsent = some w ∧ w.item = true)
      ∧ (∀ p : Port, (t.adu.ports.get p).rotation = (s.adu.ports.get p).rotation
          ∧ (t.adu.ports.get p).gapRunning = (s.adu.ports.get p).gapRunning)
      ∧ t.handoffs = s.handoffs.erase .aduProfileLoad ∧ Frame.only [.adu, .dlc, .handoffs] s t) := by
  have hda := urgeChanged_urgedFor s.tickStarted .da
  have hdb := urgeChanged_urgedFor (s.tickStarted.urgeChanged .da) .db
  have hwithin := (urgeChanged_within s.tickStarted .da).trans (urgeChanged_within _ .db)
  have hframe : Frame.only [.adu, .dlc] s.tickStarted ((s.tickStarted.urgeChanged .da).urgeChanged .db) := hwithin.same
  have hhandoffs : ((s.tickStarted.urgeChanged .da).urgeChanged .db).handoffs = s.tickStarted.handoffs := hframe .handoffs (by simp)
  have hda_da := hdb.other .da (by decide)
  have hdb_db := hda.other .db (by decide)
  refine ⟨_, aduProfileLoad_eq hr hl, hdb.tick.trans hda.tick, fun p b => ?_, fun p b h => ?_, fun p => ?_, hhandoffs, ?_⟩
  · rw [← blockChanged_iff]
    cases p with
    | da =>
      rw [hda_da, hda.urgent]
      exact or_congr_right (and_iff_right (mem_indices b))
    | db =>
      rw [hdb.urgent, hdb_db, hda.rtu]
      exact or_congr_right (and_iff_right (mem_indices b))
  · rw [← blockChanged_iff] at h
    cases p with
    | da => exact hdb.keeps .da b (hda.urged b (mem_indices b) h)
    | db => exact hdb.urged b (mem_indices b) (by rw [hda.rtu]; exact h)
  · cases p with
    | da =>
      rw [hda_da]
      exact ⟨hda.rotation, hda.gap⟩
    | db =>
      have hrotation := hdb.rotation
      have hgap := hdb.gap
      rw [hdb_db] at hrotation hgap
      exact ⟨hrotation, hgap⟩
  · refine only_trans (t := s.tickStarted) ?_ (only_mono hframe (by simp))
    exact fun b hb => by cases b <;> first | rfl | exact absurd (by simp) hb

/-! ### Reports of changed flags (R88) -/

theorem changedFlagReport_set {s : State} {p : Port} {d : DestIx} (h : (s.adu.ports.get p).urgent[blockOf d] = true) :
    exec (.changedFlagReport p d) s = .next (s.take (.changedFlagReport p d)) := by
  have hcond : ¬ ((s.take (.changedFlagReport p d)).running && (s.take (.changedFlagReport p d)).adu.tickRunning
      && !((s.take (.changedFlagReport p d)).adu.ports.get p).urgent[blockOf d]) = true := by
    show ¬ (s.running && s.adu.tickRunning && !(s.adu.ports.get p).urgent[blockOf d]) = true
    rw [h, Bool.not_true, Bool.and_false]
    exact Bool.false_ne_true
  exact if_neg hcond

theorem changedFlagReport_clear {s : State} {p : Port} {d : DestIx} (hr : s.running = true) (ht : s.adu.tickRunning = true)
    (h : (s.adu.ports.get p).urgent[blockOf d] = false) :
    exec (.changedFlagReport p d) s = .next ((s.take (.changedFlagReport p d)).markUrgent p (blockOf d)) := by
  have hcond : ((s.take (.changedFlagReport p d)).running && (s.take (.changedFlagReport p d)).adu.tickRunning
      && !((s.take (.changedFlagReport p d)).adu.ports.get p).urgent[blockOf d]) = true := by
    show (s.running && s.adu.tickRunning && !(s.adu.ports.get p).urgent[blockOf d]) = true
    rw [h, hr, ht]
    rfl
  exact if_pos hcond

/-! ### The advert tick (R87) -/

theorem modifyAt_of_fixed {α : Type} {n : Nat} (v : Vector α n) (i : Fin n) {f : α → α} (h : f v[i] = v[i]) : modifyAt v i f = v :=
  (congrArg (setAt v i) h).trans (setAt_self v i)

section
variable (s : State) (p : Port)

theorem rotatePort_aduPort : (s.rotatePort p).adu.ports.get p
    = { s.adu.ports.get p with rotation := nextBlock (s.adu.ports.get p).rotation } := PerPort.get_set _ _ _

theorem rotatePort_aduOther {q : Port} (h : p ≠ q) : (s.rotatePort p).adu.ports.get q = s.adu.ports.get q := PerPort.get_set_other _ _ _ _ h

theorem rotatePort_port : (s.rotatePort p).dlc.ports.get p = { s.dlc.ports.get p with
    advert := modifyAt (s.dlc.ports.get p).advert (s.adu.ports.get p).rotation (fun sl => sl.request false s.dlc.stamp) } :=
  requestAdvert_port s p _ false

theorem rotatePort_other {q : Port} (h : p ≠ q) : (s.rotatePort p).dlc.ports.get q = s.dlc.ports.get q := requestAdvert_other s h _ false

end

/-- A port's share of an advert tick, on the ADU's side and on the port's. -/
structure Ticked (ap : AduPort) (lp : LinkPort) (ap' : AduPort) (lp' : LinkPort) : Prop where
  rotation : ap'.rotation.val = (ap.rotation.val + 1) % 4
  urgent   : ap'.urgent = ap.urgent
  gap      : ap'.gapRunning = ap.gapRunning
  waiting  : ∀ w, lp.advert[ap.rotation].unsent = some w → lp' = lp
  empty    : lp.advert[ap.rotation].unsent = none →
    (∃ w, lp'.advert[ap.rotation].unsent = some w ∧ w.item = false ∧ w.attempts = 0)
    ∧ lp'.advert[ap.rotation].inFlight = lp.advert[ap.rotation].inFlight
    ∧ ∀ c : BlockIx, c ≠ ap.rotation → lp'.advert[c] = lp.advert[c]

theorem rotatePort_ticked (s : State) (p : Port) : Ticked (s.adu.ports.get p) (s.dlc.ports.get p) ((s.rotatePort p).adu.ports.get p)
    ((s.rotatePort p).dlc.ports.get p) := by
  rw [rotatePort_aduPort, rotatePort_port]
  refine ⟨rfl, rfl, rfl, fun w hw => ?_, fun hnone => ?_⟩
  · rw [modifyAt_of_fixed _ _ (request_periodic_of_unsent hw _)]
  · have hblock := (modifyAt_get (s.dlc.ports.get p).advert (s.adu.ports.get p).rotation (s.adu.ports.get p).rotation
      (fun sl => sl.request false s.dlc.stamp)).trans (if_pos rfl)
    rw [request_of_empty hnone] at hblock
    refine ⟨⟨_, congrArg Slot.unsent hblock, rfl, rfl⟩, (congrArg Slot.inFlight hblock).trans rfl, fun c hc => ?_⟩
    exact (modifyAt_get _ _ _ _).trans (if_neg fun e => hc e.symm)

theorem advertTick_eq {s : State} (hr : s.running = true) (ht : s.adu.tickRunning = true) :
    exec .advertTick s = .next ((s.rotatePort .da).rotatePort .db) := if_pos (Bool.and_eq_true_iff.2 ⟨hr, ht⟩)

theorem tick_ticked (s : State) (p : Port) : Ticked (s.adu.ports.get p) (s.dlc.ports.get p)
    (((s.rotatePort .da).rotatePort .db).adu.ports.get p) (((s.rotatePort .da).rotatePort .db).dlc.ports.get p) := by
  cases p with
  | da =>
    rw [rotatePort_aduOther _ _ (by decide), rotatePort_other _ _ (by decide)]
    exact rotatePort_ticked s .da
  | db =>
    have h := rotatePort_ticked (s.rotatePort .da) .db
    rw [rotatePort_aduOther _ _ (by decide), rotatePort_other _ _ (by decide)] at h
    exact h

/-- Settles O31: the load, the report, the gap timer and the tick. -/
theorem advertRequestsFollowFlagsAndTick : Obligations.AdvertRequestsFollowFlagsAndTick := by
  refine ⟨fun s hr hl => aduLoad_urges hr hl, fun s p d b hr ht hd => ?_, fun s p => ?_, fun s hr ht => ?_⟩
  · obtain rfl : blockOf d = b := (blockOf_eq_iff d b).2 hd
    cases hu : (s.adu.ports.get p).urgent[blockOf d] with
    | true =>
      refine ⟨_, changedFlagReport_set hu, rfl, fun _ => ?_, fun h => nomatch h⟩
      exact fun b hb => by cases b <;> first | rfl | exact absurd (by simp) hb
    | false =>
      have hblock := (markUrgent_change (s.take (.changedFlagReport p d)) p (blockOf d)).block
      refine ⟨_, changedFlagReport_clear hr ht hu, rfl, (fun h => nomatch h), fun _ => ⟨?_, markUrgent_aduOther _ _ _ (otherPort_ne p),
        markUrgent_otherPort _ _ _, ?_, ?_, ?_⟩⟩
      · exact congrArg AduPort.urgent (markUrgent_aduPort _ _ _)
      · exact (congrArg Slot.inFlight hblock).trans (request_inFlight _ _ _)
      · rw [hblock]
        exact request_urgent _ _
      · exact fun b hb => by cases b <;> first | rfl | exact absurd (by simp) hb
  · refine ⟨_, rfl, PerPort.get_set _ _ _, PerPort.get_set_other _ _ _ _ (otherPort_ne p), rfl, ?_⟩
    exact fun b hb => by cases b <;> first | rfl | exact absurd (by simp) hb
  · refine ⟨_, advertTick_eq hr ht, fun p => ?_, ht, rfl, ?_⟩
    · have h := tick_ticked s p
      exact ⟨h.rotation, h.urgent, h.gap, h.waiting, h.empty⟩
    · exact fun b hb => by cases b <;> first | rfl | exact absurd (by simp) hb

end Sys2Proof.Machine
end

section
/-! PROOFS. The Muster Controller (05): adoption, the load, repeats and the return to QUIET (R69, R104, R107 to R116). -/

namespace Sys2Proof.Machine

/-! ### An ALARM placed (R72, R112) -/

/-- An ALARM is placed in its slot, and displaces nothing. -/
theorem place_alarm (s : State) (q : Port) {fr : Frame} {a : AlarmBody} (h : fr.body = .alarm a) :
    s.place q .flood fr = { s with dlc := { s.dlc with
      ports := s.dlc.ports.set q { s.dlc.ports.get q with alarm := (s.dlc.ports.get q).alarm.place fr s.dlc.stamp },
      stamp := s.dlc.stamp + 1 } } := by
  obtain ⟨hop, sender, body⟩ := fr
  subst h
  rfl

/-- An alarm waits in a slot, unsent; what was in flight still is. -/
def AlarmWaits (fr : Frame) (before after : Slot Frame) : Prop :=
  after.inFlight = before.inFlight ∧ after.unsent.map (·.item) = some fr

theorem placeBoth_alarm (s : State) {fr : Frame} {a : AlarmBody} (h : fr.body = .alarm a) (q : Port) :
    AlarmWaits fr (s.dlc.ports.get q).alarm ((s.placeBoth fr).dlc.ports.get q).alarm := by
  unfold State.placeBoth
  rw [place_alarm s .da h, place_alarm _ .db h]
  cases q <;> exact ⟨rfl, rfl⟩

theorem placeBoth_alarm_frame (s : State) {fr : Frame} {a : AlarmBody} (h : fr.body = .alarm a) : Frame.only [.dlc] s (s.placeBoth fr) := by
  unfold State.placeBoth
  rw [place_alarm s .da h, place_alarm _ .db h]
  exact fun b hb => by cases b <;> first | rfl | exact absurd (by simp) hb

theorem placeBoth_ring (s : State) (fr : Frame) : (s.placeBoth fr).dlc.ring = s.dlc.ring := by
  unfold State.placeBoth
  rw [place_ring, place_ring]

theorem placeAlarm_eq {s : State} {e : Word} (he : s.muc.epoch = some e) (hq : s.muc.phase ≠ .quiet) :
    s.placeAlarm = s.placeBoth (s.ownFrame (.alarm (alarmBody s.muc e))) := by
  unfold State.placeAlarm
  rw [he]
  exact if_neg hq

section
variable {s : State} {e : Word} (he : s.muc.epoch = some e) (hq : s.muc.phase ≠ .quiet)
include he hq

theorem placeAlarm_waits (q : Port) :
    AlarmWaits (s.ownFrame (.alarm (alarmBody s.muc e))) (s.dlc.ports.get q).alarm (s.placeAlarm.dlc.ports.get q).alarm := by
  rw [placeAlarm_eq he hq]
  exact placeBoth_alarm s rfl q

theorem placeAlarm_frame : Frame.only [.dlc] s s.placeAlarm := by
  rw [placeAlarm_eq he hq]
  exact placeBoth_alarm_frame s rfl

theorem placeAlarm_ring : s.placeAlarm.dlc.ring = s.dlc.ring := by
  rw [placeAlarm_eq he hq]
  exact placeBoth_ring s _

end

/-! ### Adoption (R107 to R110) -/

theorem adopts_iff (m : Muc) (epoch : Word) (origin : Byte) : m.adopts epoch origin = true ↔ m.epoch = none ∨ ∃ e, m.epoch = some e ∧
    ((1 ≤ (epoch - e).toNat ∧ (epoch - e).toNat ≤ 32767) ∨ (epoch = e ∧ origin.toNat < m.origin.toNat)) := by
  unfold Muc.adopts
  cases m.epoch with
  | none => exact iff_of_true rfl (Or.inl rfl)
  | some e =>
    simp only [Bool.or_eq_true, epochNewer_iff, Bool.and_eq_true, beq_iff_eq, decide_eq_true_iff, Option.some.injEq, exists_eq_left',
      reduceCtorEq, false_or]

theorem holdRequests_eq (held : Option Phase) (ph : Phase) :
    holdRequests held ph = if held = some ph then [] else (held.toList.map Instr.releaseRequest) ++ [.holdRequest ph] := by
  unfold holdRequests
  cases held <;> rfl

theorem alarmReceipt_ignored {s : State} {p : Port} {hop : Nat} {a : AlarmBody}
    (h : phaseOfCode a.phaseCode = none ∨ s.muc.adopts a.epoch a.origin = false) :
    exec (.alarmReceipt p hop a) s = .next (s.take (.alarmReceipt p hop a)) := by
  show execAlarmReceipt p hop a s = _
  unfold execAlarmReceipt
  dsimp only
  cases hph : phaseOfCode a.phaseCode with
  | none => rfl
  | some ph =>
    have hno : (s.take (.alarmReceipt p hop a)).muc.adopts a.epoch a.origin = false := h.resolve_left (fun e => nomatch hph.symm.trans e)
    dsimp only
    rw [hno, Bool.and_false]
    rfl

/-- The state once an ALARM's phase is adopted, before its relay. -/
def State.alarmAdopted (s : State) (p : Port) (hop : Nat) (a : AlarmBody) (ph : Phase) : State :=
  (s.take (.alarmReceipt p hop a)).adopt a.epoch ph a.origin a.zones

theorem alarmReceipt_adopted {s : State} {p : Port} {hop : Nat} {a : AlarmBody} {ph : Phase} (hr : s.running = true)
    (hph : phaseOfCode a.phaseCode = some ph) (h : s.muc.adopts a.epoch a.origin = true) : exec (.alarmReceipt p hop a) s
      = .next ((s.alarmAdopted p hop a ph).relay p hop s.pfl.profile.relayLimit s.pfl.profile.nodeId (.alarm a)) := by
  show execAlarmReceipt p hop a s = _
  unfold execAlarmReceipt
  dsimp only
  rw [hph]
  exact if_pos (Bool.and_eq_true_iff.2 ⟨hr, h⟩)

section
variable (s : State) (p : Port) (hop : Nat) (a : AlarmBody) (ph : Phase)

theorem alarmAdopted_muc : (s.alarmAdopted p hop a ph).muc = { epoch := some a.epoch, phase := ph, origin := a.origin, zones := a.zones
                                                               standDown := if ph = .standDown then 60 else 0, repeatRunning := true, held := some ph } := rfl

theorem alarmAdopted_hpt : (s.alarmAdopted p hop a ph).hpt = { s.hpt with musterChange := true } := rfl

theorem alarmAdopted_dlc : (s.alarmAdopted p hop a ph).dlc = s.dlc := rfl

theorem alarmAdopted_handoffs : (s.alarmAdopted p hop a ph).handoffs = s.handoffs.erase (.alarmReceipt p hop a)
    ++ [.musterReportLgm, .musterReportFcu, .musterAdoptionFsc]
    ++ (if s.muc.held = some ph then [] else (s.muc.held.toList.map Instr.releaseRequest) ++ [.holdRequest ph]) := by
  rw [← holdRequests_eq, List.append_assoc]
  rfl

theorem relay_alarm_hpt (limit : Nat) (sender : Byte) : (s.relay p hop limit sender (.alarm a)).hpt = s.hpt := by
  unfold State.relay
  split
  · rw [place_alarm s (otherPort p) rfl]
  · rfl

theorem relay_alarm_slot {limit : Nat} (sender : Byte) (h : hop + 1 ≤ limit) :
    ((s.relay p hop limit sender (.alarm a)).dlc.ports.get (otherPort p)).alarm
      = (s.dlc.ports.get (otherPort p)).alarm.place { hop := hop + 1, sender := sender, body := .alarm a } s.dlc.stamp := by
  rw [relay_within_limit h, place_alarm s (otherPort p) rfl]
  exact congrArg LinkPort.alarm (PerPort.get_set _ _ _)

end

/-- Settles O33: the discards, and the adoption with its relay. -/
theorem alarmReceiptAdoptsOrIgnores : Obligations.AlarmReceiptAdoptsOrIgnores := by
  intro s p hop a hr
  refine ⟨fun h => ?_, fun ph hph hadopt => ?_⟩
  · have hno : phaseOfCode a.phaseCode = none ∨ s.muc.adopts a.epoch a.origin = false :=
      h.imp_right fun hn => Bool.eq_false_iff.2 fun ht => hn ((adopts_iff _ _ _).1 ht)
    refine ⟨_, alarmReceipt_ignored hno, rfl, ?_⟩
    exact fun b hb => by cases b <;> first | rfl | exact absurd (by simp) hb
  · have hexec := alarmReceipt_adopted (p := p) (hop := hop) hr hph ((adopts_iff _ _ _).2 hadopt)
    have hframe := ((exec_within (.alarmReceipt p hop a) s).of_eq hexec).same
    refine ⟨_, hexec, ?_, ?_, ?_, ?_, ?_, fun hl => ?_, fun hl => ?_, only_mono hframe (by simp [touched])⟩
    · exact (State.relay_muc _ _ _ _ _ _).trans (alarmAdopted_muc s p hop a ph)
    · exact (relay_alarm_hpt _ _ _ _ _ _).trans (alarmAdopted_hpt s p hop a ph)
    · exact (State.relay_handoffs _ _ _ _ _ _).trans (alarmAdopted_handoffs s p hop a ph)
    · rw [relay_ring, alarmAdopted_dlc]
    · rw [relay_port, alarmAdopted_dlc]
    · rw [relay_past_limit hl, alarmAdopted_dlc]
    · rw [relay_alarm_slot _ _ _ _ _ hl, alarmAdopted_dlc]

/-! ### The load, the repeats and the return to QUIET (R104, R114, R116) -/

/-- The muster record at the entry to RUNNING with a kept phase (R104). -/
def Muc.loaded (m : Muc) : Muc := { m with repeatRunning := true, held := some m.phase, standDown := m.standDownAtLoad }

theorem mucProfileLoad_eq {s : State} (hr : s.running = true) (hl : .mucProfileLoad ∈ s.handoffs) (hq : s.muc.phase ≠ .quiet) :
    exec .mucProfileLoad s = .next (({ (s.take .mucProfileLoad).placeAlarm with
      muc := (s.take .mucProfileLoad).placeAlarm.muc.loaded } : State).handOff (.holdRequest (s.take .mucProfileLoad).placeAlarm.muc.phase)) :=
  if_pos (Bool.and_eq_true_iff.2 ⟨Bool.and_eq_true_iff.2 ⟨hr, List.contains_iff_mem.2 hl⟩, bne_iff_ne.2 hq⟩)

theorem mucProfileLoad_quiet {s : State} (hq : s.muc.phase = .quiet) : exec .mucProfileLoad s = .next (s.take .mucProfileLoad) := by
  refine if_neg fun h => ?_
  exact bne_iff_ne.1 (Bool.and_eq_true_iff.1 h).2 hq

theorem repeatTimerExpiry_running {s : State} (hr : s.running = true) (hrep : s.muc.repeatRunning = true) :
    exec .repeatTimerExpiry s = .next s.placeAlarm := congrArg _ (if_pos (Bool.and_eq_true_iff.2 ⟨hrep, hr⟩))

theorem repeatTimerExpiry_not_running {s : State} (hr : s.running = false) : exec .repeatTimerExpiry s = .next s :=
  congrArg _ (if_neg fun h => Bool.noConfusion (hr.symm.trans (Bool.and_eq_true_iff.1 h).2))

/-- The state at the return to QUIET, before other blocks are told. -/
def State.quieted (s : State) : State := { s with muc := s.muc.toQuiet }.setMusterChange

theorem standDownTimerExpiry_eq {s : State} (ht : 0 < s.muc.standDown) (hp : s.muc.phase = .standDown) :
    exec .standDownTimerExpiry s = .next (if s.running then s.quieted.handOffs (quietHandOffs s.muc.held) else s.quieted) := by
  refine if_pos (Bool.and_eq_true_iff.2 ⟨?_, beq_iff_eq.2 hp⟩)
  exact decide_eq_true ht

theorem quietHandOffs_eq (held : Option Phase) :
    quietHandOffs held = [.returnToQuietLgm, .returnToQuietFcu] ++ held.toList.map Instr.releaseRequest := by
  cases held <;> rfl

/-- Settles O34: the load in a kept phase and in QUIET, the repeat, and the stand-down timer. -/
theorem musterLoadRepeatAndStandDown : Obligations.MusterLoadRepeatAndStandDown := by
  intro s
  refine ⟨fun hr hl e he hq => ?_, fun hr hq => ?_, fun hr hrep e he hq => ?_, fun hnode => ?_, fun ht hp => ?_⟩
  · have hframe : Frame.only [.dlc] (s.take .mucProfileLoad) (s.take .mucProfileLoad).placeAlarm :=
      placeAlarm_frame (s := s.take .mucProfileLoad) he hq
    have hmuc : (s.take .mucProfileLoad).placeAlarm.muc = s.muc := hframe .muc (by simp)
    have hhandoffs : (s.take .mucProfileLoad).placeAlarm.handoffs = s.handoffs.erase .mucProfileLoad := hframe .handoffs (by simp)
    have hexec := mucProfileLoad_eq hr hl hq
    rw [hmuc] at hexec
    refine ⟨_, hexec, placeAlarm_waits (s := s.take .mucProfileLoad) he hq, rfl, ?_, placeAlarm_ring (s := s.take .mucProfileLoad) he hq,
      only_trans (only_mono (take_within s .mucProfileLoad).same (by simp)) (only_trans (only_mono hframe (by simp)) fun b hb => ?_)⟩
    · exact congrArg (· ++ [Instr.holdRequest s.muc.phase]) hhandoffs
    · cases b <;> first | exact rfl | exact absurd (by simp) hb
  · refine ⟨_, mucProfileLoad_quiet hq, ?_⟩
    exact fun b hb => by cases b <;> first | rfl | exact absurd (by simp) hb
  · exact ⟨_, repeatTimerExpiry_running hr hrep, placeAlarm_waits he hq, placeAlarm_ring he hq, placeAlarm_frame he hq⟩
  · refine repeatTimerExpiry_not_running ?_
    unfold State.running
    rw [hnode]
    rfl
  · have hexec := standDownTimerExpiry_eq ht hp
    cases hr : s.running with
    | true =>
      rw [hr, if_pos rfl] at hexec
      refine ⟨_, hexec, rfl, rfl, fun _ => ?_, (fun h => nomatch h), ?_⟩
      · rw [List.append_assoc, ← quietHandOffs_eq]
        rfl
      · exact fun b hb => by cases b <;> first | rfl | exact absurd (by simp) hb
    | false =>
      rw [hr, if_neg Bool.false_ne_true] at hexec
      refine ⟨_, hexec, rfl, rfl, (fun h => nomatch h), fun _ => rfl, ?_⟩
      exact fun b hb => by cases b <;> first | rfl | exact absurd (by simp) hb

end Sys2Proof.Machine
end

section
/-! PROOFS. The Ship Clock and the minutes of the Programme List Unit (06): R127 to R131, R133, R141, R142. -/

namespace Sys2Proof.Machine

/-! ### The clock moves (R129, R130) -/

/-- The events of a minute event, by node state (R128, R130). -/
def minuteEvents (n : NodeState) (old : Option Nat) (new : Nat) : List Instr :=
  match n with
  | .running => [.minuteEventPlu old new, .minuteEventFcu old new]
  | .starting => [.minuteEventPlu old new]
  | .fallback => []

theorem minuteEvent_handoffs (s : State) (old : Option Nat) (new : Nat) :
    (s.minuteEvent old new).handoffs = s.handoffs ++ minuteEvents s.pfl.node old new := by
  unfold State.minuteEvent
  cases s.pfl.node with
  | fallback => exact (List.append_nil _).symm
  | _ => rfl

theorem clockMoves_frame (s : State) (c : Sck) : Frame.only [.sck, .handoffs] s (s.clockMoves c) := (clockMoves_within s c).same

theorem clockMoves_still {s : State} {c : Sck} (h : s.sck.oldMinute = some c.now) : (s.clockMoves c).handoffs = s.handoffs := by
  unfold State.clockMoves
  dsimp only
  rw [if_pos h]

theorem clockMoves_minute {s : State} {c : Sck} (h : s.sck.oldMinute ≠ some c.now) :
    (s.clockMoves c).handoffs = s.handoffs ++ minuteEvents s.pfl.node s.sck.oldMinute c.now := by
  unfold State.clockMoves
  dsimp only
  rw [if_neg h]
  exact minuteEvent_handoffs _ _ _

theorem oldMinute_set {c : Sck} (h : c.isSet = true) : c.oldMinute = some c.now := if_pos h

theorem oldMinute_unset {c : Sck} (h : c.isSet = false) : c.oldMinute = none := if_neg (by rw [h]; exact Bool.false_ne_true)

/-! ### One second on (R129) -/

theorem advance_second {c : Sck} (h : c.second < 59) : c.advance = { c with second := c.second + 1 } := if_pos h

theorem advance_minute {c : Sck} (hs : c.second = 59) (h : c.minute < 1439) : c.advance = { c with second := 0, minute := c.minute + 1 } :=
  (if_neg (by omega)).trans (if_pos h)

theorem advance_day {c : Sck} (hs : c.second = 59) (hm : c.minute = 1439) (h : c.day < 255) :
    c.advance = { c with second := 0, minute := 0, day := c.day + 1 } :=
  (if_neg (by omega)).trans ((if_neg (by omega)).trans (if_pos h))

theorem advance_end {c : Sck} (hs : c.second = 59) (hm : c.minute = 1439) (h : c.day = 255) : c.advance = c :=
  (if_neg (by omega)).trans ((if_neg (by omega)).trans (if_neg (by omega)))

theorem secondsTimerExpiry_eq {s : State} (hset : s.sck.isSet = true) (ht : s.sck.timerRunning = true) :
    exec .secondsTimerExpiry s = .next (s.clockMoves s.sck.advance) := congrArg _ (if_pos (Bool.and_eq_true_iff.2 ⟨hset, ht⟩))

/-! ### A CLOCK frame (R131) -/

theorem ignores_iff (c : Sck) (f : ClockBody) : c.ignores f = true ↔ 1439 < f.minute.toNat ∨ 59 < f.second.toNat ∨ f.origin = 0 ∨ f.origin = 255
    ∨ (c.isSet = true ∧ f.origin = c.lastOrigin ∧ f.seq = c.lastSeq) := by
  simp only [Sck.ignores, Bool.or_eq_true, Bool.and_eq_true, decide_eq_true_iff, beq_iff_eq, or_assoc, and_assoc]
  rfl

theorem clockFrameReceipt_ignored {s : State} {c : ClockBody} (h : s.sck.ignores c = true) :
    exec (.clockFrameReceipt c) s = .next (s.take (.clockFrameReceipt c)) := by
  refine congrArg _ (if_neg fun hc => ?_)
  have hnot : (!s.sck.ignores c) = true := (Bool.and_eq_true_iff.1 hc).2
  rw [h] at hnot
  exact Bool.false_ne_true hnot

theorem clockFrameReceipt_adopted {s : State} {c : ClockBody} (hr : s.running = true) (h : s.sck.ignores c = false) :
    exec (.clockFrameReceipt c) s = .next ((s.take (.clockFrameReceipt c)).clockMoves
      (s.sck.setTo c.origin c.seq c.day.toNat c.minute.toNat c.second.toNat)) := by
  refine congrArg _ (if_pos (Bool.and_eq_true_iff.2 ⟨hr, ?_⟩))
  show (!s.sck.ignores c) = true
  rw [h]
  rfl

/-- Settles O35: the four cases of a second, and of a CLOCK frame the ignored and the adopted. -/
theorem clockAdvancesAndTakesFrames : Obligations.ClockAdvancesAndTakesFrames := by
  refine ⟨fun s hset ht _ => ⟨_, secondsTimerExpiry_eq hset ht, ?_⟩, fun s c hr => ⟨fun h => ?_, fun h => ?_⟩⟩
  · have hold := oldMinute_set hset
    have hsck := clockMoves_sck s s.sck.advance
    dsimp only
    rw [hsck]
    refine ⟨fun hs => ?_, fun hs hm => ?_, fun hs hm hd => ?_, fun hs hm hd => ?_, clockMoves_frame _ _⟩
    · rw [advance_second hs]
      exact ⟨rfl, clockMoves_still hold⟩
    · have hnow : ({ s.sck with second := 0, minute := s.sck.minute + 1 } : Sck).now = s.sck.now + 1 := by
        unfold Sck.now Config.minutesPerDay
        dsimp only
        omega
      rw [advance_minute hs hm]
      refine ⟨rfl, (clockMoves_minute ?_).trans ?_⟩
      · rw [hold, hnow]
        exact fun e => Nat.ne_of_lt (Nat.lt_succ_self _) (Option.some.inj e)
      · rw [hold, hnow]
        rfl
    · have hnow : ({ s.sck with second := 0, minute := 0, day := s.sck.day + 1 } : Sck).now = s.sck.now + 1 := by
        unfold Sck.now Config.minutesPerDay
        dsimp only
        omega
      rw [advance_day hs hm hd]
      refine ⟨rfl, (clockMoves_minute ?_).trans ?_⟩
      · rw [hold, hnow]
        exact fun e => Nat.ne_of_lt (Nat.lt_succ_self _) (Option.some.inj e)
      · rw [hold, hnow]
        rfl
    · rw [advance_end hs hm hd]
      exact ⟨rfl, clockMoves_still hold⟩
  · refine ⟨_, clockFrameReceipt_ignored ((ignores_iff _ _).2 h), rfl, ?_⟩
    exact fun b hb => by cases b <;> first | rfl | exact absurd (by simp) hb
  · have hnot : s.sck.ignores c = false := Bool.eq_false_iff.2 fun ht => h ((ignores_iff _ _).1 ht)
    have hnode : s.pfl.node = .running := beq_iff_eq.1 hr
    refine ⟨_, clockFrameReceipt_adopted hr hnot, clockMoves_sck _ _, fun hset => ?_, fun hset hne => ?_, fun hset he => ?_, ?_⟩
    · have hold := oldMinute_unset hset
      refine (clockMoves_minute (s := s.take (.clockFrameReceipt c)) (fun e => nomatch hold.symm.trans e)).trans ?_
      show _ ++ minuteEvents s.pfl.node s.sck.oldMinute _ = _
      rw [hold, hnode]
      rfl
    · have hold := oldMinute_set hset
      have hmoved : s.sck.now ≠ (s.sck.setTo c.origin c.seq c.day.toNat c.minute.toNat c.second.toNat).now := hne
      refine (clockMoves_minute (s := s.take (.clockFrameReceipt c)) (fun e => hmoved (Option.some.inj (hold.symm.trans e)))).trans ?_
      show _ ++ minuteEvents s.pfl.node s.sck.oldMinute _ = _
      rw [hold, hnode]
      rfl
    · exact clockMoves_still (s := s.take (.clockFrameReceipt c)) ((oldMinute_set hset).trans (congrArg some he))
    · exact only_trans (only_mono (take_within s _).same (by simp)) (clockMoves_frame _ _)

/-! ### A minute event at the PLU (R133, R141, R142) -/

theorem duration_eq (i : Item) :
    i.duration = if (i.stop + 1440 - i.start) % 1440 = 0 then 1 else (i.stop + 1440 - i.start) % 1440 := rfl

theorem endAbs_eq (i : Item) : i.endAbs = i.day * 1440 + i.start
    + (if (i.stop + 1440 - i.start) % 1440 = 0 then 1 else (i.stop + 1440 - i.start) % 1440) := rfl

theorem judge_fst (now : Nat) (i : Item) : (i.judge now).1
    = if i.endAbs ≤ now then none else if i.running then some i else some { i with running := decide (i.startAbs ≤ now) } := by
  obtain ⟨id, rev, day, start, stop, venue, page, cancelled, moved, running⟩ := i
  unfold Item.judge
  dsimp only
  cases running with
  | true =>
    by_cases hend : Item.endAbs ⟨id, rev, day, start, stop, venue, page, cancelled, moved, true⟩ ≤ now
    · simp [hend]
    · simp [hend]
  | false =>
    by_cases hend : Item.endAbs ⟨id, rev, day, start, stop, venue, page, cancelled, moved, false⟩ ≤ now
    · simp [hend]
    · by_cases hstart : Item.startAbs ⟨id, rev, day, start, stop, venue, page, cancelled, moved, false⟩ ≤ now
      · simp [hend, hstart]
      · simp [hend, hstart]

theorem judge_report (now : Nat) (i : Item) : (i.judge now).2.map (itemReport i)
    = if i.endAbs ≤ now then some (.programmeReport i.venue i.id (if i.running then .ended else .skipped))
      else if i.running = false ∧ i.startAbs ≤ now then some (.programmeReport i.venue i.id .started) else none := by
  unfold Item.judge
  by_cases hend : i.endAbs ≤ now
  · cases hr : i.running with
    | true => simp [hend, itemReport]
    | false => simp [hend, itemReport]
  · cases hr : i.running with
    | true => simp [hend]
    | false =>
      by_cases hstart : i.startAbs ≤ now
      · simp [hend, hstart, itemReport]
      · simp [hend, hstart]

theorem minuteEventPlu_running {s : State} (hr : s.pfl.node = .running) (old : Option Nat) (now : Nat) : exec (.minuteEventPlu old now) s
    = .next (({ s.take (.minuteEventPlu old now) with plu := s.plu.atMinute now } : State).handOffs (s.plu.minuteReports now)) := by
  show execMinuteEventPlu old now s = _
  unfold execMinuteEventPlu
  dsimp only
  rw [show (s.take (.minuteEventPlu old now)).pfl.node = .running from hr]
  rfl

theorem minuteEventPlu_starting {s : State} (hr : s.pfl.node = .starting) (old : Option Nat) (now : Nat) : exec (.minuteEventPlu old now) s
    = .next ({ s.take (.minuteEventPlu old now) with plu := s.plu.atMinute now } : State) := by
  show execMinuteEventPlu old now s = _
  unfold execMinuteEventPlu
  dsimp only
  rw [show (s.take (.minuteEventPlu old now)).pfl.node = .starting from hr]
  rfl

theorem atMinute_items (p : Plu) (now : Nat) : (p.atMinute now).items = p.items.filterMap (fun i =>
    if i.endAbs ≤ now then none else if i.running then some i else some { i with running := decide (i.startAbs ≤ now) }) :=
  congrArg (fun f => p.items.filterMap f) (funext (judge_fst now))

theorem minuteReports_eq (p : Plu) (now : Nat) : p.minuteReports now = p.items.filterMap (fun i =>
    if i.endAbs ≤ now then some (.programmeReport i.venue i.id (if i.running then .ended else .skipped))
    else if i.running = false ∧ i.startAbs ≤ now then some (.programmeReport i.venue i.id .started) else none) :=
  congrArg (fun f => p.items.filterMap f) (funext (judge_report now))

/-- Settles O36: each item judged by the new minute; its report in RUNNING alone. -/
theorem minuteEventBeginsAndEndsItems : Obligations.MinuteEventBeginsAndEndsItems := by
  intro s old now hnode
  cases hn : s.pfl.node with
  | fallback => exact absurd hn hnode
  | running =>
    have hr : s.running = true := beq_iff_eq.2 hn
    refine ⟨_, minuteEventPlu_running hn old now, atMinute_items s.plu now, fun _ => ?_, (fun h => nomatch hr.symm.trans h), ?_⟩
    · exact congrArg (_ ++ ·) (minuteReports_eq s.plu now)
    · exact fun b hb => by cases b <;> first | rfl | exact absurd (by simp) hb
  | starting =>
    have hr : s.running = false := by
      unfold State.running
      rw [hn]
      rfl
    refine ⟨_, minuteEventPlu_starting hn old now, atMinute_items s.plu now, (fun h => nomatch hr.symm.trans h), fun _ => rfl, ?_⟩
    exact fun b hb => by cases b <;> first | rfl | exact absurd (by simp) hb

end Sys2Proof.Machine
end

section
/-! PROOFS. Offers at the Programme List Unit (06): R133 to R138, R144. -/

namespace Sys2Proof.Machine

/-! ### The list (R134) -/

theorem mem_remove {p : Plu} {id : Nat} {i : Item} : i ∈ (p.remove id).items ↔ i ∈ p.items ∧ i.id ≠ id := by
  refine List.mem_filter.trans (and_congr_right fun _ => ?_)
  exact bne_iff_ne

theorem mem_items_iff_of_absent {p : Plu} {id : Nat} (h : p.find id = none) (i : Item) : i ∈ p.items ↔ i ∈ p.items ∧ i.id ≠ id :=
  (and_iff_left_of_imp fun hi => Plu.find_eq_none_iff.1 h i hi).symm

/-- Under an id the list holds one item. -/
theorem find_of_mem {p : Plu} (h : itemsOk p.items) {i : Item} (hi : i ∈ p.items) : p.find i.id = some i := by
  cases hf : p.find i.id with
  | none => exact absurd rfl (Plu.find_eq_none_iff.1 hf i hi)
  | some j =>
    obtain ⟨hj, hid⟩ := Plu.find_some hf
    by_contra hne
    have hsymm : Std.Symm (fun a b : Item => a.id ≠ b.id) := ⟨fun _ _ h => h.symm⟩
    have hdistinct := List.Pairwise.forall (h.2.imp fun hab => hab.2) hj hi (fun e => hne (congrArg some e))
    exact hdistinct hid

/-- The items that are not the last. -/
theorem mem_dropLast {items : List Item} (h : items.Pairwise itemOrder) {last : Item} (hlast : items.getLast? = some last) (j : Item) :
    j ∈ items.dropLast ↔ j ∈ items ∧ j ≠ last := by
  have hsplit : items = items.dropLast ++ [last] := (List.dropLast_append_getLast? last hlast).symm
  have hbefore : ∀ x ∈ items.dropLast, x ≠ last := by
    intro x hx e
    rw [hsplit] at h
    obtain ⟨_, _, hcross⟩ := List.pairwise_append.1 h
    exact (hcross x hx last (List.mem_singleton_self last)).2 (congrArg Item.id e)
  constructor
  · exact fun hj => ⟨List.mem_of_mem_dropLast hj, hbefore j hj⟩
  · rintro ⟨hj, hne⟩
    rw [hsplit] at hj
    exact (List.mem_append.1 hj).resolve_right fun h => hne (List.eq_of_mem_singleton h)

/-! ### What decides an offer (R135 to R138) -/

theorem offerInRange_iff (o : Offer) : offerInRange o = true ↔ o.id.toNat ≠ 0 ∧ o.start.toNat ≤ 1439 ∧ o.stop.toNat ≤ 1439
    ∧ o.venue.toNat ≤ 63 ∧ o.titlePage.toNat ≠ 0 ∧ o.titlePage.toNat ≤ 4095 := by
  simp only [offerInRange, Bool.and_eq_true, decide_eq_true_iff, and_assoc, Nat.one_le_iff_ne_zero]

theorem reached_iff (now : Option Nat) (m : Nat) : reached now m = true ↔ ∃ n, now = some n ∧ m ≤ n := by
  cases now with
  | none => exact iff_of_false nofun nofun
  | some n =>
    refine decide_eq_true_iff.trans ⟨fun h => ⟨n, rfl, h⟩, fun ⟨k, hk, h⟩ => ?_⟩
    obtain rfl := Option.some.inj hk
    exact h

section
variable {u : State} {o : Offer}

theorem offer_outOfRange (h : offerInRange o = false) : u.offer o = (u, .outOfRange) := if_pos h

theorem offer_heldRevision (hin : offerInRange o = true) {i : Item} (hf : u.plu.find o.id.toNat = some i) (hrev : o.revision.toNat ≤ i.revision) :
    u.offer o = (u, .heldRevision i.revision) := by
  have hstale : (u.plu.find o.id.toNat).filter (fun i => decide ((u.itemOf o).revision ≤ i.revision)) = some i := by
    rw [hf]
    exact if_pos (decide_eq_true hrev)
  unfold State.offer
  dsimp only
  rw [if_neg (by rw [hin]; exact Bool.true_eq_false.mp), hstale]

variable (hfresh : ∀ i, u.plu.find o.id.toNat = some i → i.revision < o.revision.toNat)
include hfresh

theorem offer_not_stale : (u.plu.find o.id.toNat).filter (fun i => decide ((u.itemOf o).revision ≤ i.revision)) = none := by
  cases hf : u.plu.find o.id.toNat with
  | none => rfl
  | some i =>
    have hlt : ¬ (u.itemOf o).revision ≤ i.revision := Nat.not_le.2 (hfresh i hf)
    exact if_neg fun h => hlt (of_decide_eq_true h)

variable (hin : offerInRange o = true)
include hin

theorem offer_expired (hend : reached u.offerMinute (u.itemOf o).endAbs = true) :
    u.offer o = (u.endItem (u.plu.find o.id.toNat), .expired) := by
  unfold State.offer
  dsimp only
  rw [if_neg (by rw [hin]; exact Bool.true_eq_false.mp), offer_not_stale hfresh]
  exact if_pos hend

variable (hend : reached u.offerMinute (u.itemOf o).endAbs = false)
include hend

theorem offer_replaced {old : Item} (hf : u.plu.find o.id.toNat = some old) : u.offer o = (u.replaceItem old (u.itemOf o), .replaced) := by
  unfold State.offer
  dsimp only
  rw [if_neg (by rw [hin]; exact Bool.true_eq_false.mp), offer_not_stale hfresh, hf]
  exact if_neg (by rw [hend]; exact Bool.false_ne_true)

theorem offer_new (hf : u.plu.find o.id.toNat = none) : u.offer o = u.storeItem (u.itemOf o) := by
  unfold State.offer
  dsimp only
  rw [if_neg (by rw [hin]; exact Bool.true_eq_false.mp), offer_not_stale hfresh, hf]
  exact if_neg (by rw [hend]; exact Bool.false_ne_true)

end

theorem storeItem_room {u : State} {x : Item} (h : u.plu.items.length < 96) : u.storeItem x
    = (({ u with plu := { u.plu with items := insertItem x u.plu.items } } : State).handOff (itemReport x .stored), .stored) := if_pos h

section
variable {u : State} {x last : Item} (h : u.plu.items.length = 96) (hlast : u.plu.items.getLast? = some last)
include h hlast

theorem storeItem_dropped (hb : last.before x = true) : u.storeItem x = (u.notice (.programmeFull x.id x.startAbs), .dropped) := by
  unfold State.storeItem
  rw [if_neg (by rw [h]; decide), hlast]
  exact if_pos hb

theorem storeItem_displacing (hb : last.before x = false) : u.storeItem x
    = ((({ u with plu := { u.plu with items := insertItem x u.plu.items.dropLast } } : State).handOffs
        [itemReport last .dropped, itemReport x .stored]).notice (.programmeFull last.id last.startAbs), .stored) := by
  unfold State.storeItem
  rw [if_neg (by rw [h]; decide), hlast]
  exact if_neg (by rw [hb]; exact Bool.false_ne_true)

end

theorem before_asymm {a b : Item} (h : a.before b = true) : b.before a = false := by
  refine Bool.eq_false_iff.2 fun hb => ?_
  simp only [Item.before, Bool.or_eq_true, Bool.and_eq_true, decide_eq_true_iff, beq_iff_eq] at h hb
  omega

/-! ### The minute an offer is judged against (R144) -/

theorem findSome?_erase {α β : Type} [BEq α] [LawfulBEq α] (f : α → Option β) {e : α} (he : f e = none) (l : List α) :
    (l.erase e).findSome? f = l.findSome? f := by
  induction l with
  | nil => rfl
  | cons x xs ih =>
    by_cases hx : x = e
    · subst hx
      rw [List.erase_cons_head, List.findSome?_cons, he]
    · rw [List.erase_cons_tail (by simpa using hx), List.findSome?_cons, List.findSome?_cons, ih]

theorem take_offerMinute (s : State) (o : Offer) : (s.take (.programmeOffer o)).offerMinute = s.offerMinute := by
  unfold State.offerMinute
  exact congrArg (fun w : Option (Option Nat) => w.getD s.sck.oldMinute) (findSome?_erase oldMinuteForPlu rfl s.handoffs)

theorem take_itemOf (s : State) (o : Offer) : (s.take (.programmeOffer o)).itemOf o = s.itemOf o := by
  unfold State.itemOf
  rw [take_offerMinute]

theorem programmeOffer_eq {s : State} (hr : s.running = true) (o : Offer) :
    exec (.programmeOffer o) s = .next ((s.take (.programmeOffer o)).offer o).1 := congrArg _ (if_pos hr)

/-! ### What an offer leaves -/

theorem endItem_hpt (u : State) (held : Option Item) : (u.endItem held).hpt = u.hpt := by cases held <;> rfl

theorem mem_endItem (u : State) (id : Nat) (i : Item) : i ∈ (u.endItem (u.plu.find id)).plu.items ↔ i ∈ u.plu.items ∧ i.id ≠ id := by
  cases hf : u.plu.find id with
  | none => exact mem_items_iff_of_absent hf i
  | some old =>
    obtain rfl := (Plu.find_some hf).2
    exact mem_remove

theorem endItem_handoffs_some {u : State} {id : Nat} {old : Item} (h : u.plu.find id = some old) :
    (u.endItem (u.plu.find id)).handoffs = u.handoffs ++ [.programmeReport old.venue old.id .ended] := by
  rw [h]
  rfl

theorem endItem_handoffs_none {u : State} {id : Nat} (h : u.plu.find id = none) : (u.endItem (u.plu.find id)).handoffs = u.handoffs := by
  rw [h]
  rfl

theorem mem_replaceItem (u : State) (old x j : Item) :
    j ∈ (u.replaceItem old x).plu.items ↔ j = x ∨ (j ∈ u.plu.items ∧ j.id ≠ old.id) := by
  refine (mem_insertItem (l := (u.plu.remove old.id).items)).trans ?_
  rw [mem_remove]

theorem replaceItem_handoffs (u : State) (old x : Item) : (u.replaceItem old x).handoffs = u.handoffs
    ++ .programmeReport x.venue x.id .replaced :: (if old.venue = x.venue then [] else [.programmeReport old.venue x.id .replaced]) := rfl

/-- Settles O37: the first rule that decides, and what each outcome leaves. -/
theorem offerIsRefusedEndedReplacedOrStored : Obligations.OfferIsRefusedEndedReplacedOrStored := by
  intro s o hr hok
  refine ⟨_, programmeOffer_eq hr o, ?_⟩
  beta_reduce
  intro taken dur start stop waiting judged outcome new inRange stale pastEnd
  have hjudged : judged = s.offerMinute := by
    have hwaiting : s.handoffs.findSome? oldMinuteForPlu = waiting := rfl
    show judged = (s.handoffs.findSome? oldMinuteForPlu).getD s.sck.oldMinute
    rw [hwaiting]
    simp only [judged]
    generalize waiting = w
    cases w <;> rfl
  have hnew : new = s.itemOf o := congrArg (fun j => offeredItem o (reached j start)) hjudged
  have hpast : pastEnd ↔ reached s.offerMinute (s.itemOf o).endAbs = true := by
    rw [reached_iff, ← hjudged]
    exact Iff.rfl
  have hrange : inRange ↔ offerInRange o = true := (offerInRange_iff o).symm
  have hrunning : (s.take (.programmeOffer o)).running = true := hr
  have hframe := (offer_within (s.take (.programmeOffer o)) o).same
  have hstays : itemsOk ((s.take (.programmeOffer o)).offer o).1.plu.items := offer_itemsOk (s := s.take (.programmeOffer o)) hok o
  have hfresh : ¬ stale → ∀ i, s.plu.find o.id.toNat = some i → i.revision < o.revision.toNat := fun h i hi =>
    Nat.not_le.1 fun hle => h ⟨i, (Plu.find_some hi).1, (Plu.find_some hi).2, hle⟩
  have hfind : ∀ i ∈ s.plu.items, i.id = o.id.toNat → s.plu.find o.id.toNat = some i := fun i hi hid => hid ▸ find_of_mem hok hi
  have hout : ¬ inRange → offerInRange o = false := fun h => Bool.eq_false_iff.2 fun ht => h (hrange.2 ht)
  refine ⟨fun h => ?_, fun h => ?_, fun hin i hi hid hrev => ?_, fun hin hns hp => ?_, fun hin hns hp => ⟨fun i hi hid => ?_, fun habs =>
    ⟨fun hroom => ?_, fun hfull last hlast => ⟨fun hord => ?_, fun hord => ?_⟩⟩⟩, hstays,
    only_trans (only_mono (take_within s _).same (by simp)) hframe⟩
  · by_cases hin : inRange
    · obtain ⟨i, hi, hid, hrev⟩ := h.resolve_left (fun hn => hn hin)
      rw [offer_heldRevision (u := s.take (.programmeOffer o)) (hrange.1 hin) (hfind i hi hid) hrev]
      exact ⟨rfl, rfl, rfl⟩
    · rw [offer_outOfRange (hout hin)]
      exact ⟨rfl, rfl, rfl⟩
  · exact congrArg Prod.snd (offer_outOfRange (hout h))
  · exact congrArg Prod.snd (offer_heldRevision (hrange.1 hin) (hfind i hi hid) hrev)
  · have hend := hpast.1 hp
    have hexpired := offer_expired (u := s.take (.programmeOffer o)) (hfresh hns) (hrange.1 hin) (by rw [take_offerMinute, take_itemOf]; exact hend)
    rw [hexpired]
    refine ⟨mem_endItem _ _, endItem_hpt _ _, congrArg Prod.snd (offer_expired (hfresh hns) (hrange.1 hin) hend), fun i hi hid => ?_, fun habs => ?_⟩
    · exact endItem_handoffs_some (u := s.take (.programmeOffer o)) (hfind i hi hid)
    · exact endItem_handoffs_none (u := s.take (.programmeOffer o)) (Plu.find_eq_none_iff.2 habs)
  · have hend : reached s.offerMinute (s.itemOf o).endAbs = false := Bool.eq_false_iff.2 fun h => hp (hpast.2 h)
    have hreplaced := offer_replaced (u := s.take (.programmeOffer o)) (hfresh hns) (hrange.1 hin)
      (by rw [take_offerMinute, take_itemOf]; exact hend) (hfind i hi hid)
    rw [take_itemOf, ← hnew] at hreplaced
    rw [hreplaced]
    refine ⟨fun j => ?_, rfl, congrArg Prod.snd (offer_replaced (hfresh hns) (hrange.1 hin) hend (hfind i hi hid)), replaceItem_handoffs _ _ _⟩
    rw [← hid]
    exact mem_replaceItem _ _ _ _
  all_goals
    have hend : reached s.offerMinute (s.itemOf o).endAbs = false := Bool.eq_false_iff.2 fun h => hp (hpast.2 h)
    have hnone : s.plu.find o.id.toNat = none := Plu.find_eq_none_iff.2 habs
    have hstored := offer_new (u := s.take (.programmeOffer o)) (hfresh hns) (hrange.1 hin)
      (by rw [take_offerMinute, take_itemOf]; exact hend) hnone
    have houtcome : outcome = (s.storeItem new).2 := hnew ▸ congrArg Prod.snd (offer_new (hfresh hns) (hrange.1 hin) hend hnone)
    rw [take_itemOf, ← hnew] at hstored
    rw [hstored, houtcome]
  · rw [storeItem_room (u := s.take (.programmeOffer o)) hroom, storeItem_room hroom]
    exact ⟨fun j => mem_insertItem, rfl, rfl, rfl⟩
  · rw [storeItem_dropped (u := s.take (.programmeOffer o)) hfull hlast hord.1, storeItem_dropped hfull hlast hord.1]
    refine ⟨State.notice_plu _ _, State.notice_handoffs _ _, rfl, (notice_hpt hrunning _).trans ?_⟩
    rfl
  · have hb := before_asymm hord.1
    rw [storeItem_displacing (u := s.take (.programmeOffer o)) hfull hlast hb, storeItem_displacing hfull hlast hb]
    refine ⟨fun j => ?_, rfl, ?_, ?_⟩
    · rw [State.notice_plu]
      exact mem_insertItem.trans (or_congr_right (mem_dropLast hok.2 hlast j))
    · rw [State.notice_handoffs]
      rfl
    · exact notice_hpt (by exact hr) _

end Sys2Proof.Machine
end

section
/-! PROOFS. The Face Content Unit (07): the value of each part, the events that recompute faces, records and snapshots (R151 to R169). -/

namespace Sys2Proof.Machine

/-! ### The value of a part (R152, R154 to R159) -/

theorem costField_eq (x : Cost) : costField x = match x with
    | .finite n => if n = 0 then .present else .minutes (min 99 ((n + 719) / 720))
    | .unknown => .pending
    | .unreachable => .closed := by
  cases x with
  | finite n => cases n <;> rfl
  | _ => rfl

section
variable {s : State} {f : FaceIx} {c : FaceConfig} {lang : Nat} (hl : s.fcu.faces[f].language = lang)
include hl

theorem partValue_header : partValue s f c .header = .header (headerPageOf s c.kind lang) lang s.muc.phase := by
  subst hl
  rfl

theorem partValue_line_sign {langs : List Nat} {mode : SignMode} {ms : List (Fin 8)} (hk : c.kind = .sign langs mode ms) (n : Fin 4) :
    partValue s f c (.line n) = ((signLines s c lang mode ms)[n.val]?).elim .blank .line := by
  subst hl
  unfold partValue
  dsimp only
  rw [hk]

theorem partValue_line_door {l page : Nat} {st : Fin 8} (hk : c.kind = .door l page st) :
    partValue s f c (.line 0) = doorLine s c lang st := by
  subst hl
  unfold partValue
  dsimp only
  rw [hk]
  rfl

omit hl in
theorem partValue_privacy : partValue s f c .privacy = .privacy (indicatorOf s.muc.phase s.fsc.words[f].privacy) := rfl

end

theorem headerPageOf_muster {s : State} (h : s.muc.phase ≠ .quiet) (k : FaceKind) (lang : Nat) :
    headerPageOf s k lang = headerPage s.pfl.profile s.pca.faulted s.muc.phase lang := if_neg h

theorem headerPageOf_quiet {s : State} (h : s.muc.phase = .quiet) (k : FaceKind) (lang : Nat) :
    headerPageOf s k lang = match k with
      | .sign _ _ _ => 0
      | .door _ page _ => page := if_pos h

theorem signLines_quiet {s : State} (h : s.muc.phase = .quiet) (c : FaceConfig) (lang : Nat) (mode : SignMode) (ms : List (Fin 8)) :
    signLines s c lang mode ms = match mode with
      | .wayfind ds => ds.map (destLine s c lang)
      | .programme vs => (shownItems s.sck s.plu.items vs).map (itemLine s c lang) := by
  unfold signLines
  cases mode <;> simp only [h]

theorem signLines_proceed {s : State} (h : s.muc.phase = .proceed) (c : FaceConfig) (lang : Nat) (mode : SignMode) (ms : List (Fin 8)) :
    signLines s c lang mode ms = ms.map (fun st => destLine s c lang (stationDest st)) := by
  unfold signLines
  rw [h]

theorem signLines_none {s : State} (h : s.muc.phase = .alert ∨ s.muc.phase = .hold ∨ s.muc.phase = .standDown) (c : FaceConfig) (lang : Nat)
    (mode : SignMode) (ms : List (Fin 8)) : signLines s c lang mode ms = [] := by
  unfold signLines
  obtain h | h | h := h <;> rw [h]

theorem status_eq (c : Sck) (i : Item) : i.status c = if i.cancelled then .cancelled else if i.running then .now
    else if c.isSet = true ∧ c.now + 1 ≤ i.startAbs ∧ i.startAbs ≤ c.now + 15 then .soon i.moved else .startsAt i.start i.moved := by
  unfold Item.status
  simp only [Bool.and_eq_true, decide_eq_true_iff]

theorem not_quiet_of_muster {ph : Phase} (h : ph = .alert ∨ ph = .hold ∨ ph = .standDown) : ph ≠ .quiet ∧ ph ≠ .proceed := by
  obtain h | h | h := h <;> subst h <;> decide

theorem language_eq (fs : FaceState) : fs.language = match fs.config.map FaceConfig.kind with
    | some (.sign langs _ _) => langs.getD fs.langIx 0
    | some (.door l _ _) => l
    | none => 0 := by
  unfold FaceState.language
  cases fs.config with
  | none => rfl
  | some c =>
    obtain ⟨address, glyphs, kind⟩ := c
    cases kind <;> rfl

/-- Settles O38: part by part, by kind and phase. -/
theorem faceContentByKindAndPhase : Obligations.FaceContentByKindAndPhase := by
  intro s f c lang hlang ph arrow field destination number musterPage lines
  have hl : s.fcu.faces[f].language = lang := (language_eq _).trans (hlang.symm ▸ rfl)
  have harrow : arrowTo c = arrow := funext fun w => by cases w <;> rfl
  have hfield : costField = field := funext fun x => (costField_eq x).trans rfl
  have hdest : destLine s c lang = destination := funext fun d => by
    unfold destLine
    rw [harrow, hfield]
    rfl
  have hlines : ∀ (vs : List LineValue) (n : Fin 4), (vs[n.val]?).elim PartValue.blank .line = lines vs n := fun vs n => by
    show _ = (match vs[n.val]? with
      | some v => PartValue.line v
      | none => .blank)
    cases vs[n.val]? <;> rfl
  have hpage : headerPage s.pfl.profile s.pca.faulted s.muc.phase lang = musterPage := by
    have hcode : phasePageCode s.muc.phase = number := by
      unfold phasePageCode
      rfl
    unfold headerPage phasePage
    rw [hcode]
  refine ⟨fun h => ?_, fun langs mode ms hk => ⟨fun h => ?_, fun ds h hm n => ?_, fun h n => ?_, fun h n => ?_, fun vs h hm => ?_⟩,
    fun l page st hk => ⟨fun h => ⟨?_, ?_, ?_⟩, fun h => ?_, fun h => ?_, fun h => ?_⟩⟩
  · rw [partValue_header hl, headerPageOf_muster h, hpage]
  · rw [partValue_header hl, headerPageOf_quiet h, hk]
    exact congrArg _ h
  · rw [partValue_line_sign hl hk, signLines_quiet h, hm, ← hdest]
    exact hlines _ n
  · rw [partValue_line_sign hl hk, signLines_proceed h, hdest]
    exact hlines _ n
  · rw [partValue_line_sign hl hk, signLines_none h]
    rfl
  · intro shown status line n
    have hitem : itemLine s c lang = line := funext fun i => by
      unfold itemLine
      rw [harrow, hfield, status_eq]
    have heligible : Item.eligible s.sck vs = fun i => (match vs with | .all => true | .only ds => ds.any (fun d => d.val == i.venue))
        && !(i.cancelled && s.sck.isSet && decide (i.startAbs + 30 ≤ s.sck.now)) := funext fun i => by cases vs <;> rfl
    rw [partValue_line_sign hl hk, signLines_quiet h, hm, ← hitem]
    dsimp only
    unfold shownItems
    rw [heligible]
    exact hlines _ n
  · rw [partValue_header hl, headerPageOf_quiet h, hk]
    exact congrArg _ h
  · rw [partValue_line_door hl hk]
    exact if_neg (by rw [show s.muc.phase = .quiet from h]; decide)
  · exact congrArg PartValue.privacy (if_pos h)
  · exact congrArg PartValue.privacy (if_neg h)
  · rw [partValue_line_door hl hk, ← hdest]
    exact if_pos h
  · rw [partValue_line_door hl hk]
    exact if_neg (not_quiet_of_muster h).2

/-! ### The events that recompute faces (R161 to R163) -/

theorem recomputes_eq (s : State) (i : Instr) (which : FaceConfig → Bool) : (s.take i).recomputeFaces which
    = { s with handoffs := s.handoffs.erase i ++ demandsFor s (fun _ c => which c) } := recomputeFaces_eq (s.take i) which

theorem recomputes_one_eq (s : State) (i : Instr) (f : FaceIx) : (s.take i).recomputeFace f
    = { s with handoffs := s.handoffs.erase i ++ demandsFor s (fun g _ => g == f) } := recomputeFace_eq (s.take i) f

theorem stationDest_beq (st : Fin 8) (d : DestIx) : (stationDest st == d) = (56 + st.val == d.val) := by
  rw [Bool.eq_iff_iff, beq_iff_eq, beq_iff_eq]
  exact Fin.ext_iff

theorem isSome_part_iff (s : State) (f : FaceIx) (p : Part) :
    inView s f p = true ↔ (s.fsc.words[f].hostHeld = true → s.muc.phase = .quiet → p = .privacy) := by
  unfold inView
  cases s.fsc.words[f].hostHeld with
  | false => simp
  | true =>
    by_cases hq : s.muc.phase = .quiet
    · simp [hq]
    · simp [hq]

theorem mem_differingParts {s : State} {f : FaceIx} {c : FaceConfig} (hc : s.fcu.faces[f].config = some c) (p : Part) :
    p ∈ differingParts s f ↔ p ∈ partsOf c.kind ∧ s.fcu.faces[f].snapshot[partIx p] ≠ some (partValue s f c p)
      ∧ (s.fsc.words[f].hostHeld = true → s.muc.phase = .quiet → p = .privacy) := by
  unfold differingParts
  rw [hc]
  refine List.mem_filter.trans (and_congr_right fun _ => ?_)
  rw [Bool.and_eq_true, isSome_part_iff, and_comm]
  exact and_congr_left fun _ => bne_iff_ne

/-- Settles O39: each event by the faces it concerns. -/
theorem recomputeEventsRaiseDemands : Obligations.RecomputeEventsRaiseDemands := by
  intro s hr raises lists
  have hlists : ∀ vs v, Venues.has vs v = lists v vs := fun vs v => by cases vs <;> rfl
  have hraises : ∀ {i : Instr} {which : FaceConfig → Bool} {which' : FaceIx → FaceConfig → Bool},
      exec i s = .next (if (s.take i).running then (s.take i).recomputeFaces which else s.take i) → (∀ g c, which c = which' g c) →
      raises i which' := by
    intro i which which' hexec hwhich
    have hfun : (fun (_ : FaceIx) c => which c) = which' := funext fun g => funext (hwhich g)
    exact hexec.trans (congrArg _ ((if_pos hr).trans (hfun ▸ recomputes_eq s i which)))
  refine ⟨fun d => hraises rfl fun g c => ?_, fun v id k => hraises rfl fun g c => ?_, fun old new => hraises rfl fun g c => ?_,
    hraises rfl fun _ _ => rfl, hraises rfl fun _ _ => rfl, fun f => ⟨?_, ?_⟩, fun f c p hc => mem_differingParts hc p⟩
  · obtain ⟨address, glyphs, kind⟩ := c
    have hstation : (fun st => stationDest st == d) = fun st : Fin 8 => 56 + st.val == d.val := funext fun st => stationDest_beq st d
    cases kind with
    | sign langs mode ms =>
      cases mode with
      | wayfind ds => exact congrArg (fun q => ds.contains d || ms.any q) hstation
      | programme vs => exact congr_arg₂ (fun a q => a || ms.any q) (hlists vs d.val) hstation
    | door l page st => exact stationDest_beq st d
  · obtain ⟨address, glyphs, kind⟩ := c
    cases kind with
    | sign langs mode ms =>
      cases mode with
      | wayfind ds => rfl
      | programme vs => exact hlists vs v
    | door l page st => rfl
  · obtain ⟨address, glyphs, kind⟩ := c
    cases kind with
    | sign langs mode ms => cases mode <;> rfl
    | door l page st => rfl
  · exact congrArg _ ((if_pos (by exact hr)).trans (recomputes_one_eq s (.privacyChange f) f))
  · exact congrArg _ ((if_pos (by exact hr)).trans (recomputes_one_eq s (.suppliedChainEnded f) f))

/-! ### Face records and snapshots (R151, R160, R164 to R166, R169) -/

/-- The state with the face records given. -/
def State.withFaces (s : State) (faces : Vector FaceState 32) : State := { s with fcu := { s.fcu with faces := faces } }

theorem differingParts_of_config {s : State} {f : FaceIx} {c : FaceConfig} (hc : s.fcu.faces[f].config = some c) :
    differingParts s f = (partsOf c.kind).filter (fun p => inView s f p && partDiffers s f c p) := by
  unfold differingParts
  rw [hc]

theorem differingParts_of_disabled {s : State} {f : FaceIx} (hc : s.fcu.faces[f].config = none) : differingParts s f = [] := by
  unfold differingParts
  rw [hc]

theorem faceDemand_of_config {s : State} {f : FaceIx} {c : FaceConfig} (hc : s.fcu.faces[f].config = some c)
    (which : FaceIx → FaceConfig → Bool) : faceDemand s which f
      = if which f c && !(differingParts s f).isEmpty then some (.demand f (if s.muc.phase = .quiet then .content else .muster)) else none := by
  unfold faceDemand
  rw [hc]

theorem faceDemand_of_disabled {s : State} {f : FaceIx} (hc : s.fcu.faces[f].config = none) (which : FaceIx → FaceConfig → Bool) :
    faceDemand s which f = none := by
  unfold faceDemand
  rw [hc]

section
variable (s : State) {f : FaceIx} {F G : Vector FaceState 32} (h : F[f] = G[f])
include h

theorem partValue_withFaces (c : FaceConfig) (p : Part) : partValue (s.withFaces F) f c p = partValue (s.withFaces G) f c p := by
  have hlang : (s.withFaces F).fcu.faces[f].language = (s.withFaces G).fcu.faces[f].language := congrArg FaceState.language h
  unfold partValue
  rw [hlang]
  cases p <;> rfl

theorem partDiffers_withFaces (c : FaceConfig) (p : Part) : partDiffers (s.withFaces F) f c p = partDiffers (s.withFaces G) f c p := by
  have hsnapshot : (s.withFaces F).fcu.faces[f].snapshot = (s.withFaces G).fcu.faces[f].snapshot := congrArg FaceState.snapshot h
  unfold partDiffers
  rw [partValue_withFaces s h, hsnapshot]

/-- A face's parts that differ are read from its own record alone. -/
theorem differingParts_withFaces : differingParts (s.withFaces F) f = differingParts (s.withFaces G) f := by
  have hconfig : (s.withFaces F).fcu.faces[f].config = (s.withFaces G).fcu.faces[f].config := congrArg FaceState.config h
  cases hc : (s.withFaces G).fcu.faces[f].config with
  | none => rw [differingParts_of_disabled hc, differingParts_of_disabled (hconfig.trans hc)]
  | some c =>
    rw [differingParts_of_config hc, differingParts_of_config (hconfig.trans hc)]
    exact congrArg (fun q : Part → Bool => (partsOf c.kind).filter q)
      (funext fun p => congrArg (inView s f p && ·) (partDiffers_withFaces s h c p))

theorem faceDemand_withFaces (which : FaceIx → FaceConfig → Bool) : faceDemand (s.withFaces F) which f = faceDemand (s.withFaces G) which f := by
  have hconfig : (s.withFaces F).fcu.faces[f].config = (s.withFaces G).fcu.faces[f].config := congrArg FaceState.config h
  cases hc : (s.withFaces G).fcu.faces[f].config with
  | none => rw [faceDemand_of_disabled hc, faceDemand_of_disabled (hconfig.trans hc)]
  | some c =>
    rw [faceDemand_of_config hc, faceDemand_of_config (hconfig.trans hc), differingParts_withFaces s h]
    rfl

end

/-! ### The rotation of languages (R165) -/

/-- A face of several languages (R165). -/
def FaceConfig.turns (c : FaceConfig) : Bool := 2 ≤ c.languageCount

theorem advanceLanguage_config (fs : FaceState) : (advanceLanguage fs).config = fs.config := by
  unfold advanceLanguage
  cases hc : fs.config with
  | none => exact hc
  | some c =>
    dsimp only
    split
    · rfl
    · exact hc

/-- A face's share of a rotation: its record advanced, its demand handed over. -/
theorem rotateFace_eq (s : State) (F : Vector FaceState 32) (es : List Instr) (f : FaceIx) :
    ((s.withFaces F).handOffs es).rotateFace f = (s.withFaces (setAt F f (advanceLanguage F[f]))).handOffs
      (es ++ (faceDemand (s.withFaces (setAt F f (advanceLanguage F[f]))) (fun _ c => c.turns) f).toList) := by
  have hface : (setAt F f (advanceLanguage F[f]))[f] = advanceLanguage F[f] := setAt_same _ _ _
  have hconfig : (s.withFaces (setAt F f (advanceLanguage F[f]))).fcu.faces[f].config = F[f].config :=
    (congrArg FaceState.config hface).trans (advanceLanguage_config _)
  have hnot : advanceLanguage F[f] = F[f] → s.withFaces (setAt F f (advanceLanguage F[f])) = s.withFaces F := fun e => by
    rw [e, setAt_self]
  rw [← recomputeFace_handOffs _ es FaceConfig.turns f, hconfig]
  unfold State.rotateFace
  rw [show ((s.withFaces F).handOffs es).fcu.faces[f].config = F[f].config from rfl]
  cases hc : F[f].config with
  | none =>
    have hsame : advanceLanguage F[f] = F[f] := by
      unfold advanceLanguage
      rw [hc]
    exact congrArg (State.handOffs · es) (hnot hsame).symm
  | some c =>
    by_cases hturns : 2 ≤ c.languageCount
    · exact (if_pos hturns).trans (if_pos (decide_eq_true hturns)).symm
    · have hsame : advanceLanguage F[f] = F[f] := by
        unfold advanceLanguage
        rw [hc]
        exact if_neg hturns
      have hstill : ¬ (some c).elim false FaceConfig.turns = true := fun h => hturns (of_decide_eq_true h)
      refine (if_neg hturns).trans ((if_neg hstill).trans ?_).symm
      exact congrArg (State.handOffs · es) (hnot hsame)

/-- Going over some faces advances each of them, and hands over their demands. -/
theorem foldl_rotateFace (s : State) (G : Vector FaceState 32) (xs : List FaceIx) : xs.Nodup → ∀ (F : Vector FaceState 32) (es : List Instr),
    (∀ f ∈ xs, G[f] = advanceLanguage F[f]) → ∃ H : Vector FaceState 32, (∀ f : FaceIx, H[f] = if f ∈ xs then G[f] else F[f])
      ∧ xs.foldl State.rotateFace ((s.withFaces F).handOffs es)
        = (s.withFaces H).handOffs (es ++ xs.filterMap (faceDemand (s.withFaces G) (fun _ c => c.turns))) := by
  induction xs with
  | nil => exact fun _ F es _ => ⟨F, fun _ => rfl, by rw [List.filterMap_nil, List.append_nil]; rfl⟩
  | cons x xs ih =>
    intro hnodup F es hG
    obtain ⟨hx, hxs⟩ := List.nodup_cons.1 hnodup
    have hGx : G[x] = advanceLanguage F[x] := hG x List.mem_cons_self
    have hface : (setAt F x (advanceLanguage F[x]))[x] = G[x] := (setAt_same _ _ _).trans hGx.symm
    have hrest : ∀ f : FaceIx, f ≠ x → (setAt F x (advanceLanguage F[x]))[f] = F[f] := fun f hf => setAt_other _ _ _ _ hf.symm
    obtain ⟨H, hH, hfold⟩ := ih hxs (setAt F x (advanceLanguage F[x]))
      (es ++ (faceDemand (s.withFaces (setAt F x (advanceLanguage F[x]))) (fun _ c => c.turns) x).toList)
      fun f hf => (hG f (List.mem_cons_of_mem x hf)).trans (congrArg advanceLanguage (hrest f fun e => hx (e ▸ hf)).symm)
    refine ⟨H, fun f => ?_, ?_⟩
    · rw [hH f]
      by_cases hf : f = x
      · subst hf
        rw [if_neg hx, if_pos List.mem_cons_self, hface]
      · rw [hrest f hf]
        simp only [List.mem_cons, hf, false_or]
    · rw [List.foldl_cons, rotateFace_eq, hfold, faceDemand_withFaces s hface, List.filterMap_cons, List.append_assoc]
      cases faceDemand (s.withFaces G) (fun _ c => c.turns) x <;> rfl

/-- Every face's record with its language advanced. -/
def State.languagesTurned (s : State) : State := s.withFaces (tabulate fun f => advanceLanguage s.fcu.faces[f])

theorem languageRotation_eq {s : State} (hr : s.running = true) (hrot : s.fcu.rotationRunning = true) :
    exec .languageRotationExpiry s = .next { s.languagesTurned with
      handoffs := s.handoffs ++ demandsFor s.languagesTurned (fun _ c => c.turns) } := by
  obtain ⟨H, hH, hfold⟩ := foldl_rotateFace s (tabulate fun f => advanceLanguage s.fcu.faces[f]) (indices 32) (indices_nodup 32) s.fcu.faces []
    fun f _ => tabulate_get _ f
  have hall : H = tabulate fun f => advanceLanguage s.fcu.faces[f] :=
    Vector.ext fun i hi => (hH ⟨i, hi⟩).trans (if_pos (mem_indices _))
  have hstart : (s.withFaces s.fcu.faces).handOffs [] = s := by
    unfold State.withFaces State.handOffs
    rw [List.append_nil]
  rw [hstart, hall, List.nil_append] at hfold
  exact congrArg _ ((if_pos (Bool.and_eq_true_iff.2 ⟨hr, hrot⟩)).trans hfold)

theorem advanceLanguage_eq (fs : FaceState) : advanceLanguage fs = match fs.config with
    | some { kind := .sign langs _ _, .. } => if 2 ≤ langs.length then { fs with langIx := (fs.langIx + 1) % langs.length } else fs
    | _ => fs := by
  unfold advanceLanguage
  cases fs.config with
  | none => rfl
  | some c =>
    obtain ⟨address, glyphs, kind⟩ := c
    cases kind with
    | sign langs mode ms => rfl
    | door l page st => exact if_neg (show ¬ 2 ≤ 1 by decide)

theorem turns_eq (c : FaceConfig) : c.turns = match c.kind with
    | .sign langs _ _ => decide (2 ≤ langs.length)
    | .door _ _ _ => false := by
  obtain ⟨address, glyphs, kind⟩ := c
  cases kind <;> rfl

/-! ### Loads, returns to QUIET, completed records (R151, R160, R164, R166, R169) -/

theorem fcuProfileLoad_eq {s : State} (hr : s.running = true) (hl : .fcuProfileLoad ∈ s.handoffs) : exec .fcuProfileLoad s
    = .next (({ s.take .fcuProfileLoad with
        fcu := { faces := tabulate (fun f => { s.fcu.faces[f] with config := s.pfl.profile.faces[f], langIx := 0 }), rotationRunning := true } }
      : State).recomputeFaces (fun _ => true)) :=
  if_pos (Bool.and_eq_true_iff.2 ⟨hr, List.contains_iff_mem.2 hl⟩)

theorem forgetPicture_get (v : Vector (Option PartValue) 6) (i : Fin 6) : (forgetPicture v)[i] = if i = 5 then v[i] else none :=
  tabulate_get _ i

/-- Settles O40: the loads and clearings, then the two reports. -/
theorem faceRecordsAndSnapshotsFollowEvents : Obligations.FaceRecordsAndSnapshotsFollowEvents := by
  refine ⟨fun s hr => ⟨fun hl => ⟨_, fun f => tabulate_get _ f, (fcuProfileLoad_eq hr hl).trans (congrArg _ (recomputeFaces_eq _ _))⟩,
    ⟨_, _, fun f => tabulate_get _ f, fun f => tabulate_get _ f, congrArg _ ((if_pos (by exact hr)).trans (recomputeFaces_eq _ _))⟩,
    fun f => congrArg _ ((if_pos (by exact hr)).trans (recomputeFace_eq _ _)), fun hrot => ?_⟩, fun s f hr hc => ?_⟩
  · refine ⟨tabulate fun f => advanceLanguage s.fcu.faces[f], fun f => (tabulate_get _ f).trans ((advanceLanguage_eq _).trans rfl), s.languagesTurned, rfl, ?_⟩
    have hturns : (fun (_ : FaceIx) c => FaceConfig.turns c) = fun _ c => match c.kind with
      | .sign langs _ _ => decide (2 ≤ langs.length)
      | .door _ _ _ => false := funext fun _ => funext turns_eq
    have hexec := languageRotation_eq hr hrot
    rw [hturns] at hexec
    exact hexec
  · have hcond : (s.running && s.fcu.faces[f].config.isSome) = true := Bool.and_eq_true_iff.2 ⟨hr, hc⟩
    refine ⟨fun p v => congrArg _ (if_pos (by exact hcond)), fun p => congrArg _ (if_pos (by exact hcond)),
      ⟨forgetPicture s.fcu.faces[f].snapshot, ?_, fun j hj => ?_, congrArg _ (if_pos (by exact hcond))⟩,
      ⟨forgetPicture s.fcu.faces[f].snapshot, ?_, fun j hj => ?_, congrArg _ (if_pos (by exact hcond))⟩, rfl, fun n => rfl, rfl⟩
    · exact (forgetPicture_get _ 5).trans (if_pos rfl)
    · exact (forgetPicture_get _ j).trans (if_neg hj)
    · exact (forgetPicture_get _ 5).trans (if_pos rfl)
    · exact (forgetPicture_get _ j).trans (if_neg hj)

end Sys2Proof.Machine
end

section
/-! PROOFS. The arbiter of the face string and the candidate it takes (08): R180. -/

namespace Sys2Proof.Machine

/-! ### The candidates of a face word (R180) -/

theorem mem_ite_singleton {α : Type} {p : Prop} [Decidable p] {a c : α} : c ∈ (if p then [a] else []) ↔ p ∧ c = a := by
  by_cases h : p
  · rw [if_pos h, List.mem_singleton, and_iff_right h]
  · rw [if_neg h]
    exact iff_of_false List.not_mem_nil fun hc => h hc.1

theorem classRank_getD (k : Option DemandClass) : classRank (k.getD .content) = if k = some .muster then 0 else 1 := by
  cases k with
  | none => rfl
  | some k => cases k <;> rfl

theorem chainRank_eq (aged : Bool) (b : ChainBody) : chainRank aged b = match b with
    | .generated .muster _ => 0
    | .generated .content _ => 1
    | .supplied _ _ _ => if aged then 1 else 2 := by
  cases b with
  | generated cls parts => cases cls <;> rfl
  | supplied rs done halt => rfl

theorem pollCandidate_eq_some {w : FaceWord} {n : Count32} {aged : Bool} :
    w.pollCandidate = some (n, aged) ↔ w.poll = .due n aged ∧ w.state ≠ .waitPage ∧ w.state ≠ .transfer := by
  unfold FaceWord.pollCandidate
  cases hp : w.poll with
  | due k a =>
    dsimp only
    by_cases hs : w.state = .waitPage ∨ w.state = .transfer
    · rw [if_pos hs]
      exact iff_of_false nofun fun h => hs.elim h.2.1 h.2.2
    · rw [if_neg hs]
      obtain ⟨hwait, htransfer⟩ := not_or.1 hs
      refine ⟨fun h => ?_, fun h => ?_⟩
      · obtain ⟨rfl, rfl⟩ := Prod.mk.inj (Option.some.inj h)
        exact ⟨rfl, hwait, htransfer⟩
      · cases h.1
        rfl
  | _ => exact iff_of_false nofun fun h => nomatch h.1

theorem mem_candidates (w : FaceWord) (f : FaceIx) (c : Candidate) : c ∈ w.candidates f ↔
    (w.demand = true ∧ w.active = none ∧ w.state = .idle
      ∧ c = { rank := if w.cls = some .muster then 0 else 1, seq := w.demandSeq, face := f, pick := .demand })
    ∨ (∃ a, w.active = some a ∧ w.state = .active ∧ c = { rank := chainRank w.recordAged a.body, seq := a.seq, face := f, pick := .record })
    ∨ ∃ n aged, w.poll = .due n aged ∧ w.state ≠ .waitPage ∧ w.state ≠ .transfer
      ∧ c = { rank := if aged then 1 else 3, seq := n, face := f, pick := .poll } := by
  unfold FaceWord.candidates
  rw [List.mem_append, List.mem_append, mem_ite_singleton, or_assoc, classRank_getD]
  refine or_congr ?_ (or_congr ?_ ?_)
  · simp only [Bool.and_eq_true, Option.isNone_iff_eq_none, beq_iff_eq, and_assoc]
  · by_cases ha : w.state = .active
    · rw [if_pos ha, Option.mem_toList, Option.map_eq_some_iff]
      exact exists_congr fun a => and_congr_right fun _ => ⟨fun h => ⟨ha, h.symm⟩, fun h => h.2.symm⟩
    · rw [if_neg ha]
      exact iff_of_false List.not_mem_nil fun ⟨_, _, h, _⟩ => ha h
  · rw [Option.mem_toList, Option.map_eq_some_iff]
    refine ⟨fun ⟨⟨n, aged⟩, hp, hc⟩ => ?_, fun ⟨n, aged, hp, hwait, htransfer, hc⟩ => ⟨(n, aged), ?_, hc.symm⟩⟩
    · obtain ⟨hdue, hwait, htransfer⟩ := pollCandidate_eq_some.1 hp
      exact ⟨n, aged, hdue, hwait, htransfer, hc.symm⟩
    · exact pollCandidate_eq_some.2 ⟨hp, hwait, htransfer⟩

/-! ### The candidate taken (R180) -/

/-- Two numbers within half the range of a base are in serial order as their distances from it are. -/
theorem seqOlder_iff {base a b : Count32} (ha : (a - base).toNat < 2 ^ 31) (hb : (b - base).toNat < 2 ^ 31) :
    seqOlder a b = true ↔ (a - base).toNat < (b - base).toNat := by
  unfold seqOlder
  rw [Bool.and_eq_true, decide_eq_true_iff, decide_eq_true_iff]
  bv_omega

/-- The best so far is the candidate to take of those seen. -/
def IsBest (seen : List Candidate) (best : Option Candidate) : Prop :=
  (best = none → seen = []) ∧ ∀ b, best = some b → b ∈ seen ∧ (∀ x ∈ seen, b.rank ≤ x.rank)
    ∧ ∀ base : Count32, (∀ x ∈ seen, (x.seq - base).toNat < 2 ^ 31) → ∀ x ∈ seen, x.rank = b.rank → (b.seq - base).toNat ≤ (x.seq - base).toNat

theorem isBest_new {seen : List Candidate} {c : Candidate} (hrank : ∀ x ∈ seen, c.rank ≤ x.rank)
    (hseq : ∀ base : Count32, (∀ x ∈ seen ++ [c], (x.seq - base).toNat < 2 ^ 31) → ∀ x ∈ seen, x.rank = c.rank →
      (c.seq - base).toNat ≤ (x.seq - base).toNat) : IsBest (seen ++ [c]) (some c) := by
  refine ⟨nofun, fun b hb => ?_⟩
  obtain rfl := Option.some.inj hb
  refine ⟨List.mem_append_right _ (List.mem_singleton_self _), fun x hx => ?_, fun base hbase x hx he => ?_⟩
  · cases List.mem_append.1 hx with
    | inl hx => exact hrank x hx
    | inr hx => rw [List.eq_of_mem_singleton hx]
  · cases List.mem_append.1 hx with
    | inl hx => exact hseq base hbase x hx he
    | inr hx => rw [List.eq_of_mem_singleton hx]

theorem isBest_kept {seen : List Candidate} {b c : Candidate} (h : IsBest seen (some b)) (hrank : b.rank ≤ c.rank)
    (hseq : c.rank = b.rank → seqOlder c.seq b.seq = false) : IsBest (seen ++ [c]) (some b) := by
  obtain ⟨hmem, hle, hold⟩ := h.2 b rfl
  refine ⟨nofun, fun d hd => ?_⟩
  obtain rfl := Option.some.inj hd
  refine ⟨List.mem_append_left _ hmem, fun x hx => ?_, fun base hbase x hx he => ?_⟩
  · cases List.mem_append.1 hx with
    | inl hx => exact hle x hx
    | inr hx => rw [List.eq_of_mem_singleton hx]; exact hrank
  · cases List.mem_append.1 hx with
    | inl hx => exact hold base (fun y hy => hbase y (List.mem_append_left _ hy)) x hx he
    | inr hx =>
      obtain rfl := List.eq_of_mem_singleton hx
      have hbx := hbase x (List.mem_append_right _ (List.mem_singleton_self _))
      have hbb := hbase b (List.mem_append_left _ hmem)
      exact Nat.le_of_not_lt fun hlt => Bool.noConfusion ((hseq he).symm.trans ((seqOlder_iff hbx hbb).2 hlt))

theorem preferred_isBest {seen : List Candidate} {best : Option Candidate} (h : IsBest seen best) (c : Candidate) :
    IsBest (seen ++ [c]) (preferred best c) := by
  cases best with
  | none =>
    have hseen := h.1 rfl
    subst hseen
    exact isBest_new (fun x hx => absurd hx List.not_mem_nil) fun _ _ x hx => absurd hx List.not_mem_nil
  | some b =>
    obtain ⟨hmem, hle, hold⟩ := h.2 b rfl
    have hpreferred : preferred (some b) c = if c.rank < b.rank || (c.rank == b.rank && seqOlder c.seq b.seq) then some c else some b := rfl
    rw [hpreferred]
    by_cases hc : (decide (c.rank < b.rank) || (c.rank == b.rank && seqOlder c.seq b.seq)) = true
    · rw [if_pos hc]
      rw [Bool.or_eq_true, decide_eq_true_iff, Bool.and_eq_true, beq_iff_eq] at hc
      have hcb : c.rank ≤ b.rank := hc.elim Nat.le_of_lt fun h => h.1.le
      refine isBest_new (fun x hx => hcb.trans (hle x hx)) fun base hbase x hx he => ?_
      cases hc with
      | inl hlt => exact absurd (hle x hx) (Nat.not_le.2 (he ▸ hlt))
      | inr hsame =>
        have hcc := hbase c (List.mem_append_right _ (List.mem_singleton_self _))
        have hbb := hbase b (List.mem_append_left _ hmem)
        have hlt := (seqOlder_iff hcc hbb).1 hsame.2
        exact (Nat.le_of_lt hlt).trans (hold base (fun y hy => hbase y (List.mem_append_left _ hy)) x hx (he.trans hsame.1))
    · rw [if_neg hc]
      rw [Bool.or_eq_true, decide_eq_true_iff, Bool.and_eq_true, beq_iff_eq, not_or] at hc
      exact isBest_kept h (Nat.le_of_not_lt hc.1) fun he => Bool.eq_false_iff.2 fun ho => hc.2 ⟨he, ho⟩

theorem foldl_preferred_isBest (l : List Candidate) : ∀ (seen : List Candidate) (best : Option Candidate), IsBest seen best →
    IsBest (seen ++ l) (l.foldl preferred best) := by
  induction l with
  | nil => exact fun seen best h => (List.append_nil seen).symm ▸ h
  | cons c l ih =>
    intro seen best h
    rw [List.append_cons]
    exact ih _ _ (preferred_isBest h c)

/-- Every candidate of the string. -/
def State.allCandidates (s : State) : List Candidate := (indices 32).flatMap (fun f => s.fsc.words[f].candidates f)

theorem bestCandidate_isBest (s : State) : IsBest s.allCandidates s.bestCandidate :=
  foldl_preferred_isBest s.allCandidates [] none ⟨fun _ => rfl, nofun⟩

theorem choice_none {s : State} (h : s.running = false ∨ s.fsc.string.isSome = true ∨ s.allCandidates = []) : s.choice = none := by
  cases hc : s.choice with
  | none => rfl
  | some c =>
    obtain ⟨hr, hfree, hmem⟩ := choice_eq_some hc
    obtain h | h | h := h
    · exact nomatch h.symm.trans hr
    · rw [hfree] at h
      exact nomatch h
    · have hall : c ∈ s.allCandidates := List.mem_flatMap.2 ⟨c.face, mem_indices _, hmem⟩
      rw [h] at hall
      exact absurd hall List.not_mem_nil

theorem choice_eq_best {s : State} (hr : s.running = true) (hfree : s.fsc.string = none) : s.choice = s.bestCandidate :=
  if_pos (Bool.and_eq_true_iff.2 ⟨hr, Option.isNone_iff_eq_none.2 hfree⟩)

theorem exists_choice {s : State} (hr : s.running = true) (hfree : s.fsc.string = none) (hall : s.allCandidates ≠ []) :
    ∃ c, s.choice = some c := by
  cases hc : s.choice with
  | some c => exact ⟨c, rfl⟩
  | none => exact absurd ((bestCandidate_isBest s).1 ((choice_eq_best hr hfree).symm.trans hc)) hall

theorem pickUpTo_some {n : Nat} {s : State} {c : Candidate} (h : s.choice = some c) :
    State.pickUpTo (n + 1) s = State.pickUpTo n (s.takeCandidate c) := by
  rw [State.pickUpTo, h]

theorem pickUpTo_none {n : Nat} {s : State} (h : s.choice = none) : State.pickUpTo (n + 1) s = s := by
  rw [State.pickUpTo, h]

/-- Settles O41: the candidates, the picks one after the other, and the one taken. -/
theorem arbiterTakesOldestOfFirstClass : Obligations.ArbiterTakesOldestOfFirstClass := by
  refine ⟨fun w f c => ?_, fun n s => ⟨rfl, fun c hc => pickUpTo_some hc, pickUpTo_none⟩, fun s => ⟨fun h => ?_, fun hr hfree hall => ?_⟩⟩
  · have h := mem_candidates w f c
    simp only [chainRank_eq] at h
    exact h
  · have hnone := choice_none h
    exact ⟨hnone, pickUpTo_none hnone⟩
  · obtain ⟨c, hc⟩ := exists_choice hr hfree hall
    obtain ⟨hmem, hrank, hseq⟩ := (bestCandidate_isBest s).2 c ((choice_eq_best hr hfree).symm.trans hc)
    refine ⟨c, hmem, hrank, hseq, hc, pickUpTo_some hc, fun hp hh => ?_⟩
    rw [step_of_nothing_waiting hp hh, idle_of_choice hc]

end Sys2Proof.Machine
end

section
/-! PROOFS. What a pick of the arbiter starts (08): R174, R182, R186 to R188. -/

namespace Sys2Proof.Machine

/-! ### A record is built from the inputs, whatever the string and the cache do meanwhile (R182) -/

/-- The state with the string, the cache and the host port as given. -/
def State.withString (s : State) (x : Fsc) (p : Pca) (h : Hpt) : State := { s with fsc := x, pca := p, hpt := h }

section
variable (s : State) {x : Fsc} {p : Pca} (h : Hpt) {f : FaceIx} (hpriv : x.words[f].privacy = s.fsc.words[f].privacy)
  (hfault : p.faulted = s.pca.faulted)
include hpriv hfault

theorem partValue_withString (c : FaceConfig) (q : Part) : partValue (s.withString x p h) f c q = partValue s f c q := by
  unfold partValue
  cases q with
  | header =>
    show PartValue.header (if s.muc.phase = .quiet then _ else headerPage s.pfl.profile p.faulted s.muc.phase _) _ _ = _
    rw [hfault]
    rfl
  | line n => rfl
  | privacy => exact congrArg (fun b => PartValue.privacy (indicatorOf s.muc.phase b)) hpriv

theorem buildRecord_withString (c : ActiveChain) : (s.withString x p h).buildRecord f c = s.buildRecord f c := by
  unfold State.buildRecord
  cases c.body with
  | generated cls parts =>
    have hvalue : (fun cfg => partValue (s.withString x p h) f cfg (parts.getD c.index .header))
        = fun cfg => partValue s f cfg (parts.getD c.index .header) := funext fun cfg => partValue_withString s h hpriv hfault cfg _
    dsimp only
    rw [hvalue]
    rfl
  | supplied rs done halt => rfl

theorem nextPage_withString (c : ActiveChain) : (s.withString x p h).nextPage f c = s.nextPage f c := by
  unfold State.nextPage
  rw [buildRecord_withString s h hpriv hfault]

end

/-! ### A record begins transfer (R182 step 5) -/

/-- The face word of a record that begins transfer. -/
def FaceWord.begun (w : FaceWord) (later : Nat) : FaceWord := { w with
  state := .transfer, retry := 0, started := none, waiting := none, recordAged := false,
  prefetch := if later = 0 then w.prefetch else some later }

/-- The state when a record begins transfer with the cache given. -/
def State.begun (s : State) (f : FaceIx) (c : ActiveChain) (p : Pca) (r : DrawRecord) : State := { s with
  fsc := { s.fsc with string := some (.draw f r), words := setAt s.fsc.words f (s.fsc.words[f].begun (s.nextPage f c)) },
  pca := if s.nextPage f c = 0 then p else p.prefetchRequest f (s.nextPage f c),
  hpt := if c.notifies then s.hpt.takeNotice (.progress f c.index c.body.total) else s.hpt }

theorem prefetchNext_of_page {s : State} {f : FaceIx} {c : ActiveChain} {later : Nat} (h : s.nextPage f c = later) : s.prefetchNext f c
    = if later = 0 then s else (s.setWord f { s.fsc.words[f] with prefetch := some later }).setPca (s.pca.prefetchRequest f later) := by
  subst h
  rfl

theorem notice_eq {s : State} (hr : s.running = true) (n : Notice) : s.notice n = { s with hpt := s.hpt.takeNotice n } :=
  if_neg fun e => by simp [State.running, e] at hr

/-- The state as a record begins transfer, its next record's page not yet asked for. -/
def State.onLine (s : State) (f : FaceIx) (c : ActiveChain) (p : Pca) (r : DrawRecord) : State :=
  s.withString { s.fsc with
      string := some (.draw f r),
      words := setAt s.fsc.words f
        { s.fsc.words[f] with state := .transfer, retry := 0, started := none, waiting := none, recordAged := false } } p
    (if c.notifies then s.hpt.takeNotice (.progress f c.index c.body.total) else s.hpt)

theorem onLine_word (s : State) (f : FaceIx) (c : ActiveChain) (p : Pca) (r : DrawRecord) : (s.onLine f c p r).fsc.words[f]
    = { s.fsc.words[f] with state := .transfer, retry := 0, started := none, waiting := none, recordAged := false } := setAt_same _ _ _

theorem onLine_nextPage (s : State) (f : FaceIx) (c : ActiveChain) {p : Pca} (hfault : p.faulted = s.pca.faulted) (r : DrawRecord) :
    (s.onLine f c p r).nextPage f c = s.nextPage f c := by
  have hpriv : (s.onLine f c p r).fsc.words[f].privacy = s.fsc.words[f].privacy := by rw [onLine_word]
  exact nextPage_withString s _ hpriv hfault c

theorem beginTransfer_onLine {s : State} (hr : s.running = true) (f : FaceIx) (c : ActiveChain) (p : Pca) (r : DrawRecord) :
    (s.setPca p).beginTransfer f c r = (s.onLine f c p r).prefetchNext f c := by
  unfold State.beginTransfer
  dsimp only
  refine congrArg (fun u : State => u.prefetchNext f c) ?_
  unfold State.onLine
  by_cases hn : c.notifies = true
  · rw [if_pos hn, if_pos hn]
    exact notice_eq (by exact hr) _
  · rw [if_neg hn, if_neg hn]
    rfl

theorem beginTransfer_eq {s : State} (hr : s.running = true) (f : FaceIx) (c : ActiveChain) {p : Pca} (hfault : p.faulted = s.pca.faulted)
    (r : DrawRecord) : (s.setPca p).beginTransfer f c r = s.begun f c p r := by
  rw [beginTransfer_onLine hr, prefetchNext_of_page (onLine_nextPage s f c hfault r), onLine_word]
  unfold State.begun FaceWord.begun
  by_cases hlater : s.nextPage f c = 0
  · rw [if_pos hlater, if_pos hlater, if_pos hlater]
    rfl
  · rw [if_neg hlater, if_neg hlater, if_neg hlater]
    simp only [State.setWord, State.onLine, State.withString, setAt_setAt]
    rfl

/-! ### Preparing a record (R182) -/

theorem faceRequest_ready_faulted {p : Pca} {f : FaceIx} {page : Nat} (h : (p.faceRequest f page).2 = true) :
    (p.faceRequest f page).1.faulted = p.faulted := by
  unfold Pca.faceRequest at h ⊢
  cases hv : p.validSlot page with
  | none =>
    rw [hv] at h
    exact nomatch h
  | some i => rfl

section
variable {s : State} (hr : s.running = true) (f : FaceIx) (c : ActiveChain)
include hr

theorem not_fallback_of_running : s.pfl.node ≠ .fallback := fun e => by simp [State.running, e] at hr

theorem prepare_halted (hs : c.isSupplied = true) (hq : s.muc.phase ≠ .quiet) : s.prepare f c = chainEnded s f .halted := by
  have hcond : (c.isSupplied && s.muc.phase != .quiet) = true := Bool.and_eq_true_iff.2 ⟨hs, bne_iff_ne.2 hq⟩
  exact (if_pos hcond).trans (endChain_eq s f .halted (not_fallback_of_running hr))

variable (hgo : c.isSupplied = false ∨ s.muc.phase = .quiet)
include hgo

omit hr in
theorem prepare_goes : ¬ (c.isSupplied && s.muc.phase != .quiet) = true := by
  rw [Bool.and_eq_true, bne_iff_ne]
  rintro ⟨hs, hq⟩
  exact hgo.elim (fun h => Bool.noConfusion (h.symm.trans hs)) hq

theorem prepare_started {r : DrawRecord} (h : s.fsc.words[f].started = some r) : s.prepare f c = s.begun f c s.pca r := by
  unfold State.prepare
  rw [if_neg (prepare_goes c hgo), h]
  exact beginTransfer_eq hr f c (p := s.pca) rfl r

variable (h : s.fsc.words[f].started = none)
include h

theorem prepare_pageless (hp : (s.buildRecord f c).page = 0) : s.prepare f c = s.begun f c s.pca (s.buildRecord f c) := by
  unfold State.prepare
  rw [if_neg (prepare_goes c hgo), h]
  exact (if_pos hp).trans (beginTransfer_eq hr f c (p := s.pca) rfl _)

omit hr in
theorem prepare_asks (hp : (s.buildRecord f c).page ≠ 0) : s.prepare f c = s.requestPage f c (s.buildRecord f c) := by
  unfold State.prepare
  rw [if_neg (prepare_goes c hgo), h]
  exact if_neg hp

theorem prepare_ready (hp : (s.buildRecord f c).page ≠ 0) (hready : (s.pca.faceRequest f (s.buildRecord f c).page).2 = true) :
    s.prepare f c = s.begun f c (s.pca.faceRequest f (s.buildRecord f c).page).1 (s.buildRecord f c) := by
  rw [prepare_asks f c hgo h hp, requestPage_eq, if_pos hready]
  exact beginTransfer_eq hr f c (faceRequest_ready_faulted hready) _

omit hr in
theorem prepare_waits (hp : (s.buildRecord f c).page ≠ 0) (hready : (s.pca.faceRequest f (s.buildRecord f c).page).2 = false) :
    s.prepare f c = { withFaceWord s f { s.fsc.words[f] with waiting := some (s.buildRecord f c), state := .waitPage } with
      pca := (s.pca.faceRequest f (s.buildRecord f c).page).1 } := by
  rw [prepare_asks f c hgo h hp, requestPage_eq, if_neg (by rw [hready]; exact Bool.false_ne_true)]
  rfl

end

/-! ### The record built (R182 step 2) -/

theorem buildRecord_generated {s : State} {f : FaceIx} {c : ActiveChain} {cls : DemandClass} {ps : List Part} {p : Part} {cfg : FaceConfig}
    (hc : c.body = .generated cls ps) (hp : ps[c.index]? = some p) (hcfg : s.fcu.faces[f].config = some cfg) :
    s.buildRecord f c = { content := .part p (partValue s f cfg p), chain := decide (c.index + 1 < ps.length), phase := s.muc.phase,
                          language := s.fcu.faces[f].language } := by
  unfold State.buildRecord
  rw [hc, hcfg]
  dsimp only
  rw [List.getD_eq_getElem?_getD, hp]
  rfl

theorem buildRecord_supplied {s : State} {f : FaceIx} {c : ActiveChain} {rs : List SuppliedRecord} {done : Nat} {halt : Bool}
    {r : SuppliedRecord} (hc : c.body = .supplied rs done halt) (hr : rs[c.index]? = some r) :
    s.buildRecord f c = { content := .picture r.page, chain := decide (c.index + 1 < rs.length), phase := .quiet,
                          language := s.fcu.faces[f].language } := by
  unfold State.buildRecord
  rw [hc]
  dsimp only
  rw [hr]
  rfl

theorem contentPage_part (p : Part) (v : PartValue) : contentPage (.part p v) = match v with
    | .header page _ _ => page
    | .line v => v.page
    | .blank => 0
    | .privacy _ => 0 := by cases v <;> rfl

theorem notifies_eq (c : ActiveChain) : c.notifies = match c.body with
    | .supplied rs _ _ => (rs[c.index]?).any (·.notify)
    | .generated _ _ => false := by
  unfold ActiveChain.notifies
  cases c.body <;> rfl

theorem isSupplied_iff (c : ActiveChain) : c.isSupplied = true ↔ ∃ rs done halt, c.body = .supplied rs done halt := by
  unfold ActiveChain.isSupplied
  cases c.body with
  | generated cls ps => exact iff_of_false nofun fun ⟨_, _, _, h⟩ => nomatch h
  | supplied rs done halt => exact iff_of_true rfl ⟨rs, done, halt, rfl⟩

theorem getD_content (k : Option DemandClass) : k.getD .content = if k = some .muster then .muster else .content := by
  cases k with
  | none => rfl
  | some k => cases k <;> rfl

/-! ### Picks of demands and of polls (R174, R186 to R188) -/

theorem startGenerated_nothing {s : State} {f : FaceIx} (h : differingParts s f = []) :
    s.startGenerated f = withFaceWord s f { s.fsc.words[f] with demand := false, cls := none } :=
  if_pos (List.isEmpty_iff.2 h)

theorem startGenerated_chain {s : State} {f : FaceIx} (h : differingParts s f ≠ []) (c : ActiveChain)
    (hc : c = { body := .generated (if s.fsc.words[f].cls = some .muster then .muster else .content) (differingParts s f), index := 0,
                seq := s.fsc.words[f].demandSeq }) :
    s.startGenerated f = (withFaceWord s f { s.fsc.words[f] with
      demand := false, cls := none, active := some c, state := .active, recordAged := false }).prepare f c := by
  subst hc
  rw [← getD_content]
  exact if_neg fun he => h (List.isEmpty_iff.1 he)

theorem attentionResume_lt (n : Nat) : (!decide (n ≤ Config.attentionResume)) = decide (16 < n) := by
  rw [Bool.eq_iff_iff, Bool.not_eq_true', decide_eq_false_iff_not, decide_eq_true_iff]
  exact Nat.not_le

/-- Settles O42: the picks of a demand, a record and a poll, and the ways a record is prepared. -/
theorem pickStartsChainRecordOrPoll : Obligations.PickStartsChainRecordOrPoll := by
  intro s f rank seq hr w taken parts
  refine ⟨startGenerated_nothing, fun h => startGenerated_chain h _ rfl, fun c hc => ?_, ?_, fun c => ?_⟩
  · show (s.fsc.words[f].active).elim s (s.prepare f) = _
    rw [show s.fsc.words[f].active = some c from hc]
    rfl
  · show s.beginPoll f = _
    unfold State.beginPoll
    dsimp only
    rw [attentionResume_lt]
  · intro built later notify isSupplied begins
    have hbegins : ∀ p r, s.begun f c p r = begins p r := fun p r => by
      unfold State.begun
      rw [notifies_eq]
      rfl
    refine ⟨fun cls ps p cfg hc hp hcfg => ?_, fun rs done halt r hc hrec => ?_, fun hs hq => ?_, fun hgo => ?_⟩
    · have hbuilt : built = _ := buildRecord_generated hc hp hcfg
      exact ⟨hbuilt, (congrArg DrawRecord.page hbuilt).trans (contentPage_part _ _)⟩
    · have hbuilt : built = _ := buildRecord_supplied hc hrec
      exact ⟨hbuilt, congrArg DrawRecord.page hbuilt⟩
    · exact prepare_halted hr f c ((isSupplied_iff c).2 hs) hq
    · have hgo' : c.isSupplied = false ∨ s.muc.phase = .quiet :=
        hgo.imp_left fun hn => Bool.eq_false_iff.2 fun ht => hn ((isSupplied_iff c).1 ht)
      simp only [← hbegins]
      exact ⟨fun r h => prepare_started hr f c hgo' h, fun h hp => prepare_pageless hr f c hgo' h hp,
        fun h hp => ⟨fun hready => prepare_ready hr f c hgo' h hp hready, fun hready => prepare_waits f c hgo' h hp hready⟩⟩

end Sys2Proof.Machine
end

section
/-! PROOFS. The face words of the face string: the polls that fall due together (O43), demands and ages (O44). -/

namespace Sys2Proof.Machine

/-! ### The round robin order (R181) -/

/-- How far a face stands after the last polled one. -/
def pollPlace (last f : FaceIx) : Nat := (f.val + 31 - last.val) % 32

theorem pollPlace_afterPolled (last k : FaceIx) : pollPlace last (afterPolled last k) = k.val := by
  simp only [pollPlace, afterPolled]
  omega

theorem afterPolled_pollPlace (last f : FaceIx) : afterPolled last ⟨pollPlace last f, Nat.mod_lt _ (by decide)⟩ = f := by
  apply Fin.ext
  simp only [pollPlace, afterPolled]
  omega

theorem roundRobin_sorted (last : FaceIx) : (roundRobin last).Pairwise (fun f g => pollPlace last f < pollPlace last g) := by
  refine List.pairwise_map.2 ((indices_sorted 32).imp fun {j k} hjk => ?_)
  rw [pollPlace_afterPolled, pollPlace_afterPolled]
  exact hjk

theorem roundRobin_perm (last : FaceIx) : (roundRobin last).Perm (indices 32) := by
  refine (List.perm_ext_iff_of_nodup ?_ (indices_nodup 32)).2 fun f => iff_of_true ?_ (mem_indices f)
  · exact (roundRobin_sorted last).imp fun h he => absurd (congrArg (pollPlace last) he) (Nat.ne_of_lt h)
  · exact List.mem_map.2 ⟨_, mem_indices _, afterPolled_pollPlace last f⟩

theorem length_filter_roundRobin (last : FaceIx) (q : FaceIx → Bool) : ((roundRobin last).filter q).length = ((indices 32).filter q).length :=
  ((roundRobin_perm last).filter q).length_eq

/-- In a list in ascending order of a measure, an element's place is the number of elements of lower measure. -/
theorem idxOf_of_sorted {m : FaceIx → Nat} {l : List FaceIx} (h : l.Pairwise (fun f g => m f < m g)) {f : FaceIx} (hf : f ∈ l) :
    l.idxOf f = (l.filter (fun g => m g < m f)).length := by
  induction l with
  | nil => exact absurd hf List.not_mem_nil
  | cons a l ih =>
    obtain ⟨hhead, htail⟩ := List.pairwise_cons.1 h
    by_cases ha : a = f
    · subst ha
      rw [List.idxOf_cons_self, List.filter_eq_nil_iff.2]
      · rfl
      · intro g hg
        rw [decide_eq_true_iff]
        cases List.mem_cons.1 hg with
        | inl he => exact he ▸ Nat.lt_irrefl _
        | inr hg => exact Nat.not_lt.2 (hhead g hg).le
    · have hf' : f ∈ l := (List.mem_cons.1 hf).resolve_left (Ne.symm ha)
      rw [List.idxOf_cons_ne _ ha, ih htail hf', List.filter_cons_of_pos (by exact decide_eq_true (hhead f hf')), List.length_cons]

/-- The place of a face among those that wait, in round robin order. -/
theorem idxOf_roundRobin (last : FaceIx) (q : FaceIx → Bool) {f : FaceIx} (hf : q f = true) :
    ((roundRobin last).filter q).idxOf f = ((indices 32).filter (fun g => q g && pollPlace last g < pollPlace last f)).length := by
  have hmem : f ∈ (roundRobin last).filter q := List.mem_filter.2 ⟨(roundRobin_perm last).mem_iff.2 (mem_indices f), hf⟩
  rw [idxOf_of_sorted ((roundRobin_sorted last).filter q) hmem, List.filter_filter, length_filter_roundRobin]
  exact congrArg (fun r => ((indices 32).filter r).length) (funext fun g => Bool.and_comm _ _)

/-! ### Polls that fall due together -/

/-- The face word with its poll due under a number. -/
def FaceWord.pollDueAt (w : FaceWord) (n : Count32) : FaceWord := { w with poll := .due n false }

/-- The polls of some faces fell due, numbered in the order of the list. -/
structure PollsDue (l : List FaceIx) (s u : State) : Prop where
  words : ∀ f : FaceIx, u.fsc.words[f]
    = if f ∈ l then s.fsc.words[f].pollDueAt (s.fsc.seqCount + BitVec.ofNat 32 (l.idxOf f)) else s.fsc.words[f]
  count : u.fsc.seqCount = s.fsc.seqCount + BitVec.ofNat 32 l.length
  rest : ∃ words n, u = { s with fsc := { s.fsc with words := words, seqCount := n } }

theorem foldl_pollFallsDue {l : List FaceIx} (h : l.Nodup) (s : State) : PollsDue l s (l.foldl State.pollFallsDue s) := by
  induction l generalizing s with
  | nil => exact ⟨fun f => rfl, (BitVec.add_zero _).symm, _, _, rfl⟩
  | cons a l ih =>
    obtain ⟨ha, hl⟩ := List.nodup_cons.1 h
    obtain ⟨hwords, hcount, words, n, hrest⟩ := ih hl (s.pollFallsDue a)
    have hnext : (s.pollFallsDue a).fsc.seqCount = s.fsc.seqCount + 1 := rfl
    have hsucc : ∀ k : Nat, s.fsc.seqCount + 1 + BitVec.ofNat 32 k = s.fsc.seqCount + BitVec.ofNat 32 (k + 1) := fun k => by
      rw [BitVec.ofNat_add, BitVec.add_assoc, BitVec.add_comm (BitVec.ofNat 32 k)]
      rfl
    refine ⟨fun f => (hwords f).trans ?_, hcount.trans ?_, words, n, hrest⟩
    · by_cases hf : f = a
      · subst hf
        rw [if_neg ha, if_pos List.mem_cons_self, List.idxOf_cons_self]
        exact (setAt_same _ _ _).trans (congrArg s.fsc.words[f].pollDueAt (BitVec.add_zero _).symm)
      · have hword : (s.pollFallsDue a).fsc.words[f] = s.fsc.words[f] := setAt_other _ _ _ _ (Ne.symm hf)
        rw [hword, hnext, hsucc, List.idxOf_cons_ne _ (Ne.symm hf)]
        by_cases hfl : f ∈ l
        · rw [if_pos hfl, if_pos (List.mem_cons_of_mem _ hfl)]
        · rw [if_neg hfl, if_neg fun h => (List.mem_cons.1 h).elim hf hfl]
    · rw [hnext, hsucc]
      rfl

/-- The polls of the waiting faces fall due in round robin order. -/
theorem pollsDue_words {last : FaceIx} {q : FaceIx → Bool} {s u : State} (h : PollsDue ((roundRobin last).filter q) s u) (f : FaceIx) :
    u.fsc.words[f] = if q f then s.fsc.words[f].pollDueAt (s.fsc.seqCount
      + BitVec.ofNat 32 ((indices 32).filter (fun g => q g && pollPlace last g < pollPlace last f)).length) else s.fsc.words[f] := by
  rw [h.words f]
  by_cases hf : q f = true
  · rw [if_pos hf, if_pos (List.mem_filter.2 ⟨(roundRobin_perm last).mem_iff.2 (mem_indices f), hf⟩), idxOf_roundRobin last q hf]
  · rw [if_neg hf, if_neg fun h => hf (List.mem_filter.1 h).2]

theorem pollsDue_count {last : FaceIx} {q : FaceIx → Bool} {s u : State} (h : PollsDue ((roundRobin last).filter q) s u) :
    u.fsc.seqCount = s.fsc.seqCount + BitVec.ofNat 32 ((indices 32).filter q).length := by
  rw [h.count, length_filter_roundRobin]

theorem roundRobin_filter_nodup (last : FaceIx) (q : FaceIx → Bool) : ((roundRobin last).filter q).Nodup :=
  ((roundRobin_perm last).nodup_iff.2 (indices_nodup 32)).filter q

/-! ### Profile load (R171, R173) -/

theorem pollFallsDue_address (s : State) (f g : FaceIx) : (s.pollFallsDue f).fsc.words[g].address = s.fsc.words[g].address := by
  by_cases h : f = g
  · subst h
    have hword : (s.pollFallsDue f).fsc.words[f] = s.fsc.words[f].pollDueAt s.fsc.seqCount := setAt_same _ _ _
    rw [hword]
    rfl
  · have hword : (s.pollFallsDue f).fsc.words[g] = s.fsc.words[g] := setAt_other _ _ _ _ h
    rw [hword]

theorem foldl_pollAtLoad {q : FaceIx → Bool} (l : List FaceIx) : ∀ s : State, (∀ f : FaceIx, s.fsc.words[f].address.isSome = q f) →
    l.foldl State.pollAtLoad s = (l.filter q).foldl State.pollFallsDue s := by
  induction l with
  | nil => exact fun _ _ => rfl
  | cons a l ih =>
    intro s h
    have hload : s.pollAtLoad a = if q a = true then s.pollFallsDue a else s := by rw [← h a]; rfl
    rw [List.foldl_cons, hload]
    by_cases ha : q a = true
    · rw [if_pos ha, List.filter_cons_of_pos ha, List.foldl_cons]
      exact ih _ fun f => (congrArg Option.isSome (pollFallsDue_address s a f)).trans (h f)
    · rw [if_neg ha, List.filter_cons_of_neg ha]
      exact ih _ h

/-- The state with the face words just installed from the profile. -/
def State.wordsLoaded (s : State) : State :=
  { s.take .fscProfileLoad with fsc := { s.fsc with
      words := tabulate (fun f => loadedWord (s.pfl.profile.faces[f].map (·.address)))
      seqCount := 0 } }

theorem wordsLoaded_address (s : State) (f : FaceIx) : s.wordsLoaded.fsc.words[f].address.isSome = s.pfl.profile.faces[f].isSome :=
  (congrArg (fun w : FaceWord => w.address.isSome) (tabulate_get _ f)).trans Option.isSome_map

theorem fscProfileLoad_eq {s : State} (hr : s.running = true) (hl : .fscProfileLoad ∈ s.handoffs) : exec .fscProfileLoad s
    = .next (State.recomputeFaces (((roundRobin s.fsc.lastPolled).filter (fun f => s.pfl.profile.faces[f].isSome)).foldl
        State.pollFallsDue s.wordsLoaded) (fun _ => true)) := by
  refine (if_pos (Bool.and_eq_true_iff.2 ⟨hr, List.contains_iff_mem.2 hl⟩)).trans ?_
  exact congrArg (fun u : State => Host.Outcome.next (u.recomputeFaces fun _ => true)) (foldl_pollAtLoad _ s.wordsLoaded (wordsLoaded_address s))

/-- Settles O43: the face words loaded, then their polls due in round robin order. -/
theorem fscLoadMakesEveryPollDue : Obligations.FscLoadMakesEveryPollDue := by
  intro s hr hl
  have hpolls := foldl_pollFallsDue (roundRobin_filter_nodup s.fsc.lastPolled fun f => s.pfl.profile.faces[f].isSome) s.wordsLoaded
  have hexec := fscProfileLoad_eq hr hl
  generalize ((roundRobin s.fsc.lastPolled).filter (fun f => s.pfl.profile.faces[f].isSome)).foldl State.pollFallsDue s.wordsLoaded = u
    at hpolls hexec
  rw [recomputeFaces_eq] at hexec
  have hwords := pollsDue_words hpolls
  have hcount := pollsDue_count hpolls
  obtain ⟨-, -, words, n, rfl⟩ := hpolls
  refine ⟨_, hexec, ⟨fun f => (hwords f).trans ?_, hcount.trans (BitVec.zero_add _)⟩, rfl, rfl, rfl, rfl, ?_⟩
  · have hword : s.wordsLoaded.fsc.words[f] = loadedWord (s.pfl.profile.faces[f].map (·.address)) := tabulate_get _ f
    rw [hword]
    cases s.pfl.profile.faces[f] with
    | none => rfl
    | some c =>
      exact (if_pos rfl).trans (congrArg (loadedWord (some c.address)).pollDueAt (BitVec.zero_add _))
  · exact fun b hb => by cases b <;> first | rfl | exact absurd (by simp) hb

/-! ### Demands, ages and due polls (R173, R180, R181) -/

section
variable {s : State} {f : FaceIx} (k : DemandClass)

theorem takeDemand_refused (h : s.fsc.words[f].address = none ∨ s.fsc.words[f].state = .offline) : s.takeDemand f k = s := by
  refine if_pos (Bool.or_eq_true_iff.2 (h.imp (fun h => ?_) fun h => beq_iff_eq.2 h))
  rw [h]
  rfl

section
variable (ha : s.fsc.words[f].address.isSome = true) (ho : s.fsc.words[f].state ≠ .offline)
include ha ho

theorem takeDemand_taken : ¬ (s.fsc.words[f].address.isNone || s.fsc.words[f].state == .offline) = true := by
  rw [Bool.or_eq_true, beq_iff_eq, not_or]
  exact ⟨fun h => Option.isSome_iff_ne_none.1 ha (Option.isNone_iff_eq_none.1 h), ho⟩

theorem takeDemand_generated (hg : s.fsc.words[f].generatedActive = true) : s.takeDemand f k
    = s.setWord f { s.fsc.words[f] with redirty := true, cls := raiseClass s.fsc.words[f].cls k } :=
  (if_neg (takeDemand_taken ha ho)).trans (if_pos hg)

theorem takeDemand_demanded (hg : s.fsc.words[f].generatedActive = false) (hd : s.fsc.words[f].demand = true) : s.takeDemand f k
    = s.setWord f { s.fsc.words[f] with cls := raiseClass s.fsc.words[f].cls k } :=
  ((if_neg (takeDemand_taken ha ho)).trans (if_neg (by rw [hg]; decide))).trans (if_pos hd)

theorem takeDemand_new (hg : s.fsc.words[f].generatedActive = false) (hd : s.fsc.words[f].demand = false) : s.takeDemand f k
    = s.issue.setWord f { s.fsc.words[f] with demand := true, cls := some k, demandSeq := s.fsc.seqCount } :=
  ((if_neg (takeDemand_taken ha ho)).trans (if_neg (by rw [hg]; decide))).trans (if_neg (by rw [hd]; decide))

end

/-- A demand writes one face word, and perhaps the sequence count. -/
theorem takeDemand_words (s : State) (f : FaceIx) (k : DemandClass) :
    ∃ w n, s.takeDemand f k = { s with fsc := { s.fsc with words := setAt s.fsc.words f w, seqCount := n } } := by
  by_cases hrefused : s.fsc.words[f].address = none ∨ s.fsc.words[f].state = .offline
  · refine ⟨s.fsc.words[f], s.fsc.seqCount, (takeDemand_refused k hrefused).trans ?_⟩
    rw [setAt_self]
  · obtain ⟨haddress, ho⟩ := not_or.1 hrefused
    have ha := Option.isSome_iff_ne_none.2 haddress
    cases hg : s.fsc.words[f].generatedActive with
    | true => exact ⟨_, _, takeDemand_generated k ha ho hg⟩
    | false =>
      cases hd : s.fsc.words[f].demand with
      | true => exact ⟨_, _, takeDemand_demanded k ha ho hg hd⟩
      | false => exact ⟨_, _, takeDemand_new k ha ho hg hd⟩

end

theorem execDemand_running {s : State} (hr : s.running = true) (f : FaceIx) (k : DemandClass) :
    exec (.demand f k) s = .next ((s.take (.demand f k)).takeDemand f k) := congrArg Host.Outcome.next (if_pos (by exact hr))

theorem demandTaken {s : State} (hr : s.running = true) (f : FaceIx) (k : DemandClass) : Completes (exec (.demand f k) s) (fun u =>
    (let w := s.fsc.words[f]
     let v := u.fsc.words[f]
     let raised : Option DemandClass := if w.cls = some .muster then some .muster else some k
     u.handoffs = s.handoffs.erase (.demand f k) ∧ otherWords f s u ∧ u.fsc.string = s.fsc.string ∧ Frame.only [.fsc, .handoffs] s u
     ∧ (w.address = none ∨ w.state = .offline → v = w ∧ u.fsc.seqCount = s.fsc.seqCount)
     ∧ (w.address.isSome = true → w.state ≠ .offline →
        (w.generatedActive = true → v = { w with redirty := true, cls := raised } ∧ u.fsc.seqCount = s.fsc.seqCount)
        ∧ (w.generatedActive = false → w.demand = true → v = { w with cls := raised } ∧ u.fsc.seqCount = s.fsc.seqCount)
        ∧ (w.generatedActive = false → w.demand = false →
            v = { w with demand := true, cls := some k, demandSeq := s.fsc.seqCount } ∧ u.fsc.seqCount = s.fsc.seqCount + 1)))) := by
  refine ⟨_, execDemand_running hr f k, ?_⟩
  obtain ⟨word, n, hwords⟩ := takeDemand_words (s.take (.demand f k)) f k
  refine ⟨by rw [hwords]; rfl, ⟨fun g hg => ?_, by rw [hwords]; rfl⟩, by rw [hwords]; rfl, ?_, fun h => ?_, fun ha ho => ⟨fun hg => ?_, fun hg hd => ?_,
    fun hg hd => ?_⟩⟩
  · rw [hwords]
    exact setAt_other _ _ _ _ (Ne.symm hg)
  · rw [hwords]
    exact fun b hb => by cases b <;> first | rfl | exact absurd (by simp) hb
  · rw [takeDemand_refused k (by exact h)]
    exact ⟨rfl, rfl⟩
  · rw [takeDemand_generated k (by exact ha) (by exact ho) (by exact hg)]
    exact ⟨setAt_same _ _ _, rfl⟩
  · rw [takeDemand_demanded k (by exact ha) (by exact ho) (by exact hg) (by exact hd)]
    exact ⟨setAt_same _ _ _, rfl⟩
  · rw [takeDemand_new k (by exact ha) (by exact ho) (by exact hg) (by exact hd)]
    exact ⟨setAt_same _ _ _, rfl⟩

theorem age_poll {s : State} {f : FaceIx} {n : Count32} {a : Bool} (h : s.fsc.words[f].poll = .due n a) :
    s.age f .poll = withFaceWord s f { s.fsc.words[f] with poll := .due n true } := by
  unfold State.age
  dsimp only
  rw [h]
  rfl

/-- Settles O44: the demand's four cases, the two ages, and the polls in round robin order. -/
theorem demandsAgesAndDuePolls : Obligations.DemandsAgesAndDuePolls := by
  refine ⟨fun s f k hr => demandTaken hr f k, fun s f => ⟨fun hs hd => ?_, fun n a h => congrArg Host.Outcome.next (age_poll h)⟩, fun s fs => ?_⟩
  · exact congrArg Host.Outcome.next (if_pos (Bool.and_eq_true_iff.2 ⟨hs, by rw [hd]; rfl⟩))
  · have hwaits : (fun f => fs.contains f && s.fsc.words[f].pollWaits) = fun f => fs.contains f && s.fsc.words[f].address.isSome
        && (s.fsc.words[f].poll == .wait2s || s.fsc.words[f].poll == .wait10s) := funext fun f => (Bool.and_assoc _ _ _).symm
    have hpolls := foldl_pollFallsDue (roundRobin_filter_nodup s.fsc.lastPolled fun f => fs.contains f && s.fsc.words[f].pollWaits) s
    rw [hwaits] at hpolls
    have hwords := pollsDue_words hpolls
    have hcount := pollsDue_count hpolls
    obtain ⟨words, n, hrest⟩ := hpolls.rest
    refine ⟨_, congrArg (fun q => Host.Outcome.next (((roundRobin s.fsc.lastPolled).filter q).foldl State.pollFallsDue s)) hwaits, ⟨hwords, hcount⟩,
      by rw [hrest], by rw [hrest], ?_⟩
    rw [hrest]
    exact fun b hb => by cases b <;> first | rfl | exact absurd (by simp) hb

end Sys2Proof.Machine
end

section
/-! PROOFS. The bytes on the face string (O45). -/

namespace Sys2Proof.Machine

/-! ### The fields of a DRAW record (R190, note 2) -/

theorem contentLine_eq (x : RecordContent) : contentLine x = match x with
    | .part _ (.line v) => some v
    | _ => none := by
  cases x with
  | picture n => rfl
  | part p v => cases v <;> rfl

theorem contentPartCode_eq (x : RecordContent) : contentPartCode x = match x with
    | .part .header _ => 0
    | .part (.line n) _ => n.val + 1
    | .part .privacy _ => 5
    | .picture _ => 6 := by
  cases x with
  | picture n => rfl
  | part p v => cases p <;> rfl

theorem contentPage_eq (x : RecordContent) : contentPage x = match x with
    | .part _ (.header n _ _) => n
    | .part _ (.line v) => v.page
    | .part _ .blank => 0
    | .part _ (.privacy _) => 0
    | .picture n => n := by
  cases x with
  | picture n => rfl
  | part p v => cases v <;> rfl

theorem indicatorByte_eq (x : RecordContent) : natByte (indicatorCode (contentIndicator x)) = match x with
    | .part _ (.privacy .on) => 1
    | .part _ (.privacy .off) => 2
    | _ => 0 := by
  cases x with
  | picture n => rfl
  | part p v =>
    cases v with
    | privacy i => cases i <;> rfl
    | _ => rfl

/-- The code of a line's field, and its minutes. -/
def fieldBytes (x : Option Field) : Byte × Nat := (natByte (fieldCode x), fieldMinutes x)

theorem fieldBytes_eq (x : Option Field) : fieldBytes x = match x with
    | none => (0, 0)
    | some (.minutes n) => (1, n)
    | some .present => (2, 0)
    | some .pending => (3, 0)
    | some .closed => (4, 0) := by
  cases x with
  | none => rfl
  | some x => cases x <;> rfl

/-- The code of a line's status, its minute and whether it was moved. -/
def statusBytes (x : Option Status) : Byte × Nat × Bool := (natByte (statusCode x), statusMinute x, statusMoved x)

theorem statusBytes_eq (x : Option Status) : statusBytes x = match x with
    | none => (0, 0, false)
    | some .now => (1, 0, false)
    | some (.soon moved) => (2, 0, moved)
    | some (.startsAt minute moved) => (3, minute, moved)
    | some .cancelled => (4, 0, false) := by
  cases x with
  | none => rfl
  | some x => cases x <;> rfl

theorem phaseByte_eq (x : Phase) : natByte (phaseCode x) = match x with
    | .quiet => 0 | .alert => 1 | .proceed => 2 | .hold => 3 | .standDown => 4 := by
  cases x <;> rfl

/-- The bytes of a DRAW record, with its field and status each in one piece. -/
theorem drawBytes_eq (address : Byte) (r : DrawRecord) (bytes : List Byte) : drawBytes address r bytes =
    let line := contentLine r.content
    let arrow := line.bind LineValue.arrow
    let field := fieldBytes (line.bind LineValue.field)
    let status := statusBytes (line.bind LineValue.status)
    withCheck ([address, 1, natByte (contentPartCode r.content),
        natByte (flagBit r.chain 0 + flagBit status.2.2 1 + flagBit arrow.isSome 2), natByte (phaseCode r.phase), natByte r.language,
        arrow.getD 0, field.1, natByte field.2, status.1] ++ natBytes2 status.2.1
      ++ [natByte (indicatorCode (contentIndicator r.content))] ++ natBytes2 r.page ++ natBytes2 bytes.length ++ bytes) := rfl

/-! ### The bytes on the string -/

theorem pageBytes_of_slot {p : Pca} (hc : CacheOk p) {i : Fin 16} {page : Nat} (hs : p.slots[i].state = .valid) (hp : p.slots[i].page = page) :
    p.pageBytes page = p.slots[i].bytes := by
  unfold Pca.pageBytes
  rw [validSlot_of_page (cacheCore_iff.2 hc) hs hp]

section
variable {s : State} {f : FaceIx}

theorem stringBytes_poll {a b : Bool} (h : s.fsc.string = some (.poll f a b)) :
    s.stringBytes = pollBytes (s.fsc.words[f].address.getD 0) a b := by
  unfold State.stringBytes
  rw [h]

theorem stringBytes_draw {r : DrawRecord} (h : s.fsc.string = some (.draw f r)) :
    s.stringBytes = drawBytes (s.fsc.words[f].address.getD 0) r (if r.page = 0 then [] else s.pca.pageBytes r.page) := by
  unfold State.stringBytes
  rw [h]

end

/-! ### Replies (R190) -/

theorem readReplyCode_eq_some {b : List Byte} {x : Reply} : readReplyCode b = some x ↔
    (byteAt b 1 = 1 ∧ x = .done) ∨ (byteAt b 1 = 2 ∧ x = .fault (byteAt b 2)) ∨ (byteAt b 1 = 3 ∧ x = .nothing)
      ∨ (byteAt b 1 = 4 ∧ 1 ≤ (byteAt b 2).toNat ∧ (byteAt b 2).toNat ≤ 3 ∧ x = .attention (byteAt b 2)) := by
  unfold readReplyCode
  have hcode : ∀ k : Byte, byteAt b 1 = k ↔ (byteAt b 1).toNat = k.toNat := fun k => BitVec.toNat_inj.symm
  rw [hcode, hcode, hcode, hcode]
  simp only [BitVec.reduceToNat]
  split
  · next h => simp [h, eq_comm]
  · next h => simp [h, eq_comm]
  · next h => simp [h, eq_comm]
  · next h =>
    by_cases ha : 1 ≤ (byteAt b 2).toNat ∧ (byteAt b 2).toNat ≤ 3
    · simp [h, ha, eq_comm]
    · rw [if_neg ha]
      exact iff_of_false nofun (by rw [h]; simpa using fun h1 h3 => absurd ⟨h1, h3⟩ ha)
  · next h1 h2 h3 h4 => exact iff_of_false nofun fun h => h.elim (h1 ·.1) fun h => h.elim (h2 ·.1) fun h => h.elim (h3 ·.1) (h4 ·.1)

theorem readReply_eq_some {address : Byte} {isDraw : Bool} {b : List Byte} {x : Reply} : readReply address isDraw b = some x ↔
    (b.length = 5 ∧ wordAt b 3 = crc16 (b.take 3) ∧ byteAt b 0 = address) ∧ readReplyCode b = some x ∧ x.suits isDraw = true := by
  unfold readReply
  have hgood : (b.length = 5 ∧ checkGood b = true ∧ byteAt b 0 = address)
      ↔ (b.length = 5 ∧ wordAt b 3 = crc16 (b.take 3) ∧ byteAt b 0 = address) := by
    refine and_congr_right fun hlen => and_congr_left fun _ => ?_
    rw [checkGood_iff, hlen]
    exact and_iff_right (by decide)
  by_cases h : b.length = 5 ∧ checkGood b = true ∧ byteAt b 0 = address
  · rw [if_pos h, Option.filter_eq_some_iff]
    exact (and_iff_right (hgood.1 h)).symm
  · rw [if_neg h]
    exact iff_of_false nofun fun hx => h (hgood.2 hx.1)

theorem suits_iff {isDraw : Bool} {b : List Byte} {x : Reply} : readReplyCode b = some x ∧ x.suits isDraw = true ↔
    (isDraw = true ∧ byteAt b 1 = 1 ∧ x = .done) ∨ (byteAt b 1 = 2 ∧ x = .fault (byteAt b 2))
      ∨ (isDraw = false ∧ byteAt b 1 = 3 ∧ x = .nothing)
      ∨ (isDraw = false ∧ byteAt b 1 = 4 ∧ 1 ≤ (byteAt b 2).toNat ∧ (byteAt b 2).toNat ≤ 3 ∧ x = .attention (byteAt b 2)) := by
  rw [readReplyCode_eq_some]
  cases x with
  | done => simp [Reply.suits, and_comm]
  | fault code => simp [Reply.suits]
  | nothing => simp [Reply.suits, and_comm]
  | attention code => simp [Reply.suits, and_comm]

/-- Settles O45: the DRAW record field by field, POLL and ACK, the string's bytes, and the valid replies. -/
theorem faceStringRecordLayouts : Obligations.FaceStringRecordLayouts := by
  unfold Obligations.FaceStringRecordLayouts
  intro bit
  refine ⟨fun address r bytes => ?_, fun address allowed restate => ⟨rfl, rfl, rfl⟩, fun s f => ⟨fun h => ?_, fun allowed restate => stringBytes_poll,
    fun r h => ⟨fun hpage => ?_, fun i hc hpage hs hp => ?_⟩⟩, fun address isDraw b reply => ?_⟩
  · refine ⟨contentPage_eq _, (drawBytes_eq address r bytes).trans ?_⟩
    dsimp only
    rw [fieldBytes_eq, statusBytes_eq, contentLine_eq, contentPartCode_eq, phaseByte_eq, indicatorByte_eq,
      show r.page = _ from contentPage_eq r.content] <;> rfl
  · unfold State.stringBytes
    rw [h]
  · rw [stringBytes_draw h, if_pos hpage]
  · rw [stringBytes_draw h, if_neg hpage, pageBytes_of_slot hc hs hp]
  · rw [readReply_eq_some, suits_iff]
    simp only [and_assoc]

end Sys2Proof.Machine
end

section
/-! PROOFS. What ends an exchange on the face string: replies and silences of records (O46) and of polls (O47). -/

namespace Sys2Proof.Machine

/-! ### An answer meets the exchange on the string -/

theorem arbitrate_of_exchange {s : State} {x : Exchange} (h : s.fsc.string = some x) : s.arbitrate = s :=
  pickUpTo_none (choice_none (.inr (.inl (by rw [h]; rfl))))

section
variable {s : State} {f : FaceIx}

theorem faceReply_draw {r : DrawRecord} (h : s.fsc.string = some (.draw f r)) (bytes : List Byte) :
    exec (.faceReply bytes) s = .next ((readReply (s.fsc.words[f].address.getD 0) true bytes).elim s (s.drawReply f r)) := by
  show execFaceReply bytes s = _
  unfold execFaceReply
  rw [arbitrate_of_exchange h]
  dsimp only
  rw [h]
  rfl

theorem faceReply_poll {a restate : Bool} (h : s.fsc.string = some (.poll f a restate)) (bytes : List Byte) :
    exec (.faceReply bytes) s = .next ((readReply (s.fsc.words[f].address.getD 0) false bytes).elim s (s.pollReply f restate)) := by
  show execFaceReply bytes s = _
  unfold execFaceReply
  rw [arbitrate_of_exchange h]
  dsimp only
  rw [h]
  rfl

theorem replyWaitExpiry_draw {r : DrawRecord} (h : s.fsc.string = some (.draw f r)) :
    exec .replyWaitExpiry s = .next (s.drawSilent f r) := by
  show execReplyWaitExpiry s = _
  unfold execReplyWaitExpiry
  rw [arbitrate_of_exchange h]
  dsimp only
  rw [h]

theorem replyWaitExpiry_poll {a restate : Bool} (h : s.fsc.string = some (.poll f a restate)) :
    exec .replyWaitExpiry s = .next (s.pollSilent f) := by
  show execReplyWaitExpiry s = _
  unfold execReplyWaitExpiry
  rw [arbitrate_of_exchange h]
  dsimp only
  rw [h]

end

/-! ### A chain's end does not read the chain it ends -/

theorem suppliedEnded_setActive (s : State) (f : FaceIx) (a : Option ActiveChain) (rs : List SuppliedRecord) (done : Nat) (c : Condition) :
    suppliedEnded (s.setWord f { s.fsc.words[f] with active := a }) f rs done c = suppliedEnded s f rs done c := by
  simp only [suppliedEnded, State.setWord, setAt_same, setAt_setAt]
  rfl

theorem generatedEnded_setActive (s : State) (f : FaceIx) (a : Option ActiveChain) (cls : DemandClass) (c : Condition) :
    generatedEnded (s.setWord f { s.fsc.words[f] with active := a }) f cls c none = generatedEnded s f cls c none := by
  simp only [generatedEnded, State.setWord, setAt_same, setAt_setAt]
  rfl

/-! ### A record completed (R160, R184, R185) -/

/-- The state when a record has completed, its chain not yet advanced. -/
def State.recordDrawn (s : State) (f : FaceIx) (r : DrawRecord) : State := (s.releaseRecord r).recordCompleted f r.drawn

theorem recordDrawn_eq (s : State) (f : FaceIx) (r : DrawRecord) : s.recordDrawn f r = match r.content with
    | .part p v =>
      let written := { s.fcu.faces[f] with snapshot := setAt s.fcu.faces[f].snapshot (partIx p) (some v) }
      { recordOff s r with fcu := { s.fcu with faces := setAt s.fcu.faces f written } }
    | .picture _ => withoutPicture (recordOff s r) f := by
  unfold State.recordDrawn DrawRecord.drawn
  cases r.content with
  | part p v => rfl
  | picture n => exact forgetFacePicture_eq _ f

theorem recordDrawn_still (s : State) (f : FaceIx) (r : DrawRecord) :
    (s.recordDrawn f r).fsc = { s.fsc with string := none } ∧ (s.recordDrawn f r).pfl = s.pfl := by
  unfold State.recordDrawn
  cases r.drawn <;> exact ⟨rfl, rfl⟩

/-- The word of a face that goes on with a chain, nothing of it on the string. -/
def FaceWord.goesOn (w : FaceWord) (k : ActiveChain) : FaceWord := { w with
  active := some k
  state := if w.state = .offline then .offline else if w.waiting.isSome then .waitPage else .active }

section
variable {s : State} {f : FaceIx} {r : DrawRecord} {k : ActiveChain}

theorem recordDone_eq (hk : s.fsc.words[f].active = some k) : s.recordDone f r
    = ((s.recordDrawn f r).setWord f { (s.recordDrawn f r).fsc.words[f] with active := some k.advance }).continueChain f k.advance := by
  have hfsc := (recordDrawn_still s f r).1
  have hword : (s.recordDrawn f r).fsc.words[f].active = some k := by rw [hfsc]; exact hk
  show (match (s.recordDrawn f r).fsc.words[f].active with
    | some c => State.continueChain _ f c.advance
    | none => State.settle _ f) = _
  rw [hword]
  rfl

theorem settle_drawn : ((s.recordDrawn f r).setWord f { (s.recordDrawn f r).fsc.words[f] with active := some k }).settle f
    = withFaceWord (s.recordDrawn f r) f (s.fsc.words[f].goesOn k) := by
  have hfsc := (recordDrawn_still s f r).1
  simp only [State.settle, State.setWord, withFaceWord, setAt_same, setAt_setAt]
  rw [hfsc]
  rfl

section
variable (hn : s.pfl.node = .running) (hk : s.fsc.words[f].active = some k)
include hk

theorem recordDone_generated_on {cls : DemandClass} {parts : List Part} (hb : k.body = .generated cls parts) (hi : k.index + 1 < parts.length) :
    s.recordDone f r = withFaceWord (s.recordDrawn f r) f (s.fsc.words[f].goesOn { k with index := k.index + 1 }) := by
  rw [recordDone_eq hk]
  obtain ⟨body, index, seq⟩ := k
  subst hb
  exact (if_pos hi).trans settle_drawn

theorem recordDone_supplied_on {rs : List SuppliedRecord} {done : Nat} (hb : k.body = .supplied rs done false) (hi : k.index + 1 < rs.length) :
    s.recordDone f r = withFaceWord (s.recordDrawn f r) f
      (s.fsc.words[f].goesOn { k with index := k.index + 1, body := .supplied rs (done + 1) false }) := by
  rw [recordDone_eq hk]
  obtain ⟨body, index, seq⟩ := k
  subst hb
  exact (if_pos hi).trans settle_drawn

include hn

omit hk in
theorem drawn_not_fallback (w : FaceWord) : ((s.recordDrawn f r).setWord f w).pfl.node ≠ .fallback := by
  have hpfl : ((s.recordDrawn f r).setWord f w).pfl = s.pfl := (recordDrawn_still s f r).2
  rw [hpfl, hn]
  decide

theorem recordDone_generated_end {cls : DemandClass} {parts : List Part} (hb : k.body = .generated cls parts) (hi : parts.length ≤ k.index + 1) :
    s.recordDone f r = generatedEnded (s.recordDrawn f r) f cls .complete none := by
  rw [recordDone_eq hk]
  obtain ⟨body, index, seq⟩ := k
  subst hb
  exact (if_neg (Nat.not_lt.2 hi)).trans ((endGenerated_eq _ f cls _ none (drawn_not_fallback hn _)).trans (generatedEnded_setActive _ f _ cls _))

theorem recordDone_supplied_halted {rs : List SuppliedRecord} {done : Nat} (hb : k.body = .supplied rs done true) :
    s.recordDone f r = suppliedEnded (s.recordDrawn f r) f rs (done + 1) .halted := by
  rw [recordDone_eq hk]
  obtain ⟨body, index, seq⟩ := k
  subst hb
  exact (endSupplied_eq _ f rs _ _ (drawn_not_fallback hn _)).trans (suppliedEnded_setActive _ f _ rs _ _)

theorem recordDone_supplied_end {rs : List SuppliedRecord} {done : Nat} (hb : k.body = .supplied rs done false) (hi : rs.length ≤ k.index + 1) :
    s.recordDone f r = suppliedEnded (s.recordDrawn f r) f rs (done + 1) .complete := by
  rw [recordDone_eq hk]
  obtain ⟨body, index, seq⟩ := k
  subst hb
  exact (if_neg (Nat.not_lt.2 hi)).trans
    ((endSupplied_eq _ f rs _ _ (drawn_not_fallback hn _)).trans (suppliedEnded_setActive _ f _ rs _ _))

end

/-! ### A record that failed (R184) -/

theorem pictureLost_pfl (s : State) (f : FaceIx) (r : DrawRecord) : (pictureLost s f r).pfl = s.pfl := by
  unfold pictureLost
  cases r.content <;> rfl

theorem lost_not_fallback (hn : s.pfl.node = .running) : (pictureLost (recordOff s r) f r).pfl.node ≠ .fallback := by
  rw [pictureLost_pfl, show (recordOff s r).pfl = s.pfl from rfl, hn]
  decide

theorem recordFault_eq (hn : s.pfl.node = .running) : s.recordFault f r = chainEnded (pictureLost (recordOff s r) f r) f .faceFault := by
  unfold State.recordFault
  rw [tellFailedPicture_eq, releaseRecord_eq, endChain_eq _ f _ (lost_not_fallback hn)]

theorem recordSilent_eq (hn : s.pfl.node = .running) : s.recordSilent f r = wentOffline (pictureLost (recordOff s r) f r) f := by
  unfold State.recordSilent
  rw [tellFailedPicture_eq, releaseRecord_eq, goOffline_eq _ f (lost_not_fallback hn)]

end

/-- Settles O46: a record's DONE, FAULT and no valid reply. -/
theorem recordRepliesAdvanceOrEndTheChain : Obligations.RecordRepliesAdvanceOrEndTheChain := by
  intro s f r bytes hn hstring w reply off drawn goesOn
  have hexec := faceReply_draw hstring bytes
  have hdrawn : s.recordDrawn f r = drawn := recordDrawn_eq s f r
  have hgoes : ∀ k, goesOn k = withFaceWord (s.recordDrawn f r) f (w.goesOn k) := fun k => by rw [hdrawn]; rfl
  refine ⟨fun k hk hreply => ?_, fun code hreply => ?_, fun hreply => ?_⟩
  · have hdone : exec (.faceReply bytes) s = .next (s.recordDone f r) := by rw [hexec, show readReply _ true bytes = _ from hreply]; rfl
    rw [hdone, ← hdrawn]
    refine ⟨fun cls parts hb => ⟨fun hi => ?_, fun hi => ?_⟩, fun rs done halt hb => ⟨fun hh => ?_, fun hh hi => ?_, fun hh hi => ?_⟩⟩
    · rw [hgoes, recordDone_generated_on hk hb hi]
    · rw [recordDone_generated_end hn hk hb hi]
    · rw [recordDone_supplied_halted hn hk (hh ▸ hb)]
    · rw [hgoes, recordDone_supplied_on hk (hh ▸ hb) hi]
    · rw [recordDone_supplied_end hn hk (hh ▸ hb) hi]
  · rw [hexec, show readReply _ true bytes = _ from hreply]
    exact congrArg _ (recordFault_eq hn)
  · rw [hexec, show readReply _ true bytes = _ from hreply]
    rfl

end Sys2Proof.Machine
end

section
/-! PROOFS. What ends a poll on the face string: its replies and its silences (O47). -/

namespace Sys2Proof.Machine

/-! ### A poll that has ended (R181, R186, R188) -/

/-- The state after a poll's exchange, with its face word, the HPT, the reports and the ACK as given. -/
def State.polled (s : State) (f : FaceIx) (w : FaceWord) (h : Hpt) (es : List Instr) (ack : Option (FaceIx × AckAnswer)) : State := { s with
  fsc := { s.fsc with words := setAt s.fsc.words f w, string := none, lastAck := ack }
  hpt := h
  handoffs := s.handoffs ++ es }

/-- The state a face word comes to when nothing of it is on the string and its face answers. -/
def FaceWord.restState (w : FaceWord) : WordState :=
  if w.waiting.isSome then .waitPage else if w.active.isSome then .active else .idle

section
variable (s : State) (f : FaceIx) (w : FaceWord) (h : Hpt) (es : List Instr) (ack : Option (FaceIx × AckAnswer))

theorem polled_word : (s.polled f w h es ack).fsc.words[f] = w := setAt_same _ _ _

theorem polled_setWord (v : FaceWord) : (s.polled f w h es ack).setWord f v = s.polled f v h es ack := by
  simp only [State.setWord, State.polled, setAt_setAt]

theorem polled_handOff (i : Instr) : (s.polled f w h es ack).handOff i = s.polled f w h (es ++ [i]) ack := by
  unfold State.handOff State.polled
  rw [List.append_assoc]

theorem polled_notice (hn : s.pfl.node = .running) (n : Notice) :
    (s.polled f w h es ack).notice n = s.polled f w (h.takeNotice n) es ack :=
  if_neg (show ¬ s.pfl.node = .fallback by rw [hn]; decide)

/-- The next poll falls due in 2 s, and the word comes to rest. -/
theorem polled_ends (hs : w.state ≠ .offline) :
    ((s.polled f w h es ack).setWord f { (s.polled f w h es ack).fsc.words[f] with poll := .wait2s }).settle f
      = s.polled f { w with poll := .wait2s, state := w.restState } h es ack := by
  rw [polled_word, polled_setWord]
  unfold State.settle
  rw [polled_setWord, polled_word]
  exact congrArg (fun x => s.polled f { w with poll := .wait2s, state := x } h es ack) (if_neg hs)

/-- The state in which the polled face is known to answer: an OFFLINE one is back (R188). -/
theorem answered_eq (hn : s.pfl.node = .running) :
    let back : Bool := s.fsc.words[f].state == .offline
    (if (s.setString none).fsc.words[f].state = .offline then (s.setString none).backOnline f else s.setString none)
      = s.polled f (if back then { s.fsc.words[f] with state := .idle, restateDue := true } else s.fsc.words[f])
          (if back then s.hpt.takeNotice (.faceState f .online 0) else s.hpt) (if back then [.faceBackOnline f] else []) s.fsc.lastAck := by
  have hstart : s.setString none = s.polled f s.fsc.words[f] s.hpt [] s.fsc.lastAck := by
    unfold State.polled
    rw [setAt_self, List.append_nil]
    rfl
  dsimp only
  rw [hstart, polled_word]
  by_cases ho : s.fsc.words[f].state = .offline
  · have hback : (s.fsc.words[f].state == .offline) = true := beq_iff_eq.2 ho
    rw [if_pos ho, hback, if_pos rfl, if_pos rfl, if_pos rfl]
    unfold State.backOnline
    rw [polled_word, polled_setWord, polled_notice s f _ _ _ _ hn, polled_handOff]
    rfl
  · have hback : (s.fsc.words[f].state == .offline) = false := beq_eq_false_iff_ne.2 ho
    rw [if_neg ho, hback]
    rfl

theorem ne_offline_of_back (w : FaceWord) :
    (if w.state == .offline then { w with state := .idle, restateDue := true } else w).state ≠ .offline := by
  by_cases ho : w.state = .offline
  · rw [if_pos (beq_iff_eq.2 ho)]
    exact nofun
  · rw [if_neg (by rwa [beq_iff_eq])]
    exact ho

/-! ### What a reply does (R186, R187) -/

theorem pollEffect_nothing (restate : Bool) : (s.polled f w h es ack).pollEffect f restate .nothing
    = s.polled f { w with restateDue := !restate && w.restateDue } h es ack := by
  cases restate with
  | true =>
    exact (congrArg (fun v : FaceWord => (s.polled f w h es ack).setWord f { v with restateDue := false }) (polled_word s f w h es ack)).trans
      (polled_setWord s f w h es ack _)
  | false => rfl

theorem pollEffect_fault (hn : s.pfl.node = .running) (restate : Bool) (code : Byte) :
    (s.polled f w h es ack).pollEffect f restate (.fault code) = s.polled f w (h.takeNotice (.faceState f .fault code)) es ack :=
  polled_notice s f w h es ack hn _

/-- The face word once the code of an ATTENTION is applied (R187). -/
def FaceWord.attended (w : FaceWord) (code : Byte) : FaceWord :=
  if code == 1#8 || code == 2#8 then { w with privacy := code == 1#8, restateDue := false } else w

/-- What the code of an ATTENTION hands over (R187). -/
def attentionTold (f : FaceIx) (code : Byte) : List Instr := if code == 1#8 || code == 2#8 then [.privacyChange f] else []

theorem attended_rest (w : FaceWord) (code : Byte) : (w.attended code).state = w.state ∧ (w.attended code).restState = w.restState := by
  unfold FaceWord.attended
  by_cases hc : (code == 1#8 || code == 2#8) = true
  · rw [if_pos hc]
    exact ⟨rfl, rfl⟩
  · rw [if_neg hc]
    exact ⟨rfl, rfl⟩

theorem attend_eq (code : Byte) : (s.polled f w h es ack).attend f code
    = (s.polled f (w.attended code) h (es ++ attentionTold f code) ack).answerAttention f code := by
  unfold State.attend FaceWord.attended attentionTold
  by_cases hc : (code == 1#8 || code == 2#8) = true
  · have hcode : code = 1#8 ∨ code = 2#8 := by rwa [Bool.or_eq_true, beq_iff_eq, beq_iff_eq] at hc
    rw [if_pos hcode, if_pos hc, if_pos hc, polled_word, polled_setWord, polled_handOff]
  · have hcode : ¬ (code = 1#8 ∨ code = 2#8) := by rwa [Bool.or_eq_true, beq_iff_eq, beq_iff_eq] at hc
    rw [if_neg hcode, if_neg hc, if_neg hc, List.append_nil]

theorem answerAttention_no_host (hp : s.pfl.profile.hostPresent = false) (code : Byte) :
    (s.polled f w h es ack).answerAttention f code = s.polled f w h es (some (f, .taken)) := if_pos hp

section
variable (hn : s.pfl.node = .running) (hp : s.pfl.profile.hostPresent = true)

include hn in
theorem polled_noticeRoom : (s.polled f w h es ack).noticeRoom = h.hasRoom := by
  show (s.pfl.node != .fallback && h.hasRoom) = _
  rw [hn]
  rfl

include hp

/-- The host is there to take an ATTENTION. -/
theorem polled_host : ¬ (s.polled f w h es ack).pfl.profile.hostPresent = false := by
  rw [show (s.polled f w h es ack).pfl = s.pfl from rfl, hp]
  decide

include hn

theorem answerAttention_room (hroom : h.notices.length < 32) (code : Byte) : (s.polled f w h es ack).answerAttention f code
    = s.polled f w { h with notices := h.notices ++ [.attention f code] } es (some (f, .taken)) := by
  have hhas : h.hasRoom = true := decide_eq_true hroom
  have htaken : (s.polled f w h es (some (f, .taken))).notice (.attention f code) = _ := polled_notice s f w h es _ hn _
  unfold State.answerAttention
  rw [if_neg (polled_host s f w h es ack hp), polled_noticeRoom s f w h es ack hn, if_pos hhas]
  exact htaken.trans (congrArg (fun x => s.polled f w x es _) (if_pos hhas))

theorem answerAttention_full (hfull : 32 ≤ h.notices.length) (code : Byte) : (s.polled f w h es ack).answerAttention f code
    = s.polled f { w with attnStacked := true } h es (some (f, .keep)) := by
  have hhas : ¬ h.hasRoom = true := fun hroom => absurd (of_decide_eq_true hroom) (Nat.not_lt.2 hfull)
  unfold State.answerAttention
  rw [if_neg (polled_host s f w h es ack hp), polled_noticeRoom s f w h es ack hn, if_neg hhas, polled_word]
  exact polled_setWord s f w h es _ _

end

end

/-! ### Silences (R184, R186, R188) -/

section
variable {s : State} {f : FaceIx}

theorem pollSilent_offline (h : s.fsc.words[f].state = .offline) : s.pollSilent f = { s with
    fsc := { s.fsc with words := setAt s.fsc.words f { s.fsc.words[f] with poll := .wait10s }, string := none } } := if_pos h

theorem pollSilent_first (h : s.fsc.words[f].state ≠ .offline) (hr : s.fsc.words[f].retry = 0) :
    s.pollSilent f = withFaceWord s f { s.fsc.words[f] with retry := 1 } := (if_neg h).trans (if_pos hr)

theorem pollSilent_second (hn : s.pfl.node = .running) (h : s.fsc.words[f].state ≠ .offline) (hr : s.fsc.words[f].retry ≠ 0) :
    s.pollSilent f = wentOffline { s with fsc := { s.fsc with string := none } } f :=
  (if_neg h).trans ((if_neg hr).trans (goOffline_eq (s.setString none) f (by rw [show (s.setString none).pfl = s.pfl from rfl, hn]; decide)))

end

/-- Settles O47: a poll's replies, then the silences of a poll and of a record. -/
theorem pollRepliesAndSilences : Obligations.PollRepliesAndSilences := by
  intro s f hn w sentAgain
  refine ⟨fun allowed restate hstring => ?_, fun r hstring => ?_⟩
  · intro back v ended h es
    have hv : v.state ≠ .offline := ne_offline_of_back w
    have hstart := answered_eq s f hn
    have hended : ∀ u g is ack, ended u g is ack = s.polled f { u with poll := .wait2s, state := v.restState } g is ack := fun _ _ _ _ => rfl
    refine ⟨fun bytes => ?_, fun ho => ?_, fun ho hr => ?_, fun ho hr => ?_⟩
    · intro reply
      have hexec := faceReply_poll hstring bytes
      have hreplied : ∀ x, reply = some x → exec (.faceReply bytes) s = .next (State.settle (State.setWord
          ((s.polled f v h es s.fsc.lastAck).pollEffect f restate x) f
          { ((s.polled f v h es s.fsc.lastAck).pollEffect f restate x).fsc.words[f] with poll := .wait2s }) f) := fun x hx => by
        rw [hexec, show readReply _ false bytes = _ from hx]
        exact congrArg (fun u : State => Host.Outcome.next (State.settle (State.setWord (u.pollEffect f restate x) f
          { (u.pollEffect f restate x).fsc.words[f] with poll := .wait2s }) f)) hstart
      refine ⟨fun hreply => ?_, fun hreply => ?_, fun code hreply => ?_, fun code hreply => ?_⟩
      · rw [hexec, show readReply _ false bytes = _ from hreply]
        rfl
      · rw [hreplied _ hreply, hended, pollEffect_nothing, polled_ends _ _ _ _ _ _ (by exact hv)]
        rfl
      · rw [hreplied _ hreply, hended, pollEffect_fault _ _ _ _ _ _ hn, polled_ends _ _ _ _ _ _ hv]
      · intro privacy x told
        obtain ⟨hstate, hrest⟩ := attended_rest v code
        have hx : x = v.attended code := rfl
        have htold : told = es ++ attentionTold f code := rfl
        have hne : (v.attended code).state ≠ .offline := hstate ▸ hv
        rw [hreplied _ hreply, hx, htold]
        simp only [hended, ← hrest]
        rw [show (s.polled f v h es s.fsc.lastAck).pollEffect f restate (.attention code) = _ from attend_eq s f v h es _ code]
        refine ⟨fun hp => ?_, fun hp hroom => ?_, fun hp hfull => ?_⟩
        · rw [answerAttention_no_host _ _ _ _ _ _ hp, polled_ends _ _ _ _ _ _ hne]
        · rw [answerAttention_room _ _ _ _ _ _ hn hp hroom, polled_ends _ _ _ _ _ _ hne]
        · rw [answerAttention_full _ _ _ _ _ _ hn hp hfull, polled_ends _ _ _ _ _ _ (by exact hne)]
          rfl
    · exact (replyWaitExpiry_poll hstring).trans (congrArg _ (pollSilent_offline ho))
    · exact (replyWaitExpiry_poll hstring).trans (congrArg _ (pollSilent_first ho hr))
    · exact (replyWaitExpiry_poll hstring).trans (congrArg _ (pollSilent_second hn ho hr))
  · refine ⟨fun hr => ?_, fun hr => ?_⟩
    · exact (replyWaitExpiry_draw hstring).trans (congrArg _ (if_pos hr))
    · exact (replyWaitExpiry_draw hstring).trans (congrArg _ ((if_neg hr).trans (recordSilent_eq hn)))

end Sys2Proof.Machine
end

section
/-! PROOFS. Muster entry at the face string (O48). -/

namespace Sys2Proof.Machine

section
variable {s : State} (hn : s.pfl.node ≠ .fallback) (f : FaceIx)
include hn

/-- Step 1 of R189: halt-requested for a supplied record in transfer, HALTED for any other supplied chain. -/
theorem haltSupplied_eq : s.haltSupplied f = match s.fsc.words[f].active with
    | some { body := .supplied rs done _, index := i, seq := n } =>
      if s.drawing f then
        withFaceWord s f { s.fsc.words[f] with active := some { body := .supplied rs done true, index := i, seq := n } }
      else chainEnded s f .halted
    | _ => s := by
  unfold State.haltSupplied FaceWord.suppliedActive
  rw [endChain_eq s f _ hn]
  dsimp only
  cases s.fsc.words[f].active with
  | none => rfl
  | some k =>
    obtain ⟨body, index, seq⟩ := k
    cases body <;> rfl

/-- Step 2 of R189: a pending chain is discarded, with its prefetch page. -/
theorem discardPending_cases (c : Condition) : s.discardPending f c = match s.fsc.words[f].pending with
    | some rs =>
      let e : ChainEnding := { condition := c, done := 0, total := rs.length }
      { withFaceWord s f { s.fsc.words[f] with
          pending := none, prefetch := none, stacked := stackedEnding s.hpt s.fsc.words[f].stacked e } with
        pca := s.pca.withdrawPrefetch f, hpt := notedEnding s.hpt f e }
    | none => s := by
  cases hp : s.fsc.words[f].pending with
  | some rs =>
    refine (discardPending_eq s f c hn).trans ?_
    simp only [hp]
    rfl
  | none =>
    unfold State.discardPending
    rw [hp]

end

/-- Folds of two operations that agree on the states that meet an invariant. -/
theorem foldl_congr_of {α : Type} {P : State → Prop} {op op' : State → α → State} (heq : ∀ u x, P u → op u x = op' u x)
    (hkeep : ∀ u x, P u → P (op u x)) (xs : List α) {s : State} (hs : P s) : xs.foldl op s = xs.foldl op' s := by
  induction xs generalizing s with
  | nil => rfl
  | cons x xs ih =>
    rw [List.foldl_cons, List.foldl_cons, ← heq s x hs]
    exact ih (hkeep s x hs)

theorem musterFace_pfl (s : State) (f : FaceIx) : (s.musterFace f).pfl = s.pfl := (musterFace_within s f).same .pfl (by simp)

theorem haltSupplied_pfl (s : State) (f : FaceIx) : (s.haltSupplied f).pfl = s.pfl := (haltSupplied_within s f).same .pfl (by simp)

theorem musterAdoptionFsc_eq {s : State} (hr : s.running = true) :
    exec .musterAdoptionFsc s = .next ((indices 32).foldl State.musterFace (s.take .musterAdoptionFsc)) :=
  congrArg Host.Outcome.next (if_pos hr)

/-- Settles O48: the three steps of a face, for every face in turn. -/
theorem musterAdoptionHaltsSuppliedAndDemands : Obligations.MusterAdoptionHaltsSuppliedAndDemands := by
  intro s hr halted discarded face
  have hface : ∀ (u : State) (f : FaceIx), u.pfl.node ≠ .fallback → u.musterFace f = face u f := fun u f hu => by
    have hhalted : u.haltSupplied f = halted u f := haltSupplied_eq hu f
    have hdiscarded : (u.haltSupplied f).discardPending f .halted = discarded (u.haltSupplied f) f :=
      discardPending_cases (by rw [haltSupplied_pfl]; exact hu) f .halted
    unfold State.musterFace
    rw [hdiscarded, hhalted]
  have hkeep : ∀ (u : State) (f : FaceIx), u.pfl.node ≠ .fallback → (u.musterFace f).pfl.node ≠ .fallback := fun u f hu => by
    rw [musterFace_pfl]
    exact hu
  have hstart : (s.take .musterAdoptionFsc).pfl.node ≠ .fallback := not_fallback_of_running (by exact hr)
  exact (musterAdoptionFsc_eq hr).trans (congrArg Host.Outcome.next (foldl_congr_of hface hkeep (indices 32) hstart))

end Sys2Proof.Machine
end

section
/-! PROOFS. The page cache: its queue, its pins and its marks (O50), and its hold set (O51). -/

namespace Sys2Proof.Machine

/-! ### The hold set (R205, R206) -/

theorem phasePages_nodup (p : Profile) (ph : Phase) : (phasePages p ph).Nodup :=
  List.nodup_range.map fun _ _ h => Nat.add_left_cancel h

theorem CacheOk.oneSlot {p : Pca} (h : CacheOk p) : OneSlot p := ⟨h.slots, h.queued⟩

theorem holdRequest_eq {s : State} (hr : s.running = true) (ph : Phase) : exec (.holdRequest ph) s
    = .next ((s.take (.holdRequest ph)).setPca (s.pca.hold ph (phasePages s.pfl.profile ph))) := congrArg Host.Outcome.next (if_pos hr)

theorem releaseRequest_eq {s : State} (hr : s.running = true) (ph : Phase) : exec (.releaseRequest ph) s
    = .next ((s.take (.releaseRequest ph)).setPca (s.pca.release (phasePages s.pfl.profile ph))) := congrArg Host.Outcome.next (if_pos hr)

theorem take_setPca_frame (s : State) (i : Instr) (p : Pca) : Frame.only [.pca, .handoffs] s ((s.take i).setPca p) :=
  fun b hb => by cases b <;> first | rfl | exact absurd (by simp) hb

/-- Settles O51: the load takes its report only; a hold and a release, each in one piece. -/
theorem holdAndReleaseRequestsMoveTheHoldSet : Obligations.HoldAndReleaseRequestsMoveTheHoldSet := by
  refine ⟨fun s => ⟨_, rfl, rfl, (take_within s _).same⟩, ?_⟩
  intro s ph hr pages marked unmarked absent
  refine ⟨fun hc => ⟨_, holdRequest_eq hr ph, ?_, rfl, take_setPca_frame s _ _⟩, ⟨_, releaseRequest_eq hr ph, ?_, rfl, take_setPca_frame s _ _⟩⟩
  · exact hold_eq hc.oneSlot ph _ (phasePages_nodup _ ph)
  · exact release_eq s.pca _

/-! ### The head of the queue (R201, R202) -/

/-- The entry is the earliest of the first class among those seen. -/
def IsHead (seen : List QueueEntry) (best : Option QueueEntry) : Prop :=
  (best = none → seen = []) ∧ ∀ e, best = some e → ∃ pre post, seen = pre ++ e :: post ∧ (∀ x ∈ pre, e.rank < x.rank) ∧ ∀ x ∈ post, e.rank ≤ x.rank

theorem aheadEntry_isHead {seen : List QueueEntry} {best : Option QueueEntry} (h : IsHead seen best) (e : QueueEntry) :
    IsHead (seen ++ [e]) (aheadEntry best e) := by
  cases best with
  | none =>
    have hseen := h.1 rfl
    subst hseen
    refine ⟨nofun, fun d hd => ⟨[], [], ?_, nofun, nofun⟩⟩
    rw [Option.some.inj hd]
  | some b =>
    obtain ⟨pre, post, hsplit, hpre, hpost⟩ := h.2 b rfl
    have hahead : aheadEntry (some b) e = if e.rank < b.rank then some e else some b := rfl
    rw [hahead]
    by_cases hlt : e.rank < b.rank
    · rw [if_pos hlt]
      refine ⟨nofun, fun d hd => ⟨seen, [], ?_, fun x hx => ?_, nofun⟩⟩
      · rw [Option.some.inj hd]
      · rw [← Option.some.inj hd]
        rw [hsplit] at hx
        rcases List.mem_append.1 hx with hx | hx
        · exact hlt.trans (hpre x hx)
        · rcases List.mem_cons.1 hx with rfl | hx
          · exact hlt
          · exact hlt.trans_le (hpost x hx)
    · rw [if_neg hlt]
      refine ⟨nofun, fun d hd => ⟨pre, post ++ [e], ?_, ?_, fun x hx => ?_⟩⟩
      · rw [hsplit, Option.some.inj hd, List.append_assoc]
        rfl
      · exact Option.some.inj hd ▸ hpre
      · rw [← Option.some.inj hd]
        rcases List.mem_append.1 hx with hx | hx
        · exact hpost x hx
        · rw [List.eq_of_mem_singleton hx]
          exact Nat.le_of_not_lt hlt

theorem foldl_aheadEntry_isHead (l : List QueueEntry) : ∀ (seen : List QueueEntry) (best : Option QueueEntry), IsHead seen best →
    IsHead (seen ++ l) (l.foldl aheadEntry best) := by
  induction l with
  | nil => exact fun seen best h => (List.append_nil seen).symm ▸ h
  | cons e l ih =>
    intro seen best h
    rw [List.append_cons]
    exact ih _ _ (aheadEntry_isHead h e)

theorem head_isHead (p : Pca) : IsHead p.queue p.head := foldl_aheadEntry_isHead p.queue [] none ⟨fun _ => rfl, nofun⟩

theorem rank_eq (e : QueueEntry) : e.rank
    = if e.waiters.contains .hold then 0 else if e.waiters.any (fun w => match w with | .face _ => true | _ => false) then 1 else 2 := by
  have hface : Waiter.isFace = fun w => match w with | .face _ => true | _ => false := funext fun w => by cases w <;> rfl
  unfold QueueEntry.rank
  rw [hface]

theorem tryFetch_idle {p : Pca} (h : p.fetch.isSome = true ∨ p.head = none ∨ p.chooseSlot = none) : p.tryFetch = p := by
  rcases tryFetch_cases p with hp | ⟨e, i, hport, hhead, hslot, -⟩
  · exact hp
  · rw [hport, hhead, hslot] at h
    exact absurd h (by simp)

theorem tryFetch_starts {p : Pca} {e : QueueEntry} {i : Fin 16} (hport : p.fetch = none) (hhead : p.head = some e)
    (hslot : p.chooseSlot = some i) : p.tryFetch = p.startFetch e i := by
  unfold Pca.tryFetch
  rw [hport, hhead, hslot]

/-! ### Requests and pins (R199, R200) -/

section
variable {p : Pca} {page : Nat}

theorem slotOf_eq_none (h : ∀ i : Fin 16, p.slots[i].state = .empty ∨ p.slots[i].page ≠ page) : p.slotOf page = none := by
  cases hs : p.slotOf page with
  | none => rfl
  | some i =>
    obtain ⟨hstate, hpage⟩ := slotOf_some hs
    exact ((h i).elim hstate fun hp => hp hpage).elim

theorem validSlot_of_absent (h : ∀ i : Fin 16, p.slots[i].state = .empty ∨ p.slots[i].page ≠ page) : p.validSlot page = none := by
  unfold Pca.validSlot
  rw [slotOf_eq_none h]
  rfl

theorem validSlot_eq_none (h : ∀ i : Fin 16, p.slots[i].state ≠ .valid ∨ p.slots[i].page ≠ page) : p.validSlot page = none := by
  cases hs : p.validSlot page with
  | none => rfl
  | some i =>
    obtain ⟨hstate, hpage⟩ := validSlot_some hs
    exact ((h i).elim (fun hn => hn hstate) fun hp => hp hpage).elim

/-- In a cache that holds no page twice, a page that is being filled is not VALID. -/
theorem validSlot_of_filling (hc : CacheCore false p) {i : Fin 16} (hs : p.slots[i].state = .filling) (hp : p.slots[i].page = page) :
    p.validSlot page = none := by
  cases hv : p.validSlot page with
  | none => rfl
  | some j =>
    obtain ⟨hvalid, hpage⟩ := validSlot_some hv
    have hij : i = j := hc.slots i j (by rw [hs]; decide) (by rw [hvalid]; decide) (hp.trans hpage.symm)
    subst hij
    exact nomatch hs.symm.trans hvalid

/-- A waiter that is no hold mark joins at the end. -/
theorem joinWaiter_of_ne {ws : List Waiter} {w : Waiter} (h : w ≠ .hold) : joinWaiter ws w = ws ++ [w] := if_neg fun hw => h hw.1

section
variable {w : Waiter} (hw : w ≠ .hold)
include hw

theorem await_slot {i : Fin 16} (h : p.slotOf page = some i) :
    p.await page w = { p with slots := setAt p.slots i { p.slots[i] with waiters := p.slots[i].waiters ++ [w] } } := by
  unfold Pca.await
  rw [h]
  dsimp only
  rw [joinWaiter_of_ne hw]
  rfl

theorem await_entry (h : p.slotOf page = none) (hq : ∃ e ∈ p.queue, e.page = page) : p.await page w
    = { p with queue := p.queue.map (fun e => if e.page = page then { e with waiters := e.waiters ++ [w] } else e) } := by
  have hany : p.queue.any (fun e => e.page == page) = true := List.any_eq_true.2 (hq.imp fun e he => ⟨he.1, beq_iff_eq.2 he.2⟩)
  unfold Pca.await
  rw [h]
  dsimp only
  rw [if_pos hany]
  simp only [joinWaiter_of_ne hw]

omit hw in
theorem await_new (h : p.slotOf page = none) (hq : ∀ e ∈ p.queue, e.page ≠ page) :
    p.await page w = { p with queue := p.queue ++ [{ page := page, waiters := [w] }] } := by
  have hany : ¬ p.queue.any (fun e => e.page == page) = true := fun h => by
    obtain ⟨e, he, hp⟩ := List.any_eq_true.1 h
    exact hq e he (beq_iff_eq.1 hp)
  unfold Pca.await
  rw [h]
  exact if_neg hany

end

section
variable (f : FaceIx)

theorem faceRequest_valid {i : Fin 16} (h : p.validSlot page = some i) :
    p.faceRequest f page = ({ p with slots := setAt p.slots i { p.slots[i] with pins := p.slots[i].pins + 1 } }, true) := by
  unfold Pca.faceRequest
  rw [h]
  rfl

theorem releasePin_valid {i : Fin 16} (h : p.validSlot page = some i) :
    p.releasePin page = Pca.tryFetch { p with slots := setAt p.slots i { p.slots[i] with pins := p.slots[i].pins - 1 } } := by
  unfold Pca.releasePin
  rw [h]
  rfl

theorem faceRequest_awaits (h : p.validSlot page = none) : p.faceRequest f page = ((p.await page (.face f)).tryFetch, false) := by
  unfold Pca.faceRequest
  rw [h]

/-- The cache with a face word's prefetch mark taken off. -/
def Pca.unmark (p : Pca) (f : FaceIx) : Pca := p.dropWaiters (fun _ w => w == .prefetch f)

theorem unmark_slot (i : Fin 16) : (p.unmark f).slots[i].state = p.slots[i].state ∧ (p.unmark f).slots[i].page = p.slots[i].page := by
  unfold Pca.unmark
  rw [dropWaiters_slot]
  exact ⟨rfl, rfl⟩

theorem prefetchRequest_valid {i : Fin 16} (h : (p.unmark f).validSlot page = some i) : p.prefetchRequest f page = (p.unmark f).tryFetch := by
  show (match (p.unmark f).validSlot page with
    | some _ => (p.unmark f).tryFetch
    | none => ((p.unmark f).await page (.prefetch f)).tryFetch) = _
  rw [h]

theorem prefetchRequest_awaits (h : (p.unmark f).validSlot page = none) :
    p.prefetchRequest f page = ((p.unmark f).await page (.prefetch f)).tryFetch := by
  show (match (p.unmark f).validSlot page with
    | some _ => (p.unmark f).tryFetch
    | none => ((p.unmark f).await page (.prefetch f)).tryFetch) = _
  rw [h]

end

end

/-- Settles O50: the head and its fetch, then the requests, pins and marks of a page. -/
theorem cacheRequestsPinsAndQueue : Obligations.CacheRequestsPinsAndQueue := by
  refine ⟨fun p => ?_, fun p page f hok => ?_⟩
  · intro rank
    have hrank : rank = QueueEntry.rank := funext fun e => (rank_eq e).symm
    obtain ⟨hnone, hsome⟩ := head_isHead p
    rw [hrank]
    refine ⟨fun hq => by unfold Pca.head; rw [hq]; rfl, fun hq => ?_, tryFetch_idle, fun e i hport hhead hslot => tryFetch_starts hport hhead hslot⟩
    cases hh : p.head with
    | none => exact absurd (hnone hh) hq
    | some e =>
      obtain ⟨pre, post, hsplit, hpre, hpost⟩ := hsome e hh
      exact ⟨pre, e, post, hsplit, rfl, hpre, hpost⟩
  · intro unmarked
    have hc : CacheCore false p := cacheCore_iff.2 hok
    have hcq : CacheCore false (p.unmark f) := hc.dropWaiters _
    refine ⟨rfl, rfl, fun i hs hp => ?_, fun i hs hp => ?_, fun hnone => ⟨fun hq => ?_, fun hq => ?_⟩, fun hnone => ?_⟩
    · have hv := validSlot_of_page hc hs hp
      have hvq : (p.unmark f).validSlot page = some i := validSlot_of_page hcq ((unmark_slot f i).1.trans hs) ((unmark_slot f i).2.trans hp)
      exact ⟨faceRequest_valid f hv, releasePin_valid hv, prefetchRequest_valid f hvq⟩
    · have hslot := slotOf_of_page hc (by rw [hs]; decide) hp
      rw [faceRequest_awaits f (validSlot_of_filling hc hs hp), await_slot (w := .face f) nofun hslot]
    · rw [faceRequest_awaits f (validSlot_of_absent hnone), await_entry (w := .face f) nofun (slotOf_eq_none hnone) hq]
    · rw [faceRequest_awaits f (validSlot_of_absent hnone), await_new (slotOf_eq_none hnone) hq]
    · intro q
      have hq : q = p.unmark f := rfl
      have hv : (p.unmark f).validSlot page = none := validSlot_eq_none fun i => by
        rw [(unmark_slot f i).1, (unmark_slot f i).2]
        exact hnone i
      rw [prefetchRequest_awaits f hv, hq]
      refine ⟨fun i hs hp => ?_, fun habsent => ⟨fun hentry => ?_, fun hnew => ?_⟩⟩
      · rw [await_slot (w := .prefetch f) nofun (slotOf_of_page hcq (by rw [hs]; decide) hp)]
      · rw [await_entry (w := .prefetch f) nofun (slotOf_eq_none habsent) hentry]
      · rw [await_new (slotOf_eq_none habsent) hnew]

end Sys2Proof.Machine
end

section
/-! PROOFS. Fetches of pages: their headers, their ends, and the slot a fetch takes (O49). -/

namespace Sys2Proof.Machine

/-! ### The slot a fetch takes (R202) -/

/-- The slot is, among those seen, a slot of the lowest order number that a fetch may take; none when no such slot was seen. -/
def IsOldest (v : Vector CacheSlot 16) (seen : List (Fin 16)) (best : Option (Fin 16)) : Prop :=
  (best = none → ∀ j ∈ seen, v[j].evictable = false)
    ∧ ∀ b, best = some b → v[b].evictable = true ∧ ∀ j ∈ seen, v[j].evictable = true → v[b].order.toNat ≤ v[j].order.toNat

theorem olderSlot_isOldest {v : Vector CacheSlot 16} {seen : List (Fin 16)} {best : Option (Fin 16)} (h : IsOldest v seen best) (i : Fin 16) :
    IsOldest v (seen ++ [i]) (olderSlot v best i) := by
  obtain ⟨hnone, hsome⟩ := h
  unfold olderSlot
  by_cases hi : v[i].evictable = true
  · rw [if_pos hi]
    cases best with
    | none =>
      refine ⟨nofun, fun b hb => ?_⟩
      obtain rfl := Option.some.inj hb
      refine ⟨hi, fun j hj he => ?_⟩
      rcases List.mem_append.1 hj with hj | hj
      · exact nomatch he.symm.trans (hnone rfl j hj)
      · rw [List.eq_of_mem_singleton hj]
    | some b =>
      obtain ⟨hb, hleast⟩ := hsome b rfl
      dsimp only
      by_cases hlt : v[i].order.toNat < v[b].order.toNat
      · rw [if_pos hlt]
        refine ⟨nofun, fun c hc => ?_⟩
        obtain rfl := Option.some.inj hc
        refine ⟨hi, fun j hj he => ?_⟩
        rcases List.mem_append.1 hj with hj | hj
        · exact hlt.le.trans (hleast j hj he)
        · rw [List.eq_of_mem_singleton hj]
      · rw [if_neg hlt]
        refine ⟨nofun, fun c hc => ?_⟩
        obtain rfl := Option.some.inj hc
        refine ⟨hb, fun j hj he => ?_⟩
        rcases List.mem_append.1 hj with hj | hj
        · exact hleast j hj he
        · rw [List.eq_of_mem_singleton hj]
          exact Nat.le_of_not_lt hlt
  · rw [if_neg hi]
    refine ⟨fun hn j hj => ?_, fun b hb => ⟨(hsome b hb).1, fun j hj he => ?_⟩⟩
    · rcases List.mem_append.1 hj with hj | hj
      · exact hnone hn j hj
      · rw [List.eq_of_mem_singleton hj]
        exact Bool.eq_false_iff.2 hi
    · rcases List.mem_append.1 hj with hj | hj
      · exact (hsome b hb).2 j hj he
      · rw [List.eq_of_mem_singleton hj] at he
        exact absurd he hi

theorem foldl_olderSlot_isOldest (v : Vector CacheSlot 16) (l : List (Fin 16)) : ∀ (seen : List (Fin 16)) (best : Option (Fin 16)),
    IsOldest v seen best → IsOldest v (seen ++ l) (l.foldl (olderSlot v) best) := by
  induction l with
  | nil => exact fun seen best h => (List.append_nil seen).symm ▸ h
  | cons i l ih =>
    intro seen best h
    rw [List.append_cons]
    exact ih _ _ (olderSlot_isOldest h i)

theorem oldest_isOldest (v : Vector CacheSlot 16) : IsOldest v (indices 16) ((indices 16).foldl (olderSlot v) none) :=
  foldl_olderSlot_isOldest v (indices 16) [] none ⟨fun _ _ h => absurd h List.not_mem_nil, nofun⟩

/-- A VALID slot that is neither pinned nor held. -/
def FreeSlot (p : Pca) (i : Fin 16) : Prop := p.slots[i].state = .valid ∧ p.slots[i].pins = 0 ∧ p.slots[i].held = false

theorem evictable_iff (p : Pca) (i : Fin 16) : p.slots[i].evictable = true ↔ FreeSlot p i := by
  unfold CacheSlot.evictable FreeSlot
  rw [Bool.and_eq_true, Bool.and_eq_true, beq_iff_eq, beq_iff_eq, Bool.not_eq_true', and_assoc]

section
variable {p : Pca}

theorem chooseSlot_empty (h : ∃ i : Fin 16, p.slots[i].state = .empty) :
    ∃ i, p.chooseSlot = some i ∧ p.slots[i].state = .empty ∧ ∀ j : Fin 16, p.slots[j].state = .empty → i ≤ j := by
  obtain ⟨i, hfind, hi⟩ := find_indices_some (q := fun i => p.slots[i].state == .empty) (h.imp fun i hi => beq_iff_eq.2 hi)
  refine ⟨i, ?_, beq_iff_eq.1 hi, fun j hj => find_indices_least hfind (beq_iff_eq.2 hj)⟩
  unfold Pca.chooseSlot
  rw [hfind]
  rfl

theorem chooseSlot_full (h : ∀ i : Fin 16, p.slots[i].state ≠ .empty) : p.chooseSlot = (indices 16).foldl (olderSlot p.slots) none := by
  have hfind := find_indices_none (q := fun i : Fin 16 => p.slots[i].state == .empty) fun i => beq_eq_false_iff_ne.2 (h i)
  unfold Pca.chooseSlot
  rw [hfind]
  rfl

theorem chooseSlot_spec : (∀ i, p.chooseSlot = some i →
      (p.slots[i].state = .empty ∧ ∀ j : Fin 16, p.slots[j].state = .empty → i ≤ j)
      ∨ ((∀ j : Fin 16, p.slots[j].state ≠ .empty) ∧ FreeSlot p i ∧ ∀ j : Fin 16, FreeSlot p j → p.slots[i].order.toNat ≤ p.slots[j].order.toNat))
    ∧ (p.chooseSlot = none ↔ ∀ j : Fin 16, p.slots[j].state ≠ .empty ∧ ¬ FreeSlot p j) := by
  by_cases hempty : ∃ i : Fin 16, p.slots[i].state = .empty
  · obtain ⟨i, hchoose, hi, hleast⟩ := chooseSlot_empty hempty
    rw [hchoose]
    refine ⟨fun k hk => .inl ?_, iff_of_false nofun fun h => (h i).1 hi⟩
    rw [← Option.some.inj hk]
    exact ⟨hi, hleast⟩
  · have hfull : ∀ i : Fin 16, p.slots[i].state ≠ .empty := fun i hi => hempty ⟨i, hi⟩
    obtain ⟨hnone, hsome⟩ := oldest_isOldest p.slots
    rw [← chooseSlot_full hfull] at hnone hsome
    refine ⟨fun i hi => .inr ?_, fun h j => ⟨hfull j, fun hj => ?_⟩, fun h => ?_⟩
    · obtain ⟨hfree, hleast⟩ := hsome i hi
      exact ⟨hfull, (evictable_iff p i).1 hfree, fun j hj => hleast j (mem_indices j) ((evictable_iff p j).2 hj)⟩
    · exact nomatch ((evictable_iff p j).2 hj).symm.trans (hnone h j (mem_indices j))
    · cases hc : p.chooseSlot with
      | none => rfl
      | some i => exact absurd ((evictable_iff p i).1 (hsome i hc).1) (h i).2

end

/-! ### The header, and a fetch that fails (R197, R204, R206) -/

theorem headerGood_iff (marker hi lo : Byte) :
    headerGood marker hi lo = true ↔ marker = 0x5C#8 ∧ 4 ≤ (hi ++ lo).toNat ∧ (hi ++ lo).toNat ≤ 512 := by
  unfold headerGood
  rw [Bool.and_eq_true, Bool.and_eq_true, beq_iff_eq, decide_eq_true_iff, decide_eq_true_iff, and_assoc]

theorem fetching_of_fetch {s : State} {x : Fetch} (h : s.pca.fetch = some x) : s.fetching = s := if_pos (by rw [h]; rfl)

section
variable {s : State} {i : Fin 16} (h : s.pca.fetch = some { slot := i, header := none })
include h

theorem fetchNoAnswer_eq : exec .fetchNoAnswer s = .next (s.fetchFault i) := by
  show execFetchNoAnswer s = _
  unfold execFetchNoAnswer
  rw [fetching_of_fetch h]
  dsimp only
  rw [h]

theorem fetchHeaderRead_eq (marker kind hi lo : Byte) : exec (.fetchHeaderRead marker kind hi lo) s
    = .next (if headerGood marker hi lo then s.setFetch (some { slot := i, header := some [marker, kind, hi, lo] }) else s.fetchFault i) := by
  show execFetchHeaderRead marker kind hi lo s = _
  unfold execFetchHeaderRead
  rw [fetching_of_fetch h]
  dsimp only
  rw [h]

end

theorem tellFault_pfl (s : State) (w : Waiter) : (s.tellFault w).pfl = s.pfl := (tellFault_within s w).same .pfl (by simp)

theorem fetchFault_eq {s : State} (hn : s.pfl.node ≠ .fallback) (i : Fin 16) : s.fetchFault i =
    let told : State := s.pca.slots[i].waiters.foldl waiterTold { s with pca := { s.pca with slots := setAt s.pca.slots i CacheSlot.vacant } }
    { told with pca := { told.pca with fetch := none }.tryFetch } := by
  have hkeep : ∀ (u : State) (w : Waiter), u.pfl.node ≠ .fallback → (u.tellFault w).pfl.node ≠ .fallback := fun u w hu => by
    rw [tellFault_pfl]
    exact hu
  have htold : s.pca.slots[i].waiters.foldl State.tellFault (s.setPca (s.pca.endFault i))
      = s.pca.slots[i].waiters.foldl waiterTold (s.setPca (s.pca.endFault i)) :=
    foldl_congr_of (P := fun u => u.pfl.node ≠ .fallback) (fun u w hu => tellFault_eq u w hu) hkeep _ hn
  exact congrArg (fun u : State => u.setPca u.pca.freePort) htold

/-! ### A fetch that ends GOOD (R183, R203) -/

/-- A face word whose waiting record is started. -/
def FaceWord.ready (w : FaceWord) (onString : Bool) : FaceWord := { w with
  started := w.waiting, waiting := none, state := emptyWordState w onString w.active.isSome }

theorem pageReady_eq (s : State) (f : FaceIx) : s.pageReady f = withFaceWord s f (s.fsc.words[f].ready (s.onString f)) := by
  unfold State.pageReady State.settle
  rw [setWord_setWord, setWord_word]
  rfl

theorem foldl_pageReady_words (fs : List FaceIx) : ∀ (s : State), fs.Nodup → ∀ f : FaceIx,
    (fs.foldl State.pageReady s).fsc.words[f] = if f ∈ fs then s.fsc.words[f].ready (s.onString f) else s.fsc.words[f] := by
  induction fs with
  | nil => exact fun s _ f => rfl
  | cons g fs ih =>
    intro s hn f
    obtain ⟨hg, hfs⟩ := List.nodup_cons.1 hn
    have hstring : (s.pageReady g).onString f = s.onString f := by rw [pageReady_eq]; rfl
    rw [List.foldl_cons, ih _ hfs f, hstring, pageReady_eq]
    by_cases hf : f = g
    · subst hf
      rw [if_neg hg, if_pos List.mem_cons_self]
      exact setAt_same _ _ _
    · have hword : (withFaceWord s g (s.fsc.words[g].ready (s.onString g))).fsc.words[f] = s.fsc.words[f] := setAt_other _ _ _ _ (Ne.symm hf)
      rw [hword]
      by_cases hmem : f ∈ fs
      · rw [if_pos hmem, if_pos (List.mem_cons_of_mem _ hmem)]
      · rw [if_neg hmem, if_neg fun h => (List.mem_cons.1 h).elim hf hmem]

theorem foldl_pageReady_rest (fs : List FaceIx) : ∀ s : State, ∃ words, fs.foldl State.pageReady s = { s with fsc := { s.fsc with words := words } } := by
  induction fs with
  | nil => exact fun s => ⟨_, rfl⟩
  | cons g fs ih =>
    intro s
    obtain ⟨words, h⟩ := ih (s.pageReady g)
    refine ⟨words, ?_⟩
    rw [List.foldl_cons, h, pageReady_eq]
    rfl

theorem fetchEndGood_eq {s : State} {i : Fin 16} {h body : List Byte} (hf : s.pca.fetch = some { slot := i, header := some h })
    (hl : body.length + 4 = (wordAt h 2).toNat) : exec (.fetchEndGood body) s = .next (s.fetchGood i (h ++ body)) := by
  show execFetchEndGood body s = _
  unfold execFetchEndGood
  rw [hf]
  exact congrArg Host.Outcome.next (if_pos (decide_eq_true hl))

theorem faceWaiters_eq (ws : List Waiter) : faceWaiters ws = ws.filterMap (fun x => match x with
    | .face f => some f
    | _ => none) := by
  unfold faceWaiters
  exact congrArg (ws.filterMap ·) (funext fun x => by cases x <;> rfl)

/-- Settles O49: the header and the fault, the GOOD end, and the slot taken. -/
theorem fetchesFillOrEmptyTheSlot : Obligations.FetchesFillOrEmptyTheSlot := by
  refine ⟨fun s i hr hf => ⟨fun marker kind hi lo => ?_, ?_⟩, fun s i h body hf hl => ⟨_, fetchEndGood_eq hf hl, ?_⟩, fun p => chooseSlot_spec⟩
  · intro length good
    refine ⟨fun hg => ?_, fun hg => ?_⟩
    · exact (fetchHeaderRead_eq hf marker kind hi lo).trans (congrArg Host.Outcome.next (if_pos ((headerGood_iff marker hi lo).2 hg)))
    · rw [fetchHeaderRead_eq hf, fetchNoAnswer_eq hf, if_neg fun hh => hg ((headerGood_iff marker hi lo).1 hh)]
  · exact (fetchNoAnswer_eq hf).trans (congrArg Host.Outcome.next (fetchFault_eq (not_fallback_of_running hr) i))
  · beta_reduce
    intro faces order filled
    have hfaces : faces = faceWaiters s.pca.slots[i].waiters := (faceWaiters_eq _).symm
    obtain ⟨words, hrest⟩ := foldl_pageReady_rest (faceWaiters s.pca.slots[i].waiters) (s.setPca (s.pca.endGood i (h ++ body)))
    have hgood : s.fetchGood i (h ++ body) = _ := hrest
    refine ⟨?_, fun hn f => ?_, by rw [hgood]; rfl, by rw [hgood]; rfl, by rw [hgood]; rfl, ?_⟩
    · rw [hgood]
      rfl
    · rw [hfaces] at hn ⊢
      exact foldl_pageReady_words _ (s.setPca (s.pca.endGood i (h ++ body))) hn f
    · rw [hgood]
      exact fun b hb => by cases b <;> first | rfl | exact absurd (by simp) hb

end Sys2Proof.Machine
end

section
/-! PROOFS. The host's transactions and the checks of a command (O52), RESTART and SELECT_RELEASE (O58). -/

namespace Sys2Proof.Machine

/-! ### The answer of a command (R209, R210) -/

theorem frame_hpt (s : State) (h : Hpt) : Frame.only [.hpt] s { s with hpt := h } :=
  fun b hb => by cases b <;> first | rfl | exact absurd (by simp) hb

/-- A command answered with no effect but its response. -/
theorem answersOnly {i : Instr} {s : State} {r : Response} (h : exec i s = .next (s.respond r)) : Completes (exec i s) (fun t =>
    answers t r.code r.reason r.data ∧ t.hpt = { s.hpt with transaction := t.hpt.transaction } ∧ Frame.only [.hpt] s t) :=
  ⟨_, h, rfl, rfl, (respond_within s r).same⟩

/-- Every host command is its checks and then what its owner does. -/
theorem exec_hostTable (params : List Byte) (s : State) : ∀ x ∈ hostTable params, ∃ act, exec x.1 s = .next (s.hostCommand x.2.1 x.2.2 act) := by
  have hempty : params.isEmpty = (params.length == 0) := by cases params <;> rfl
  have hparams : ∀ (b : Bool) (act : State → State × Response),
      s.hostCommand b params.isEmpty act = s.hostCommand b (params.length == 0) act := fun b act => by rw [hempty]
  have hcounted : countedLength 1 params = (decide (2 ≤ params.length) && params.length == 2 + (byteAt params 1).toNat) := by
    unfold countedLength
    rw [Nat.one_mul]
  unfold hostTable
  simp only [List.forall_mem_cons]
  exact ⟨⟨_, congrArg Host.Outcome.next (hparams _ _)⟩, ⟨_, congrArg Host.Outcome.next (hparams _ _)⟩, ⟨_, congrArg Host.Outcome.next (hparams _ _)⟩,
    ⟨_, rfl⟩, ⟨_, rfl⟩, ⟨_, rfl⟩, ⟨_, rfl⟩, ⟨_, rfl⟩, ⟨_, rfl⟩, ⟨_, rfl⟩, ⟨_, rfl⟩, ⟨_, rfl⟩, ⟨_, rfl⟩,
    ⟨_, congrArg (fun b => Host.Outcome.next (s.hostCommand false b _)) hcounted⟩, ⟨_, rfl⟩, ⟨_, congrArg Host.Outcome.next (hparams _ _)⟩, fun x hx => absurd hx List.not_mem_nil⟩

section
variable {s : State}

theorem gate_starting (h : s.pfl.node = .starting) (a b : Bool) : s.gate a b = some (busy 1) := if_pos h

theorem gate_fallback (h : s.pfl.node = .fallback) (b : Bool) : s.gate false b = some notOperational :=
  (if_neg (by rw [h]; decide)).trans (if_pos ⟨h, rfl⟩)

theorem gate_length {a : Bool} (h : s.pfl.node = .running ∨ (s.pfl.node = .fallback ∧ a = true)) : s.gate a false = some invalid := by
  unfold State.gate
  rcases h with h | ⟨h, rfl⟩
  · rw [h]
    rfl
  · rw [h]
    rfl

theorem gate_open {a : Bool} (h : s.pfl.node = .running ∨ (s.pfl.node = .fallback ∧ a = true)) : s.gate a true = none := by
  unfold State.gate
  rcases h with h | ⟨h, rfl⟩
  · rw [h]
    rfl
  · rw [h]
    rfl

/-- A command of the right length in RUNNING is its owner's answer. -/
theorem hostCommand_running (ht : s.hpt.transaction = none) (hn : s.pfl.node = .running) (a : Bool) {b : Bool} (hb : b = true)
    (act : State → State × Response) : s.hostCommand a b act = (act s).1.respond (act s).2 :=
  hostCommand_pass s a b act ht (hb ▸ gate_open (.inl hn))

end

/-! ### The bytes of a transaction (R209) -/

/-- The codes of the sixteen commands (10.2). -/
def hostCodes : List Byte := [0x01, 0x02, 0x03, 0x04, 0x05, 0x06, 0x10, 0x11, 0x12, 0x13, 0x20, 0x21, 0x22, 0x30, 0x31, 0x3F]

theorem mem_hostCodes {code : Byte} {k : Nat} (h : code.toNat = k) (hk : BitVec.ofNat 8 k ∈ hostCodes) : code ∈ hostCodes := by
  subst h
  rwa [BitVec.ofNat_toNat, BitVec.setWidth_eq] at hk

theorem commandOf_unknown {code : Byte} (h : code ∉ hostCodes) (params : List Byte) : commandOf code params = .unknownCommand code params := by
  unfold commandOf
  split
  case h_17 => rfl
  all_goals exact absurd (mem_hostCodes ‹_› (by decide)) h

theorem readCommand_cut {code m : Byte} {rest : List Byte} (h : rest.length < m.toNat) : readCommand (code :: m :: rest) = none :=
  if_neg (Nat.not_le.2 h)

theorem readCommand_whole {code m : Byte} {params : List Byte} (h : params.length = m.toNat) (rest : List Byte) :
    readCommand (code :: m :: (params ++ rest)) = some (commandOf code params) := by
  unfold readCommand
  dsimp only
  rw [if_pos (by rw [List.length_append, h]; exact Nat.le_add_right _ _), List.take_left' h]

section
variable {h : Hpt} {x : Transaction} (hx : h.transaction = some x)
include hx

theorem output_behind {k : Nat} (hk : x.response.length ≤ k) : h.output k = 0 := by
  unfold Hpt.output
  rw [hx]
  exact List.getD_eq_default _ _ hk

theorem output_response {k : Nat} {y : Byte} (hy : x.response[k]? = some y) : h.output k = y := by
  unfold Hpt.output
  rw [hx]
  dsimp only
  rw [List.getD_eq_getElem?_getD, hy]
  rfl

end

/-- Settles O52: the bytes of a transaction, then the checks in their order. -/
theorem hostChecksDecideInOrder : Obligations.HostChecksDecideInOrder := by
  unfold Obligations.HostChecksDecideInOrder
  intro codes
  refine ⟨fun code m params rest => ⟨rfl, rfl, readCommand_cut, fun h => readCommand_whole h rest, rfl, fun h => commandOf_unknown h params⟩,
    fun bytes clocked => ⟨fun h => ?_, fun i h => ?_⟩, fun h k => ⟨fun hx => ?_, fun x hx => ⟨output_behind hx, fun y => output_response hx⟩⟩,
    fun s params ht => ?_⟩
  · unfold transactionCommands
    rw [h]
    rfl
  · unfold transactionCommands
    rw [h]
    rfl
  · unfold Hpt.output
    rw [hx] <;> rfl
  · intro turned
    refine ⟨fun code => ?_, fun x hx => ?_⟩
    · exact answersOnly (r := invalid) (congrArg (fun u : State => Host.Outcome.next (u.respond invalid)) (closeTransaction_none s ht))
    · obtain ⟨act, hexec⟩ := exec_hostTable params s x hx
      have hstop : ∀ r, s.gate x.2.1 x.2.2 = some r → exec x.1 s = .next (s.respond r) := fun r hr =>
        hexec.trans (congrArg Host.Outcome.next (hostCommand_stop s _ _ act r ht hr))
      refine ⟨fun hn => answersOnly (hstop _ (gate_starting hn _ _)), fun hn ha => answersOnly (r := notOperational) (hstop _ ?_),
        fun hn hb => answersOnly (r := invalid) (hstop _ ?_)⟩
      · rw [ha]
        exact gate_fallback hn _
      · rw [hb]
        exact gate_length hn

/-! ### RESTART and the release of select (R209, R211, R218) -/

section
variable {s : State}

theorem attentionLine_iff : s.attentionLine = true ↔ s.hpt.notices ≠ [] ∨ s.hpt.musterChange = true := by
  unfold State.attentionLine
  rw [Bool.or_eq_true, Bool.not_eq_true', List.isEmpty_eq_false_iff]

theorem restart_eq (ht : s.hpt.transaction = none) (hn : s.pfl.node ≠ .starting) :
    exec (.restart []) s = .next ({ s with hpt := { s.hpt with restart := true } }.respond accepted) := by
  have hopen : s.pfl.node = .running ∨ (s.pfl.node = .fallback ∧ true = true) := by
    cases h : s.pfl.node with
    | starting => exact absurd h hn
    | running => exact .inl rfl
    | fallback => exact .inr ⟨rfl, rfl⟩
  exact congrArg Host.Outcome.next (hostCommand_pass s _ _ _ ht (gate_open hopen))

/-- The HPT when select is released: the transaction over, and what its being cut short sets. -/
theorem release_some {h : Hpt} {x : Transaction} (hx : h.transaction = some x) (clocked : Nat) :
    h.release clocked = { (if clocked < x.response.length then h.applyCut x.cut else h) with transaction := none } := by
  unfold Hpt.release
  rw [hx]

theorem release_none {h : Hpt} (hx : h.transaction = none) (clocked : Nat) : h.release clocked = h := by
  unfold Hpt.release
  rw [hx]

theorem applyCut_restart (h : Hpt) (c : CutAction) : (h.applyCut c).restart = h.restart := by cases c <;> rfl

theorem release_restart (h : Hpt) (clocked : Nat) : (h.release clocked).restart = h.restart := by
  cases hx : h.transaction with
  | none => rw [release_none hx]
  | some x =>
    rw [release_some hx]
    by_cases hc : clocked < x.response.length
    · rw [if_pos hc]
      exact applyCut_restart h _
    · rw [if_neg hc]

/-- The release of a transaction whose cut does nothing. -/
theorem release_quiet {h : Hpt} (hq : h.transaction.any (fun x => x.cut != .nothing) = false) (clocked : Nat) :
    h.release clocked = { h with transaction := none } := by
  cases hx : h.transaction with
  | none =>
    rw [release_none hx, ← hx]
  | some x =>
    rw [hx] at hq
    have hcut : x.cut = .nothing := by
      have hne : (x.cut != .nothing) = false := hq
      rwa [bne_eq_false_iff_eq] at hne
    rw [release_some hx, hcut]
    by_cases hc : clocked < x.response.length
    · rw [if_pos hc]
      rfl
    · rw [if_neg hc]

theorem selectRelease_plain (hr : s.hpt.restart = false) (clocked : Nat) :
    exec (.selectRelease clocked) s = .next { s with hpt := s.hpt.release clocked } :=
  congrArg Host.Outcome.next (if_neg (by rw [show ({ s with hpt := s.hpt.release clocked } : State).hpt = s.hpt.release clocked from rfl, release_restart, hr]; decide))

theorem selectRelease_restart (hr : s.hpt.restart = true) (clocked : Nat) :
    exec (.selectRelease clocked) s = .next (State.carryOutRestart { s with hpt := s.hpt.release clocked }) :=
  congrArg Host.Outcome.next (if_pos ((release_restart _ _).trans hr))

theorem mem_carryOutRestart_handoffs {e : Instr} (h : e ∈ s.carryOutRestart.handoffs) : ∃ old new, e = .minuteEventPlu old new := by
  have he := (List.mem_filter.1 h).2
  cases e <;> first | exact ⟨_, _, rfl⟩ | exact nomatch he

end

/-- Settles O58: the attention line, RESTART, and the release with and without one. -/
theorem restartReleaseAndAttentionLine : Obligations.RestartReleaseAndAttentionLine := by
  intro s
  refine ⟨attentionLine_iff, fun ht hn => ⟨_, restart_eq ht hn, rfl, rfl, ?_⟩, fun clocked => ⟨fun hr => ⟨_, selectRelease_plain hr clocked, ?_, ?_,
    fun x hx => ?_⟩, fun hr hq => ⟨_, selectRelease_restart hr clocked, rfl, rfl, rfl, rfl, rfl, rfl, rfl, rfl, rfl, fun l => ?_, rfl, rfl, rfl, ?_,
    fun e he => mem_carryOutRestart_handoffs he, rfl, rfl⟩⟩⟩
  · exact frame_hpt s _
  · exact frame_hpt s _
  · exact fun hx => release_none hx clocked
  · have hrelease : s.hpt.release clocked = _ := release_some hx clocked
    refine ⟨fun h => hrelease.trans ?_, fun hc hcut => hrelease.trans ?_, fun hc hcut => hrelease.trans ?_⟩
    · rcases h with h | h
      · rw [if_neg (Nat.not_lt.2 h)]
      · rw [h, show s.hpt.applyCut .nothing = s.hpt from rfl, ite_self]
    · rw [if_pos hc, hcut]
      rfl
    · rw [if_pos hc, hcut]
      rfl
  · exact tabulate_get _ l
  · rw [release_quiet hq]
    rfl

end Sys2Proof.Machine
end

section
/-! PROOFS. The host's reads: status, notices and muster (O53). -/

namespace Sys2Proof.Machine

/-! ### The codes of a notice's fields (R215, 10.2) -/

theorem conditionByte_eq (c : Condition) : natByte (conditionCode c) = match c with
    | .complete => 1 | .halted => 2 | .faceFault => 3 | .pageFault => 4 | .faceSilent => 5 := by
  cases c <;> rfl

theorem classByte_eq (k : DemandClass) : natByte (classCode k) = match k with
    | .muster => 1 | .content => 2 := by
  cases k <;> rfl

theorem faceReportByte_eq (r : FaceReport) : natByte (faceReportCode r) = match r with
    | .offline => 1 | .online => 2 | .fault => 3 := by
  cases r <;> rfl

theorem linkByte_eq (st : LinkState) : natByte (linkCode st) = match st with
    | .unheard => 0 | .up => 1 | .silent => 2 := by
  cases st <;> rfl

theorem portByte_eq (p : Port) : natByte (portCode p) = match p with
    | .da => 0 | .db => 1 := by
  cases p <;> rfl

theorem dropCauseByte_eq (c : DropCause) : natByte (dropCauseCode c) = match c with
    | .attempts => 1 | .displaced => 2 := by
  cases c <;> rfl

/-- The eight bytes of a notice, by its kind. -/
theorem noticeBytes_eq (n : Notice) : n.bytes = match n with
    | .chainEnd f e => [1, natByte f.val, (match e.condition with
        | .complete => 1 | .halted => 2 | .faceFault => 3 | .pageFault => 4 | .faceSilent => 5), natByte e.done, natByte e.total, 0, 0, 0]
    | .progress f i total => [2, natByte f.val, natByte i, natByte total, 0, 0, 0, 0]
    | .attention f code => [3, natByte f.val, code, 0, 0, 0, 0, 0]
    | .faceState f r code => [4, natByte f.val, (match r with | .offline => 1 | .online => 2 | .fault => 3), code, 0, 0, 0, 0]
    | .drawFault f k c p => [5, natByte f.val, (match k with | .muster => 1 | .content => 2), (match c with
        | .complete => 1 | .halted => 2 | .faceFault => 3 | .pageFault => 4 | .faceSilent => 5),
        natByte (match p with | .header => 0 | .line i => i.val + 1 | .privacy => 5), 0, 0, 0]
    | .legState l neighbour st =>
        [6, natByte l.val, neighbour, (match st with | .unheard => 0 | .up => 1 | .silent => 2), 0, 0, 0, 0]
    | .linkDrop p kind c origin identity =>
        [7, (match p with | .da => 0 | .db => 1), kind, (match c with | .attempts => 1 | .displaced => 2), origin]
          ++ wordBytes identity ++ [0]
    | .programmeFull id start => [8] ++ natBytes2 id ++ [natByte (start / 65536)] ++ natBytes2 start ++ [0, 0] := by
  unfold Notice.bytes
  cases n with
  | chainEnd f e => exact congrArg (fun c => padTo 8 [1, natByte f.val, c, natByte e.done, natByte e.total]) (conditionByte_eq e.condition)
  | progress f i total => rfl
  | attention f code => rfl
  | faceState f r code => exact congrArg (fun c => padTo 8 [4, natByte f.val, c, code]) (faceReportByte_eq r)
  | drawFault f k c p =>
    have hk := classByte_eq k
    have hc := conditionByte_eq c
    unfold Notice.fields
    dsimp only
    rw [hk, hc]
    cases p <;> rfl
  | legState l neighbour st => exact congrArg (fun c => padTo 8 [6, natByte l.val, neighbour, c]) (linkByte_eq st)
  | linkDrop p kind c origin identity =>
    have hp := portByte_eq p
    have hc := dropCauseByte_eq c
    unfold Notice.fields
    dsimp only
    rw [hp, hc] <;> rfl
  | programmeFull id start => rfl

theorem noticeBytes_length (n : Notice) : n.bytes.length = 8 := by cases n <;> rfl

/-! ### The three reads -/

theorem status_running {s : State} (ht : s.hpt.transaction = none) (hn : s.pfl.node = .running) : exec (.status []) s
    = .next (({ s with hpt := { s.hpt with noticesLost := false } } : State).respond
        { acceptedWith s.statusData with cut := if s.hpt.noticesLost then .setNoticesLost else .nothing }) := by
  have hread : s.readStatus = ({ s with hpt := { s.hpt with noticesLost := false } },
      { acceptedWith s.statusData with cut := if s.hpt.noticesLost then .setNoticesLost else .nothing }) := if_neg (by rw [hn]; decide)
  have hexec : exec (.status []) s = .next (s.readStatus.1.respond s.readStatus.2) :=
    congrArg Host.Outcome.next (hostCommand_running ht hn _ rfl _)
  rw [hexec, hread]

theorem status_fallback {s : State} (ht : s.hpt.transaction = none) (hn : s.pfl.node = .fallback) : exec (.status []) s
    = .next (s.spendFree.respond { plainResponse s.fallbackStatusCode with data := s.fallbackStatusData }) := by
  have hread : s.readStatus = (s.spendFree, { plainResponse s.fallbackStatusCode with data := s.fallbackStatusData }) := if_pos hn
  have hexec : exec (.status []) s = .next (s.readStatus.1.respond s.readStatus.2) :=
    congrArg Host.Outcome.next (hostCommand_pass s _ _ _ ht (gate_open (.inr ⟨hn, rfl⟩)))
  rw [hexec, hread]

theorem fallbackStatusCode_mem (s : State) : s.fallbackStatusCode ∈ [1, 2, 4, 5, 6, 7] := by
  unfold State.fallbackStatusCode
  have hk : Config.fallbackStatusPick s.freeCount % 6 < [1, 2, 4, 5, 6, 7].length := Nat.mod_lt _ (by decide)
  rw [List.getD_eq_getElem _ _ hk]
  exact List.getElem_mem hk

section
variable {s : State} (ht : s.hpt.transaction = none) (hn : s.pfl.node = .running)
include ht hn

theorem readNotice_eq : exec (.readNotice []) s = .next (s.takeHead.1.respond s.takeHead.2) :=
  congrArg Host.Outcome.next (hostCommand_running ht hn _ rfl _)

theorem readMuster_eq : exec (.readMuster []) s = .next (s.readRecord.1.respond s.readRecord.2) :=
  congrArg Host.Outcome.next (hostCommand_running ht hn _ rfl _)

theorem readNotice_empty (h : s.hpt.notices = []) : exec (.readNotice []) s = .next (s.respond emptyResponse) := by
  rw [readNotice_eq ht hn]
  unfold State.takeHead
  rw [h]

theorem readNotice_head {n : Notice} {rest : List Notice} (h : s.hpt.notices = n :: rest) : exec (.readNotice []) s
    = .next (({ s with hpt := { s.hpt with notices := rest } } : State).respond { acceptedWith n.bytes with cut := .setNoticesLost }) := by
  rw [readNotice_eq ht hn]
  unfold State.takeHead
  rw [h]

end

theorem heldCode_eq (h : Option Phase) : h.elim 0 phaseCode = match h with | some h => phaseCode h | none => 0 := by
  cases h <;> rfl

/-- Settles O53: STATUS in RUNNING and in FALLBACK, READ NOTICE and READ MUSTER. -/
theorem statusNoticeAndMusterReads : Obligations.StatusNoticeAndMusterReads := by
  intro s ht cut bit ix condition laidOut
  have hlaid : ∀ n, laidOut n = n.bytes := fun n => (noticeBytes_eq n).symm
  refine ⟨fun hn => ⟨_, status_running ht hn, ?_, rfl, rfl, ?_⟩, fun hn => ⟨_, status_fallback ht hn, ⟨_, fallbackStatusCode_mem s, rfl⟩, rfl, ?_⟩,
    fun hn => ⟨fun h => answersOnly (r := emptyResponse) (readNotice_empty ht hn h), fun n rest h => ⟨_, readNotice_head ht hn h, ?_, ?_, rfl, rfl, ?_⟩,
      ⟨_, readMuster_eq ht hn, ?_, rfl, rfl, ?_⟩⟩, rfl⟩
  · have hnode : natByte (nodeStateCode s.pfl.node) = 2 := by rw [hn]; rfl
    have hdata : s.statusData = [2, s.pfl.profile.nodeId, natByte s.hpt.notices.length, s.statusFlags, natByte (phaseCode s.muc.phase)]
        ++ wordBytes (s.muc.epoch.getD 0) ++ s.sck.statusBytes ++ [natByte s.plu.items.length, natByte s.fsc.poolFree] := by
      unfold State.statusData
      rw [hnode]
    exact congrArg (fun d => some ([0xA5#8, natByte 1, natByte 0, natByte (List.length d)] ++ d)) hdata
  · exact frame_hpt s _
  · exact fun b hb => by cases b <;> first | rfl | exact absurd (by simp) hb
  · rw [hlaid]
    rfl
  · rw [hlaid, noticeBytes_length]
  · exact frame_hpt s _
  · have hheld := heldCode_eq s.muc.held
    have hdata : s.muc.bytes = [(if s.muc.epoch.isSome then 1 else 0 : Byte)] ++ wordBytes (s.muc.epoch.getD 0)
        ++ [natByte (phaseCode s.muc.phase), s.muc.origin, natByte s.muc.zones.length]
        ++ (s.muc.zones ++ List.replicate (8 - s.muc.zones.length) (0 : Byte))
        ++ [natByte s.muc.standDown, natByte (match s.muc.held with | some h => phaseCode h | none => 0)] := by
      rw [← hheld]
      rfl
    exact congrArg (fun d => some ([0xA5#8, natByte 1, natByte 0, natByte (List.length d)] ++ d)) hdata
  · exact frame_hpt s _

end Sys2Proof.Machine
end

section
/-! PROOFS. The host's reads of the routes, the legs and the faces (O54). -/

namespace Sys2Proof.Machine

/-! ### A byte as an index -/

theorem indexOf_some {n : Nat} {b : Byte} {i : Fin n} (h : i.val = b.toNat) : indexOf n b = some i := by
  unfold indexOf
  rw [dif_pos (h ▸ i.isLt)]
  exact congrArg some (Fin.ext h.symm)

theorem indexOf_none {n : Nat} {b : Byte} (h : n ≤ b.toNat) : indexOf n b = none := dif_neg (Nat.not_lt.2 h)

/-! ### The bytes of an entry (R23) -/

theorem costBytes_eq (c : Cost) : wordBytes (costWord c) = match c with
    | .finite n => natBytes2 n | .unknown => natBytes2 65534 | .unreachable => natBytes2 65535 := by
  cases c <;> rfl

theorem wayOutByte_eq (w : WayOut) : natByte (wayOutCode w) = match w with | .leg l => natByte l.val | .here => 6 | .none => 7 := by
  cases w <;> rfl

theorem toList_six {α : Type} (v : Vector α 6) : v.toList = [v[0], v[1], v[2], v[3], v[4], v[5]] := by
  refine List.ext_getElem (by simp) fun k hk _ => ?_
  rw [Vector.length_toList] at hk
  interval_cases k <;> rfl

/-- The bytes of a table entry, with a way to write costs. -/
theorem entryBytes_eq (e : Entry) {costBytes : Cost → List Byte} (hc : ∀ c, wordBytes (costWord c) = costBytes c) : e.bytes
    = [natByte (wayOutCode e.best)] ++ costBytes e.cost ++ [(if e.anchor.isSome then 1 else 0 : Byte), natByte (e.anchor.getD 0)]
      ++ costBytes e.adv[0] ++ costBytes e.adv[1] ++ costBytes e.adv[2] ++ costBytes e.adv[3] ++ costBytes e.adv[4]
      ++ costBytes e.adv[5] ++ [changedFlags e] := by
  unfold Entry.bytes
  rw [toList_six, hc]
  simp only [List.flatMap_cons, List.flatMap_nil, List.append_nil, List.append_assoc, hc]
  rfl

/-! ### The bytes of a leg (R47) -/

theorem legKindByte_eq (k : LegKind) : natByte (legKindCode k) = match k with
    | .corridor => 1 | .doorway => 2 | .outerDeck => 3 | .lift => 4 | .stairDown => 5 | .stairUp => 6 := by
  cases k <;> rfl

theorem legBytes_unconfigured {r : LegRecord} (h : r.fixed = none) (pace : Option LegPace) : legBytes r pace = List.replicate 12 0 := by
  unfold legBytes
  rw [h]

theorem legBytes_configured {r : LegRecord} {f : LegStatic} (h : r.fixed = some f) (p : LegPace) : legBytes r (some p)
    = [f.neighbour, natByte (portCode f.port), f.farZone, natByte (legKindCode f.kind)] ++ natBytes2 f.length
      ++ [natByte (linkCode r.link), legFlags f r, natByte r.crowd, natByte p.pace] ++ natBytes2 p.cost := by
  unfold legBytes
  rw [h]
  rfl

/-! ### The bytes of a face word (R191) -/

theorem wordStateByte_eq (x : WordState) : natByte (wordStateCode x) = match x with
    | .idle => 1 | .active => 2 | .waitPage => 3 | .transfer => 4 | .offline => 5 := by
  cases x <;> rfl

/-- Origin, index and total of the active chain. -/
def chainBytes (c : Option ActiveChain) : List Byte :=
  [natByte (c.elim 0 (fun c => c.body.originCode)), natByte (c.elim 0 (·.index)), natByte (c.elim 0 (fun c => c.body.total))]

theorem chainBytes_eq (c : Option ActiveChain) {cls : DemandClass → Byte} (hcls : ∀ k, natByte (classCode k) = cls k) :
    chainBytes c = match c with
      | some { body := .generated k parts, index := i, .. } => [cls k, natByte i, natByte parts.length]
      | some { body := .supplied rs _ _, index := i, .. } => [3, natByte i, natByte rs.length]
      | none => [0, 0, 0] := by
  cases c with
  | none => rfl
  | some c =>
    obtain ⟨body, index, seq⟩ := c
    cases body with
    | generated k parts => exact congrArg (fun x => [x, natByte index, natByte parts.length]) (hcls k)
    | supplied rs done halt => rfl

theorem pendingByte_eq (p : Option (List SuppliedRecord)) : natByte (p.elim 0 (·.length)) = match p with
    | some rs => natByte rs.length
    | none => 0 := by
  cases p <;> rfl

theorem clsByte_eq (k : Option DemandClass) {cls : DemandClass → Byte} (hcls : ∀ k, natByte (classCode k) = cls k) :
    natByte (k.elim 0 classCode) = match k with
      | some k => cls k
      | none => 0 := by
  cases k with
  | none => rfl
  | some k => exact hcls k

theorem haltBit_eq (c : Option ActiveChain) : flagBit (c.any (fun c => c.body.haltRequested)) 0 = match c with
    | some { body := .supplied _ _ true, .. } => 1
    | _ => 0 := by
  cases c with
  | none => rfl
  | some c =>
    obtain ⟨body, index, seq⟩ := c
    cases body with
    | generated k parts => rfl
    | supplied rs done halt => cases halt <;> rfl

theorem stackedBytes_eq (x : Option ChainEnding) : stackedBytes x = match x with
    | some e => [(match e.condition with
        | .complete => 1 | .halted => 2 | .faceFault => 3 | .pageFault => 4 | .faceSilent => 5 : Byte), natByte e.done, natByte e.total]
    | none => [0, 0, 0] := by
  cases x with
  | none => rfl
  | some e => exact congrArg (fun c => [c, natByte e.done, natByte e.total]) (conditionByte_eq e.condition)

theorem wordBytes_disabled {w : FaceWord} (h : w.address = none) (free : Nat) :
    w.bytes free = List.replicate 8 0 ++ [natByte free, 0, 0, 0] := if_pos (by rw [h]; rfl)

theorem wordBytes_enabled {w : FaceWord} (h : w.address.isSome = true) (free : Nat) : w.bytes free
    = [natByte (wordStateCode w.state)] ++ chainBytes w.active
      ++ [natByte (w.pending.elim 0 (·.length)), natByte (w.cls.elim 0 classCode), w.flags, natByte w.retry, natByte free]
      ++ stackedBytes w.stacked := if_neg fun hn => Option.isSome_iff_ne_none.1 h (Option.isNone_iff_eq_none.1 hn)

/-! ### The three reads (R214) -/

section
variable {s : State} {b : Byte} (ht : s.hpt.transaction = none) (hn : s.pfl.node = .running)
include ht hn

theorem readRoute_eq {d : DestIx} (h : d.val = b.toNat) : exec (.readRoute [b]) s = .next (s.respond (acceptedWith s.rtu.table[d].bytes)) := by
  refine congrArg Host.Outcome.next ((hostCommand_running ht hn _ rfl _).trans ?_)
  rw [show indexOf 64 (byteAt [b] 0) = some d from indexOf_some h]

theorem readRoute_invalid (h : 63 < b.toNat) : exec (.readRoute [b]) s = .next (s.respond invalid) := by
  refine congrArg Host.Outcome.next ((hostCommand_running ht hn _ rfl _).trans ?_)
  rw [show indexOf 64 (byteAt [b] 0) = none from indexOf_none h]

theorem readLeg_eq {l : LegIx} (h : l.val = b.toNat) :
    exec (.readLeg [b]) s = .next (s.respond (acceptedWith (legBytes s.lgm.legs[l] s.rtu.legs[l]))) := by
  refine congrArg Host.Outcome.next ((hostCommand_running ht hn _ rfl _).trans ?_)
  rw [show indexOf 6 (byteAt [b] 0) = some l from indexOf_some h]

theorem readLeg_invalid (h : 5 < b.toNat) : exec (.readLeg [b]) s = .next (s.respond invalid) := by
  refine congrArg Host.Outcome.next ((hostCommand_running ht hn _ rfl _).trans ?_)
  rw [show indexOf 6 (byteAt [b] 0) = none from indexOf_none h]

theorem readFace_eq {f : FaceIx} (h : f.val = b.toNat) : exec (.readFace [b]) s = .next ((s.readWord f).1.respond (s.readWord f).2) := by
  refine congrArg Host.Outcome.next ((hostCommand_running ht hn _ rfl _).trans ?_)
  rw [show indexOf 32 (byteAt [b] 0) = some f from indexOf_some h]

theorem readFace_invalid (h : 31 < b.toNat) : exec (.readFace [b]) s = .next (s.respond invalid) := by
  refine congrArg Host.Outcome.next ((hostCommand_running ht hn _ rfl _).trans ?_)
  rw [show indexOf 32 (byteAt [b] 0) = none from indexOf_none h]

theorem readFace_disabled {f : FaceIx} (h : f.val = b.toNat) (ha : s.fsc.words[f].address = none) : exec (.readFace [b]) s
    = .next (s.respond (acceptedWith (s.fsc.words[f].bytes s.fsc.poolFree))) := by
  have hword : (s.readWord f).1 = s := by
    unfold State.readWord
    rw [ha]
    exact setWord_self s f
  exact (readFace_eq ht hn h).trans (congrArg (fun u : State => Host.Outcome.next (u.respond _)) hword)

theorem readFace_enabled {f : FaceIx} (h : f.val = b.toNat) (ha : s.fsc.words[f].address.isSome = true) : exec (.readFace [b]) s
    = .next ((s.setWord f { s.fsc.words[f] with stacked := none }).respond (acceptedWith (s.fsc.words[f].bytes s.fsc.poolFree))) := by
  have hstacked : (if s.fsc.words[f].address.isNone then s.fsc.words[f].stacked else none) = none :=
    if_neg fun hn => Option.isSome_iff_ne_none.1 ha (Option.isNone_iff_eq_none.1 hn)
  have hword : (s.readWord f).1 = s.setWord f { s.fsc.words[f] with stacked := none } :=
    congrArg (fun x => s.setWord f { s.fsc.words[f] with stacked := x }) hstacked
  exact (readFace_eq ht hn h).trans (congrArg (fun u : State => Host.Outcome.next (u.respond _)) hword)

end

/-- A read whose data are as the statement lays them out. -/
theorem answersWith {i : Instr} {s : State} {data data' : List Byte} (h : exec i s = .next (s.respond (acceptedWith data))) (hd : data = data') :
    Completes (exec i s) (fun t => answers t 1 0 data' ∧ t.hpt = { s.hpt with transaction := t.hpt.transaction } ∧ Frame.only [.hpt] s t) :=
  hd ▸ answersOnly (r := acceptedWith data) h

/-- Settles O54: the refusals, then the bytes of an entry, of a leg and of a face word. -/
theorem routeLegAndFaceReads : Obligations.RouteLegAndFaceReads := by
  intro s b ht hn reads bit costBytes refuses
  refine ⟨fun h => answersOnly (r := invalid) (readRoute_invalid ht hn h), fun h => answersOnly (r := invalid) (readLeg_invalid ht hn h),
    fun h => answersOnly (r := invalid) (readFace_invalid ht hn h), fun d hd => ?_, fun l hl => ⟨fun hfixed => ?_, fun f p hfixed hpace => ?_⟩,
    fun f hf => ⟨fun ha => ?_, fun ha => ?_⟩⟩
  · intro e
    have hway := wayOutByte_eq e.best
    refine answersWith (readRoute_eq ht hn hd) ((entryBytes_eq e (costBytes := costBytes) costBytes_eq).trans ?_)
    rw [hway] <;> rfl
  · exact answersWith (readLeg_eq ht hn hl) (legBytes_unconfigured hfixed _)
  · intro r kind
    have hkind : natByte (legKindCode f.kind) = kind := legKindByte_eq f.kind
    have hport := portByte_eq f.port
    have hlink := linkByte_eq r.link
    refine answersWith (readLeg_eq ht hn hl) ?_
    rw [hpace, legBytes_configured hfixed, hkind, hport, show natByte (linkCode s.lgm.legs[l].link) = _ from hlink] <;> rfl
  · exact answersWith (readFace_disabled ht hn hf ha) (wordBytes_disabled ha _)
  · refine ⟨_, readFace_enabled ht hn hf ha, ?_, setAt_same _ _ _, ⟨fun g hg => setAt_other _ _ _ _ (Ne.symm hg), rfl⟩, rfl, rfl,
      fun b hb => by cases b <;> first | rfl | exact absurd (by simp) hb⟩
    have hdata := wordBytes_enabled ha s.fsc.poolFree
    have hflags : s.fsc.words[f].flags = natByte (flagBit (s.fsc.words[f].active.any (fun c => c.body.haltRequested)) 0
      + flagBit s.fsc.words[f].redirty 1 + flagBit s.fsc.words[f].attnStacked 2
      + flagBit s.fsc.words[f].privacy 3 + flagBit s.fsc.words[f].hostHeld 4) := rfl
    rw [hflags, haltBit_eq, chainBytes_eq _ classByte_eq, pendingByte_eq, clsByte_eq _ classByte_eq, wordStateByte_eq, stackedBytes_eq] at hdata
    exact congrArg (fun d => some ([0xA5#8, natByte 1, natByte 0, natByte (List.length d)] ++ d)) hdata

end Sys2Proof.Machine
end

section
/-! PROOFS. The host's commands on faces (O55). -/

namespace Sys2Proof.Machine

/-! ### The list of START FACE CHAIN (R177) -/

theorem wordAt_toNat (b : List Byte) (k : Nat) : (wordAt b k).toNat = (byteAt b k).toNat * 256 + (byteAt b (k + 1)).toNat := by
  unfold wordAt
  rw [BitVec.toNat_append, Nat.shiftLeft_eq, ← Nat.shiftLeft_eq, ← Nat.shiftLeft_add_eq_or_of_lt (byteAt b (k + 1)).isLt, Nat.shiftLeft_eq]

theorem readSuppliedList_length (params : List Byte) : (readSuppliedList params).length = (byteAt params 1).toNat := by
  unfold readSuppliedList
  rw [List.length_map, List.length_range]

theorem readSupplied_eq (params : List Byte) (i : Nat) : readSupplied params i
    = { page := (byteAt params (2 + 3 * i)).toNat * 256 + (byteAt params (3 + 3 * i)).toNat, chain := (byteAt params (4 + 3 * i)).getLsbD 0,
        notify := (byteAt params (4 + 3 * i)).getLsbD 1, hold := (byteAt params (4 + 3 * i)).getLsbD 2 } := by
  have hnext : 2 + 3 * i + 1 = 3 + 3 * i := by omega
  unfold readSupplied
  rw [wordAt_toNat, hnext]

theorem readSuppliedList_getElem? {params : List Byte} {i : Nat} (h : i < (byteAt params 1).toNat) :
    (readSuppliedList params)[i]? = some (readSupplied params i) := by
  unfold readSuppliedList
  rw [List.getElem?_map, List.getElem?_range h]
  rfl

/-- Every record of the list has its page in range, CHAIN on all but the last, HOLD on the last only. -/
def RecordsListed (rs : List SuppliedRecord) : Prop := ∀ (i : Nat) (r : SuppliedRecord), rs[i]? = some r →
  r.page ≤ 4095 ∧ (r.chain = true ↔ i + 1 < rs.length) ∧ (r.hold = true → i + 1 = rs.length)

theorem recordsListed_one (r : SuppliedRecord) : RecordsListed [r] ↔ r.page ≤ 4095 ∧ r.chain = false := by
  refine ⟨fun h => ?_, fun ⟨hpage, hchain⟩ i x hx => ?_⟩
  · obtain ⟨hpage, hchain, -⟩ := h 0 r rfl
    exact ⟨hpage, Bool.eq_false_iff.2 fun hc => absurd (hchain.1 hc) (Nat.lt_irrefl 1)⟩
  · cases i with
    | succ i => exact nomatch hx
    | zero =>
      obtain rfl := Option.some.inj hx
      exact ⟨hpage, iff_of_false (by rw [hchain]; decide) (Nat.lt_irrefl 1), fun _ => rfl⟩

theorem recordsListed_cons (r q : SuppliedRecord) (rs : List SuppliedRecord) :
    RecordsListed (r :: q :: rs) ↔ (r.page ≤ 4095 ∧ r.chain = true ∧ r.hold = false) ∧ RecordsListed (q :: rs) := by
  have hlen : (r :: q :: rs).length = (q :: rs).length + 1 := rfl
  refine ⟨fun h => ⟨?_, fun i x hx => ?_⟩, fun ⟨⟨hpage, hchain, hhold⟩, h⟩ i x hx => ?_⟩
  · obtain ⟨hpage, hchain, hhold⟩ := h 0 r rfl
    exact ⟨hpage, hchain.2 (by simp), Bool.eq_false_iff.2 fun hh => absurd (hhold hh) (by simp)⟩
  · obtain ⟨hpage, hchain, hhold⟩ := h (i + 1) x hx
    rw [hlen] at hchain hhold
    exact ⟨hpage, hchain.trans Nat.add_lt_add_iff_right, fun hh => Nat.add_right_cancel (hhold hh)⟩
  · rw [hlen]
    cases i with
    | zero =>
      obtain rfl := Option.some.inj hx
      exact ⟨hpage, iff_of_true hchain (by simp), fun hh => nomatch hhold.symm.trans hh⟩
    | succ i =>
      obtain ⟨hp, hc, hh⟩ := h i x hx
      exact ⟨hp, hc.trans Nat.add_lt_add_iff_right.symm, fun hx => congrArg (· + 1) (hh hx)⟩

theorem suppliedListOk_iff : ∀ rs : List SuppliedRecord, suppliedListOk rs = true ↔ 1 ≤ rs.length ∧ RecordsListed rs
  | [] => iff_of_false nofun fun h => absurd h.1 (by decide)
  | [r] => by
    rw [recordsListed_one]
    show (decide (r.page ≤ 4095) && !r.chain) = true ↔ _
    rw [Bool.and_eq_true, decide_eq_true_iff, Bool.not_eq_true']
    exact (and_iff_right (Nat.le_refl 1)).symm
  | r :: q :: rs => by
    have hlen : 1 ≤ (q :: rs).length ↔ 1 ≤ (r :: q :: rs).length := iff_of_true (by simp) (by simp)
    rw [recordsListed_cons]
    show (decide (r.page ≤ 4095) && r.chain && !r.hold && suppliedListOk (q :: rs)) = true ↔ _
    rw [Bool.and_eq_true, Bool.and_eq_true, Bool.and_eq_true, decide_eq_true_iff, Bool.not_eq_true', suppliedListOk_iff (q :: rs), hlen, and_assoc,
      and_assoc]
    exact ⟨fun ⟨a, b, c, d, e⟩ => ⟨d, ⟨a, b, c⟩, e⟩, fun ⟨d, ⟨a, b, c⟩, e⟩ => ⟨a, b, c, d, e⟩⟩

/-! ### START FACE CHAIN, row by row (R177) -/

section
variable {s : State} {f : FaceIx} {rs : List SuppliedRecord}

theorem startChain_disabled (h : s.fsc.words[f].address = none) : s.startChain f rs = (s, notOperational) := if_pos (by rw [h]; rfl)

section
variable (ha : s.fsc.words[f].address.isSome = true)
include ha

theorem not_disabled : ¬ s.fsc.words[f].address.isNone = true := fun h => Option.isSome_iff_ne_none.1 ha (Option.isNone_iff_eq_none.1 h)

theorem startChain_muster (hp : s.muc.phase ≠ .quiet) : s.startChain f rs = (s, busy reasonMuster) := (if_neg (not_disabled ha)).trans (if_pos hp)

section
variable (hq : s.muc.phase = .quiet)
include hq

theorem startChain_busy (hb : s.fsc.words[f].suppliedActive = true ∨ s.fsc.words[f].pending.isSome = true ∨ s.fsc.words[f].stacked.isSome = true) :
    s.startChain f rs = (s, busy reasonFace) := by
  refine (if_neg (not_disabled ha)).trans ((if_neg (not_not.2 hq)).trans (if_pos ?_))
  rw [Bool.or_eq_true, Bool.or_eq_true, or_assoc]
  exact hb

section
variable (hb : ¬ (s.fsc.words[f].suppliedActive = true ∨ s.fsc.words[f].pending.isSome = true ∨ s.fsc.words[f].stacked.isSome = true))
include hb

theorem startChain_free : s.startChain f rs = if s.fsc.poolFree < rs.length then (s, busy reasonPool)
    else if s.fsc.words[f].state = .offline then
      (s.giveEnding f { condition := .faceSilent, done := 0, total := rs.length }, endedAtOnce)
    else if s.fsc.words[f].generatedActive then (s.setWord f { s.fsc.words[f] with pending := some rs }, accepted)
    else (s.activate f rs, accepted) := by
  refine (if_neg (not_disabled ha)).trans ((if_neg (not_not.2 hq)).trans (if_neg ?_))
  rw [Bool.or_eq_true, Bool.or_eq_true, or_assoc]
  exact hb

theorem startChain_pool (hp : s.fsc.poolFree < rs.length) : s.startChain f rs = (s, busy reasonPool) :=
  (startChain_free ha hq hb).trans (if_pos hp)

section
variable (hp : rs.length ≤ s.fsc.poolFree)
include hp

theorem startChain_offline (ho : s.fsc.words[f].state = .offline) :
    s.startChain f rs = (s.giveEnding f { condition := .faceSilent, done := 0, total := rs.length }, endedAtOnce) :=
  (startChain_free ha hq hb).trans ((if_neg (Nat.not_lt.2 hp)).trans (if_pos ho))

section
variable (ho : s.fsc.words[f].state ≠ .offline)
include ho

theorem startChain_pending (hg : s.fsc.words[f].generatedActive = true) :
    s.startChain f rs = (s.setWord f { s.fsc.words[f] with pending := some rs }, accepted) :=
  (startChain_free ha hq hb).trans ((if_neg (Nat.not_lt.2 hp)).trans ((if_neg ho).trans (if_pos hg)))

theorem startChain_active (hg : s.fsc.words[f].generatedActive = false) : s.startChain f rs = (s.activate f rs, accepted) :=
  (startChain_free ha hq hb).trans ((if_neg (Nat.not_lt.2 hp)).trans ((if_neg ho).trans (if_neg (by rw [hg]; decide))))

end

end

end

end

end

theorem settle_setWord (s : State) (f : FaceIx) (w : FaceWord) :
    (s.setWord f w).settle f = s.setWord f { w with state := w.rest (s.onString f) } := by
  unfold State.settle
  rw [setWord_word, setWord_setWord]
  rfl

/-- A supplied chain begun on a face that has none pending (R177). -/
theorem activate_eq (hp : s.fsc.words[f].pending = none) (ho : s.fsc.words[f].state ≠ .offline) : s.activate f rs = { s with
    fsc := { s.fsc with
      words := setAt s.fsc.words f { s.fsc.words[f] with
        active := some { body := .supplied rs 0 false, index := 0, seq := s.fsc.seqCount }, recordAged := false
        state := if s.onString f then .transfer else if s.fsc.words[f].waiting.isSome then .waitPage else .active }
      seqCount := s.fsc.seqCount + 1 } } := by
  have hword : ({ s.fsc.words[f] with
      active := some { body := .supplied rs 0 false, index := 0, seq := s.fsc.seqCount }, pending := none, recordAged := false } : FaceWord)
      = { s.fsc.words[f] with
          active := some { body := .supplied rs 0 false, index := 0, seq := s.fsc.seqCount }, recordAged := false } := by rw [← hp]
  unfold State.activate
  dsimp only
  rw [hword, settle_setWord]
  exact congrArg (fun x => s.issue.setWord f { s.fsc.words[f] with
    active := some { body := .supplied rs 0 false, index := 0, seq := s.fsc.seqCount }, recordAged := false, state := x }) (if_neg ho)

/-! ### HALT FACE, row by row (R178) -/

theorem haltFace_pending {rs : List SuppliedRecord} (h : s.fsc.words[f].pending = some rs) :
    s.haltFace f = (s.discardPending f .halted, endedAtOnce) := if_pos (by rw [h]; rfl)

section
variable (hp : s.fsc.words[f].pending = none)
include hp

theorem haltFace_none_pending : s.haltFace f = if s.fsc.words[f].suppliedActive then
      if s.drawing f then (s.setWord f { s.fsc.words[f] with active := s.fsc.words[f].active.map ActiveChain.requestHalt }, accepted)
      else (s.endChain f .halted, endedAtOnce)
    else (s, emptyResponse) := if_neg (by rw [hp]; decide)

theorem haltFace_nothing (hs : s.fsc.words[f].suppliedActive = false) : s.haltFace f = (s, emptyResponse) :=
  (haltFace_none_pending hp).trans (if_neg (by rw [hs]; decide))

section
variable {done i : Nat} {halt : Bool} {n : Count32} (hc : s.fsc.words[f].active = some { body := .supplied rs done halt, index := i, seq := n })
include hc

omit hp in
theorem supplied_of_active : s.fsc.words[f].suppliedActive = true := by
  unfold FaceWord.suppliedActive
  rw [hc]
  rfl

theorem haltFace_drawing (hd : s.drawing f = true) : s.haltFace f
    = (s.setWord f { s.fsc.words[f] with active := some { body := .supplied rs done true, index := i, seq := n } }, accepted) := by
  refine (haltFace_none_pending hp).trans ((if_pos (supplied_of_active hc)).trans ((if_pos hd).trans ?_))
  rw [hc]
  rfl

theorem haltFace_ends (hn : s.pfl.node ≠ .fallback) (hd : s.drawing f = false) :
    s.haltFace f = (suppliedEnded s f rs done .halted, endedAtOnce) := by
  refine (haltFace_none_pending hp).trans ((if_pos (supplied_of_active hc)).trans ((if_neg (by rw [hd]; decide)).trans ?_))
  rw [endChain_eq s f _ hn]
  unfold chainEnded
  rw [hc]

end

end

end

/-! ### The commands of a face (R210) -/

theorem faceByte (f : FaceIx) : f.val = (natByte f.val).toNat := (natByte_toNat (by omega)).symm

section
variable {s : State} (ht : s.hpt.transaction = none) (hn : s.pfl.node = .running)
include ht hn

section
variable {b : Byte} (hb : 31 < b.toNat)
include hb

theorem haltFace_invalid : exec (.haltFace [b]) s = .next (s.respond invalid) := by
  refine congrArg Host.Outcome.next ((hostCommand_running ht hn _ rfl _).trans ?_)
  rw [show indexOf 32 (byteAt [b] 0) = none from indexOf_none hb]

theorem releaseFace_invalid : exec (.releaseFace [b]) s = .next (s.respond invalid) := by
  refine congrArg Host.Outcome.next ((hostCommand_running ht hn _ rfl _).trans ?_)
  rw [show indexOf 32 (byteAt [b] 0) = none from indexOf_none hb]

theorem setFaceLanguage_invalid (l : Byte) : exec (.setFaceLanguage [b, l]) s = .next (s.respond invalid) := by
  refine congrArg Host.Outcome.next ((hostCommand_running ht hn _ rfl _).trans ?_)
  rw [show indexOf 32 (byteAt [b, l] 0) = none from indexOf_none hb]

theorem startFaceChain_invalid {params : List Byte} (hl : 2 ≤ params.length) (hc : params.length = 2 + 3 * (byteAt params 1).toNat)
    (h0 : byteAt params 0 = b) : exec (.startFaceChain params) s = .next (s.respond invalid) := by
  have hcounted : countedLength 3 params = true := Bool.and_eq_true_iff.2 ⟨decide_eq_true hl, beq_iff_eq.2 hc⟩
  refine congrArg Host.Outcome.next ((hostCommand_running ht hn _ hcounted _).trans ?_)
  rw [show indexOf 32 (byteAt params 0) = none from indexOf_none (h0 ▸ hb)]

end

section
variable (f : FaceIx)

theorem startFaceChain_eq {params : List Byte} (hc : params.length = 2 + 3 * (byteAt params 1).toNat) (h0 : byteAt params 0 = natByte f.val) :
    exec (.startFaceChain params) s = .next (
      if (readSuppliedList params).length ≤ 8 ∧ suppliedListOk (readSuppliedList params) = true then
        (s.startChain f (readSuppliedList params)).1.respond (s.startChain f (readSuppliedList params)).2
      else s.respond invalid) := by
  have hcounted : countedLength 3 params = true :=
    Bool.and_eq_true_iff.2 ⟨decide_eq_true (by rw [hc]; exact Nat.le_add_right 2 _), beq_iff_eq.2 hc⟩
  refine congrArg Host.Outcome.next ((hostCommand_running ht hn _ hcounted _).trans ?_)
  rw [show indexOf 32 (byteAt params 0) = some f from indexOf_some (h0 ▸ faceByte f), readSuppliedList_length]
  by_cases hok : (byteAt params 1).toNat ≤ 8 ∧ suppliedListOk (readSuppliedList params) = true
  · rw [if_pos hok]
    have hdecided : ((byteAt params 1).toNat ≤ Config.maxChain && suppliedListOk (readSuppliedList params)) = true :=
      Bool.and_eq_true_iff.2 ⟨decide_eq_true hok.1, hok.2⟩
    simp only [hdecided, if_true]
  · rw [if_neg hok]
    have hdecided : ((byteAt params 1).toNat ≤ Config.maxChain && suppliedListOk (readSuppliedList params)) = false :=
      Bool.eq_false_iff.2 fun h => hok ⟨of_decide_eq_true (Bool.and_eq_true_iff.1 h).1, (Bool.and_eq_true_iff.1 h).2⟩
    simp only [hdecided, Bool.false_eq_true, if_false]

theorem haltFace_disabled (h : s.fsc.words[f].address = none) : exec (.haltFace [natByte f.val]) s = .next (s.respond notOperational) := by
  refine congrArg Host.Outcome.next ((hostCommand_running ht hn _ rfl _).trans ?_)
  rw [show indexOf 32 (byteAt [natByte f.val] 0) = some f from indexOf_some (faceByte f)]
  dsimp only
  rw [if_pos (by rw [h]; rfl)]

theorem haltFace_eq {x : State × Response} (ha : s.fsc.words[f].address.isSome = true) (hx : s.haltFace f = x) :
    exec (.haltFace [natByte f.val]) s = .next (x.1.respond x.2) := by
  subst hx
  refine congrArg Host.Outcome.next ((hostCommand_running ht hn _ rfl _).trans ?_)
  rw [show indexOf 32 (byteAt [natByte f.val] 0) = some f from indexOf_some (faceByte f)]
  dsimp only
  rw [if_neg (not_disabled ha)]

theorem releaseFace_disabled (h : s.fcu.faces[f].config = none) : exec (.releaseFace [natByte f.val]) s = .next (s.respond notOperational) := by
  refine congrArg Host.Outcome.next ((hostCommand_running ht hn _ rfl _).trans ?_)
  rw [show indexOf 32 (byteAt [natByte f.val] 0) = some f from indexOf_some (faceByte f)]
  dsimp only
  rw [if_pos (by rw [h]; rfl)]

theorem releaseFace_eq (h : s.fcu.faces[f].config.isSome = true) :
    exec (.releaseFace [natByte f.val]) s = .next ((s.releaseHold f).respond accepted) := by
  refine congrArg Host.Outcome.next ((hostCommand_running ht hn _ rfl _).trans ?_)
  rw [show indexOf 32 (byteAt [natByte f.val] 0) = some f from indexOf_some (faceByte f)]
  dsimp only
  rw [if_neg fun h' => Option.isSome_iff_ne_none.1 h (Option.isNone_iff_eq_none.1 h')]

theorem setFaceLanguage_range {l : Byte} (hl : 15 < l.toNat) : exec (.setFaceLanguage [natByte f.val, l]) s = .next (s.respond invalid) := by
  refine congrArg Host.Outcome.next ((hostCommand_running ht hn _ rfl _).trans ?_)
  rw [show indexOf 32 (byteAt [natByte f.val, l] 0) = some f from indexOf_some (faceByte f)]
  dsimp only
  rw [if_pos (by exact hl)]

theorem setFaceLanguage_eq {l : Byte} {x : State × Response} (hl : l.toNat ≤ 15) (hx : s.setLanguage f l.toNat = x) :
    exec (.setFaceLanguage [natByte f.val, l]) s = .next (x.1.respond x.2) := by
  subst hx
  refine congrArg Host.Outcome.next ((hostCommand_running ht hn _ rfl _).trans ?_)
  rw [show indexOf 32 (byteAt [natByte f.val, l] 0) = some f from indexOf_some (faceByte f)]
  dsimp only
  rw [if_neg (by exact Nat.not_lt.2 hl)]
  rfl

end

end

/-! ### SET FACE LANGUAGE, row by row (R152) -/

section
variable {s : State} {f : FaceIx} {c : FaceConfig} (n : Nat)

theorem setLanguage_disabled (h : s.fcu.faces[f].config = none) : s.setLanguage f n = (s, notOperational) := by
  unfold State.setLanguage
  rw [h]

theorem setLanguage_sign (h : s.fcu.faces[f].config = some c) {langs : List Nat} {mode : SignMode} {ms : List (Fin 8)}
    (hk : c.kind = .sign langs mode ms) : s.setLanguage f n = (s, invalid) := by
  unfold State.setLanguage
  rw [h]
  exact if_pos (by unfold FaceConfig.isSign; rw [hk])

theorem setLanguage_door (h : s.fcu.faces[f].config = some c) {old page : Nat} {st : Fin 8} (hk : c.kind = .door old page st) :
    s.setLanguage f n
      = ((s.setFace f { s.fcu.faces[f] with config := some { c with kind := .door n page st } }).recomputeFace f, accepted) := by
  have hsign : c.isSign = false := by unfold FaceConfig.isSign; rw [hk]
  have hlang : c.withLanguage n = { c with kind := .door n page st } := by unfold FaceConfig.withLanguage; rw [hk]
  unfold State.setLanguage
  rw [h]
  dsimp only
  rw [hsign, hlang]
  rfl

end

end Sys2Proof.Machine
end

section
/-! PROOFS. The host's commands on faces: the statement (O55). -/

namespace Sys2Proof.Machine

/-- A command answered by its owner, with the state it leaves. -/
theorem answersBy {i : Instr} {s : State} {x : State × Response} {Q : State → Prop} (h : exec i s = .next (x.1.respond x.2))
    (hQ : Q (x.1.respond x.2)) : Completes (exec i s) Q := ⟨_, h, hQ⟩

theorem otherWords_setWord (s : State) (f : FaceIx) (w : FaceWord) : otherWords f s (s.setWord f w) :=
  ⟨fun _ hg => setAt_other _ _ _ _ (Ne.symm hg), rfl⟩

section
variable {s : State} (ht : s.hpt.transaction = none) (hn : s.pfl.node = .running)

/-- START FACE CHAIN with the fields of its list taken apart (R177). -/
theorem readSuppliedList_fields (params : List Byte) :
    let rs := readSuppliedList params
    let field : Nat → Nat := fun k => (byteAt params k).toNat
    rs.length = field 1 ∧ ∀ i, i < field 1 → rs[i]? = some
      { page := field (2 + 3 * i) * 256 + field (3 + 3 * i), chain := (byteAt params (4 + 3 * i)).getLsbD 0
        notify := (byteAt params (4 + 3 * i)).getLsbD 1, hold := (byteAt params (4 + 3 * i)).getLsbD 2 } :=
  ⟨readSuppliedList_length params, fun i hi => (readSuppliedList_getElem? hi).trans (congrArg some (readSupplied_eq params i))⟩

include ht hn

section
variable {f : FaceIx} {params : List Byte} (hc : params.length = 2 + 3 * (byteAt params 1).toNat) (h0 : byteAt params 0 = natByte f.val)
include hc h0

theorem startFaceChain_bad (hok : ¬ (1 ≤ (readSuppliedList params).length ∧ (readSuppliedList params).length ≤ 8 ∧ RecordsListed (readSuppliedList params))) :
    exec (.startFaceChain params) s = .next (s.respond invalid) := by
  rw [startFaceChain_eq ht hn f hc h0, if_neg]
  rw [suppliedListOk_iff]
  exact fun ⟨hlen, h1, hr⟩ => hok ⟨h1, hlen, hr⟩

theorem startFaceChain_row {x : State × Response} (hx : s.startChain f (readSuppliedList params) = x)
    (hok : 1 ≤ (readSuppliedList params).length ∧ (readSuppliedList params).length ≤ 8 ∧ RecordsListed (readSuppliedList params)) :
    exec (.startFaceChain params) s = .next (x.1.respond x.2) := by
  obtain ⟨h1, hlen, hr⟩ := hok
  rw [startFaceChain_eq ht hn f hc h0, if_pos ⟨hlen, (suppliedListOk_iff _).2 ⟨h1, hr⟩⟩, hx]

end

end

/-- Settles O55: the four commands out of range, then each by the rows of its table. -/
theorem faceCommandsByFirstRow : Obligations.FaceCommandsByFirstRow := by
  intro s f ht hn w face only noted stackedBy
  have hnf : s.pfl.node ≠ .fallback := by rw [hn]; decide
  refine ⟨fun b hb => ⟨answersOnly (r := invalid) (haltFace_invalid ht hn hb), answersOnly (r := invalid) (releaseFace_invalid ht hn hb),
    fun l => answersOnly (r := invalid) (setFaceLanguage_invalid ht hn hb l),
    fun params hl hc h0 => answersOnly (r := invalid) (startFaceChain_invalid ht hn hb hl hc h0)⟩, fun params hc h0 => ?_,
    fun ha => answersOnly (r := notOperational) (haltFace_disabled ht hn f ha),
    fun ha => ⟨fun rs hp => ?_, fun hp rs done halt i n ha' => ⟨fun hd => ?_, fun hd => ?_⟩, fun hp hs => ?_⟩,
    fun hconfig => ⟨answersOnly (r := notOperational) (releaseFace_disabled ht hn f hconfig), fun l hl => ?_⟩,
    fun l hl => answersOnly (r := invalid) (setFaceLanguage_range ht hn f hl), fun hconfig => ?_,
    fun c l hconfig hl => ⟨fun langs mode ms hk => ?_, fun old page st hk => ?_⟩⟩
  · refine ⟨readSuppliedList_fields params, ?_⟩
    intro ok i busyFace
    have hrow : ∀ {x : State × Response}, s.startChain f (readSuppliedList params) = x → ok → exec i s = .next (x.1.respond x.2) :=
      fun hx hok => startFaceChain_row ht hn hc h0 hx hok
    refine ⟨fun hok => answersOnly (r := invalid) (startFaceChain_bad ht hn hc h0 hok),
      fun hok ha => answersOnly (r := notOperational) (hrow (startChain_disabled ha) hok),
      fun hok ha hp => answersOnly (r := busy reasonMuster) (hrow (startChain_muster ha hp) hok),
      fun hok ha hq => ⟨fun hb => answersOnly (r := busy reasonFace) (hrow (startChain_busy ha hq hb) hok),
        fun hb hp => answersOnly (r := busy reasonPool) (hrow (startChain_pool ha hq hb hp) hok),
        fun hb hp => ⟨fun ho => ?_, fun ho hg => ?_, fun ho hg => ?_⟩⟩⟩
    · refine answersBy (hrow (startChain_offline ha hq hb hp ho) hok) ?_
      dsimp only
      rw [giveEnding_eq s f _ hnf]
      exact ⟨rfl, rfl, setAt_same _ _ _, otherWords_setWord _ f _, fun b hb => by cases b <;> first | rfl | exact absurd (by simp) hb⟩
    · exact answersBy (hrow (startChain_pending ha hq hb hp ho hg) hok) ⟨rfl, rfl, setAt_same _ _ _, otherWords_setWord s f _,
        fun b hb => by cases b <;> first | rfl | exact absurd (by simp) hb⟩
    · have hpending : s.fsc.words[f].pending = none := Option.not_isSome_iff_eq_none.1 fun h => hb (.inr (.inl h))
      refine answersBy (hrow (startChain_active ha hq hb hp ho hg) hok) ?_
      dsimp only
      rw [activate_eq hpending ho]
      exact ⟨rfl, rfl⟩
  · refine answersBy (haltFace_eq ht hn f ha (haltFace_pending hp)) ?_
    dsimp only
    rw [discardPending_cases hnf f .halted, hp]
    exact ⟨rfl, rfl, setAt_same _ _ _, otherWords_setWord s f _, rfl, fun b hb => by cases b <;> first | rfl | exact absurd (by simp) hb⟩
  · exact answersBy (haltFace_eq ht hn f ha (haltFace_drawing hp ha' hd)) ⟨rfl, rfl, setAt_same _ _ _, otherWords_setWord s f _,
      fun b hb => by cases b <;> first | rfl | exact absurd (by simp) hb⟩
  · exact answersBy (haltFace_eq ht hn f ha (haltFace_ends hp ha' hnf hd)) ⟨rfl, rfl⟩
  · exact answersOnly (r := emptyResponse) (haltFace_eq ht hn f ha (haltFace_nothing hp hs))
  · exact answersOnly (r := notOperational) (setFaceLanguage_eq ht hn f hl (setLanguage_disabled _ hconfig))
  · refine ⟨_, releaseFace_eq ht hn f hconfig, ?_⟩
    unfold State.releaseHold
    rw [recomputeFace_eq]
    exact ⟨rfl, rfl, setAt_same _ _ _, otherWords_setWord s f _, rfl, fun b hb => by cases b <;> first | rfl | exact absurd (by simp) hb⟩
  · exact answersOnly (r := invalid) (setFaceLanguage_eq ht hn f hl (setLanguage_sign _ hconfig hk))
  · refine answersBy (setFaceLanguage_eq ht hn f hl (setLanguage_door _ hconfig hk)) ?_
    dsimp only
    rw [recomputeFace_eq]
    exact ⟨rfl, rfl, setAt_same _ _ _, fun g hg => setAt_other _ _ _ _ (Ne.symm hg), rfl,
      fun b hb => by cases b <;> first | rfl | exact absurd (by simp) hb⟩

end Sys2Proof.Machine
end

section
/-! PROOFS. What the host loads and withdraws (O56), and the clock, muster and condition commands (O57). -/

namespace Sys2Proof.Machine

/-! ### A frame originated on both ports (R70, R72) -/

theorem originate_ring (s : State) (b : FloodBody) : floodKey b ∈ (s.originate b).dlc.ring := by
  unfold State.originate
  rw [placeBoth_ring]
  exact mem_enterKey _ _

theorem placeBoth_port (s : State) (fr : Frame) (q : Port) :
    ∃ n, (s.placeBoth fr).dlc.ports.get q = ((s.dlc.ports.get q).place .flood fr n).1 := by
  unfold State.placeBoth
  cases q with
  | da => exact ⟨_, (place_otherPort_same _ .db .da (by decide) .flood fr).trans (place_port .da .flood fr s)⟩
  | db =>
    refine ⟨(s.place .da .flood fr).dlc.stamp, (place_port .db .flood fr (s.place .da .flood fr)).trans ?_⟩
    rw [place_otherPort_same s .da .db (by decide) .flood fr]

theorem originate_port (s : State) (b : FloodBody) (q : Port) :
    ∃ n, (s.originate b).dlc.ports.get q = ((s.dlc.ports.get q).place .flood (s.ownFrame b) n).1 :=
  placeBoth_port (s.enterKey (floodKey b)) (s.ownFrame b) q

/-- A frame placed in the PROGRAMME queue stands last. -/
theorem placeQueue_last (q : List (Held Frame)) (flying : Bool) (fr : Frame) (n : Nat) :
    (placeQueue q flying fr n).1.getLast?.map (·.item) = some fr := by
  have hlast : ∀ l : List (Held Frame), (l ++ [({ item := fr, attempts := 0, pos := n } : Held Frame)]).getLast?.map (·.item) = some fr := fun l => by
    rw [List.getLast?_concat]
    rfl
  unfold placeQueue
  dsimp only
  split
  · exact hlast _
  · split
    · exact hlast (_ :: _)
    · exact hlast _
    · exact hlast _

/-- A CONDITION frame placed waits in one of the relay slots. -/
theorem placeRelay_waits (v : Vector (Slot Frame) 4) (c : ConditionBody) (fr : Frame) (n : Nat) :
    ∃ i : Fin 4, (placeRelay v c fr n).1[i].unsent.map (·.item) = some fr := by
  cases h : relaySlotFor v c with
  | some i =>
    rw [placeRelay_of_slot v c fr n h]
    exact ⟨i, congrArg (fun sl : Slot Frame => sl.unsent.map (·.item)) (setAt_same v i (v[i].place fr n))⟩
  | none =>
    rw [placeRelay_full v c fr n h]
    exact ⟨longestUnsent v, congrArg (fun sl : Slot Frame => sl.unsent.map (·.item)) (setAt_same v (longestUnsent v) _)⟩

theorem originate_programme (s : State) (g : ProgrammeBody) (q : Port) :
    ((s.originate (.programme g)).dlc.ports.get q).programme.getLast?.map (·.item) = some (s.ownFrame (.programme g)) := by
  obtain ⟨n, hport⟩ := originate_port s (.programme g) q
  rw [hport]
  exact placeQueue_last _ _ _ n

theorem originate_condition (s : State) (c : ConditionBody) (q : Port) : ∃ i : Fin 4,
    ((s.originate (.condition c)).dlc.ports.get q).condRelay[i].unsent.map (·.item) = some (s.ownFrame (.condition c)) := by
  obtain ⟨n, hport⟩ := originate_port s (.condition c) q
  rw [hport]
  exact placeRelay_waits _ c _ n

theorem originate_clock (s : State) (c : ClockBody) (q : Port) :
    ((s.originate (.clock c)).dlc.ports.get q).clock.unsent.map (·.item) = some (s.ownFrame (.clock c)) := by
  obtain ⟨n, hport⟩ := originate_port s (.clock c) q
  rw [hport]
  rfl

/-! ### An offer from the host (R139) -/

section
variable {s : State} (o : Offer) (target mask : Word)

theorem hostOffer_accepted (h : (s.offer o).2.accepted = true) : (s.hostOffer o target mask).1
    = (s.offer o).1.originate (.programme (programmeBody (s.offer o).1.pfl.profile.nodeId o target mask)) := if_pos h

theorem hostOffer_refused (h : (s.offer o).2.accepted = false) : (s.hostOffer o target mask).1 = (s.offer o).1 :=
  if_neg fun ha => Bool.noConfusion (h.symm.trans ha)

theorem hostOffer_outcome : (s.hostOffer o target mask).2 = (s.offer o).2 := rfl

theorem loadItem_eq : s.loadItem o target mask = ((s.hostOffer o target mask).1, offerResponse (s.offer o).2) := rfl

theorem offer_pfl : (s.offer o).1.pfl = s.pfl := (offer_within s o).same .pfl (by simp)

theorem offer_dlc : (s.offer o).1.dlc = s.dlc := (offer_within s o).same .dlc (by simp)

/-- The frame of an accepted offer waits last on both ports, its key in relay memory (R70, R139). -/
theorem hostOffer_sent (h : (s.offer o).2.accepted = true) :
    let body : ProgrammeBody := { origin := s.pfl.profile.nodeId, offer := o, target := target, mask := mask }
    .programme s.pfl.profile.nodeId o.id o.revision ∈ (s.hostOffer o target mask).1.dlc.ring
      ∧ ∀ q : Port, (((s.hostOffer o target mask).1.dlc.ports.get q).programme.getLast?.map (·.item))
        = some { hop := 0, sender := s.pfl.profile.nodeId, body := .programme body } := by
  rw [hostOffer_accepted o target mask h]
  have hbody : programmeBody (s.offer o).1.pfl.profile.nodeId o target mask
      = { origin := s.pfl.profile.nodeId, offer := o, target := target, mask := mask } := by
    rw [offer_pfl]
    rfl
  rw [hbody]
  refine ⟨originate_ring _ _, fun q => (originate_programme _ _ q).trans ?_⟩
  unfold State.ownFrame
  rw [offer_pfl]

/-- What the frame of an offer leaves as the offer left it. -/
theorem hostOffer_frame : Frame.only [.dlc, .hpt] (s.offer o).1 (s.hostOffer o target mask).1 := by
  cases h : (s.offer o).2.accepted with
  | true =>
    rw [hostOffer_accepted o target mask h]
    exact only_mono (originate_within _ _).same (by simp)
  | false =>
    rw [hostOffer_refused o target mask h]
    exact fun _ _ => Same.refl _ _

end

theorem loadItem_run {s : State} (ht : s.hpt.transaction = none) (hn : s.pfl.node = .running) {params : List Byte} (hl : params.length = 16) :
    exec (.loadItem params) s = .next (
      (s.loadItem (offerAt params 0 2 3 4 6 8 9 11) (wordAt params 12) (wordAt params 14)).1.respond
        (s.loadItem (offerAt params 0 2 3 4 6 8 9 11) (wordAt params 12) (wordAt params 14)).2) :=
  congrArg Host.Outcome.next (hostCommand_running ht hn _ (beq_iff_eq.2 hl) _)

theorem withdrawItem_run {s : State} (ht : s.hpt.transaction = none) (hn : s.pfl.node = .running) {params : List Byte} (hl : params.length = 6)
    {x : State × Response} (hx : s.withdrawItem (wordAt params 0).toNat (wordAt params 2) (wordAt params 4) = x) :
    exec (.withdrawItem params) s = .next (x.1.respond x.2) :=
  hx ▸ congrArg Host.Outcome.next (hostCommand_running ht hn _ (beq_iff_eq.2 hl) _)

section
variable {s : State} {id : Nat} (target mask : Word)

theorem withdrawItem_absent (h : s.plu.find id = none) : s.withdrawItem id target mask = (s, emptyResponse) := by
  unfold State.withdrawItem
  rw [h]

theorem withdrawItem_last {i : Item} (h : s.plu.find id = some i) (hr : i.revision = 255) :
    s.withdrawItem id target mask = (s, offerResponse (.heldRevision 255)) := by
  unfold State.withdrawItem
  rw [h]
  exact if_pos hr

theorem withdrawItem_loads {i : Item} (h : s.plu.find id = some i) (hr : i.revision ≠ 255) :
    s.withdrawItem id target mask = s.loadItem (withdrawal i) target mask := by
  unfold State.withdrawItem
  rw [h]
  exact if_neg hr

end

/-- Settles O56: an offer loaded, by its outcome; a withdrawal by what is held. -/
theorem loadAndWithdrawOfferAndOriginate : Obligations.LoadAndWithdrawOfferAndOriginate := by
  intro s params ht hn loads only
  have hloads : ∀ i o target mask, exec i s = .next ((s.loadItem o target mask).1.respond (s.loadItem o target mask).2) → loads i o target mask :=
    fun i o target mask hexec => by
      have hframe := hostOffer_frame (s := s) o target mask
      have hoffer := (offer_within s o).same
      have hstep := (respond_within (s.hostOffer o target mask).1 (offerResponse (s.offer o).2)).same
      have hdlc : (s.offer o).2.accepted = false → (s.hostOffer o target mask).1.dlc = s.dlc := fun h => by
        rw [hostOffer_refused o target mask h, offer_dlc]
      have hsent := hostOffer_sent (s := s) o target mask
      refine ⟨_, hexec, hframe .plu (by simp), hframe .handoffs (by simp), ?_, fun h => ?_, fun r h => ?_, fun h => ?_, fun h => ?_, fun h => ?_,
        fun h => ?_⟩
      · exact only_trans (only_trans (only_mono hoffer (by simp)) (only_mono hframe (by simp))) (only_mono hstep (by simp))
      all_goals rw [loadItem_eq, h]
      · exact ⟨rfl, hdlc (by rw [h]; rfl)⟩
      · exact ⟨rfl, hdlc (by rw [h]; rfl)⟩
      · exact ⟨rfl, hdlc (by rw [h]; rfl)⟩
      · exact ⟨rfl, hsent (by rw [h]; rfl)⟩
      · exact ⟨rfl, hsent (by rw [h]; rfl)⟩
      · exact ⟨rfl, hsent (by rw [h]; rfl)⟩
  refine ⟨fun hl => hloads _ _ _ _ (loadItem_run ht hn hl), fun hl => ⟨fun h => ?_, fun i h => ⟨fun hr => ?_, fun hr => ?_⟩⟩⟩
  · exact answersOnly (r := emptyResponse) (withdrawItem_run ht hn hl (withdrawItem_absent _ _ h))
  · exact answersOnly (r := offerResponse (.heldRevision 255)) (withdrawItem_run ht hn hl (withdrawItem_last _ _ h hr))
  · exact hloads _ _ _ _ (withdrawItem_run ht hn hl (withdrawItem_loads _ _ h hr))

end Sys2Proof.Machine
end

section
/-! PROOFS. The host's clock, muster and condition commands (O57). -/

namespace Sys2Proof.Machine

theorem natByte_of_toNat (b : Byte) : natByte b.toNat = b := by
  unfold natByte
  rw [BitVec.ofNat_toNat, BitVec.setWidth_eq]

theorem ofNat_word (w : Word) : BitVec.ofNat 16 w.toNat = w := by rw [BitVec.ofNat_toNat, BitVec.setWidth_eq]

/-! ### SET CLOCK (R132) -/

/-- The minute events of a clock that takes a new record, in RUNNING (R130). -/
theorem clockMoves_running {s : State} (hn : s.pfl.node = .running) (c : Sck) : (s.clockMoves c).handoffs = s.handoffs
    ++ (if s.sck.isSet = true ∧ s.sck.now = c.now then [] else
      [.minuteEventPlu (if s.sck.isSet then some s.sck.now else none) c.now, .minuteEventFcu (if s.sck.isSet then some s.sck.now else none) c.now]) := by
  have hold : s.sck.oldMinute = if s.sck.isSet then some s.sck.now else none := rfl
  by_cases h : s.sck.isSet = true ∧ s.sck.now = c.now
  · obtain ⟨hset, hnow⟩ := h
    rw [if_pos ⟨hset, hnow⟩, List.append_nil]
    exact clockMoves_still ((oldMinute_set hset).trans (congrArg some hnow))
  · have hmoves : s.sck.oldMinute ≠ some c.now := fun hm => by
      cases hset : s.sck.isSet with
      | true => exact h ⟨hset, Option.some.inj ((oldMinute_set hset).symm.trans hm)⟩
      | false => exact nomatch (oldMinute_unset hset).symm.trans hm
    rw [if_neg h, ← hold]
    exact (clockMoves_minute hmoves).trans (by rw [hn]; rfl)

theorem originate_clock_frame (s : State) (c : ClockBody) : Frame.only [.dlc] s (s.originate (.clock c)) :=
  fun b hb => by cases b <;> first | rfl | exact absurd (by simp) hb

section
variable {s : State} (ht : s.hpt.transaction = none) (hn : s.pfl.node = .running) {params : List Byte}
include ht hn

theorem setClock_run (hl : params.length = 4) {x : State × Response} (hx : s.setClockCommand params = x) :
    exec (.setClock params) s = .next (x.1.respond x.2) := hx ▸ congrArg Host.Outcome.next (hostCommand_running ht hn _ (beq_iff_eq.2 hl) _)

theorem setCondition_run (hl : params.length = 4) {x : State × Response} (hx : s.setCondition params = x) :
    exec (.setCondition params) s = .next (x.1.respond x.2) := hx ▸ congrArg Host.Outcome.next (hostCommand_running ht hn _ (beq_iff_eq.2 hl) _)

theorem raisePhase_run (hl : params.length = 2 + (byteAt params 1).toNat) {x : State × Response}
    (hx : s.raisePhase (byteAt params 0) (params.drop 2) = x) : exec (.raisePhase params) s = .next (x.1.respond x.2) := by
  have hcounted : countedLength 1 params = true := by
    unfold countedLength
    rw [Nat.one_mul]
    exact Bool.and_eq_true_iff.2 ⟨decide_eq_true (by rw [hl]; exact Nat.le_add_right 2 _), beq_iff_eq.2 hl⟩
  exact hx ▸ congrArg Host.Outcome.next (hostCommand_running ht hn _ hcounted _)

end

/-- The state with the host's setting adopted, before its frame is originated. -/
def State.clockSet (s : State) (day minute second : Nat) : State :=
  State.setClock { s with sck := { s.sck with counter := s.sck.counter + 1 } } s.pfl.profile.nodeId (s.sck.counter + 1) day minute second

section
variable (s : State) (day minute second : Nat)

theorem clockSet_frame : Frame.only [.sck, .handoffs] s (s.clockSet day minute second) := by
  refine only_trans (t := { s with sck := { s.sck with counter := s.sck.counter + 1 } }) ?_ (clockMoves_frame _ _)
  exact fun b hb => by cases b <;> first | rfl | exact absurd (by simp) hb

theorem clockSet_sck : (s.clockSet day minute second).sck
    = { isSet := true, day := day, minute := minute, second := second, lastOrigin := s.pfl.profile.nodeId, lastSeq := s.sck.counter + 1,
        timerRunning := true, counter := s.sck.counter + 1 } :=
  clockMoves_sck _ _

theorem setClockByHost_eq : s.setClockByHost day minute second = (s.clockSet day minute second).originate (.clock
    { origin := s.pfl.profile.nodeId, seq := s.sck.counter + 1, day := natByte day, minute := BitVec.ofNat 16 minute, second := natByte second }) :=
  rfl

end


/-! ### RAISE PHASE (R113) -/

theorem phaseOfCode_ne_quiet {code : Byte} {ph : Phase} (h : phaseOfCode code = some ph) : ph ≠ .quiet := by
  unfold phaseOfCode at h
  split at h <;> rintro rfl <;> exact nomatch h

/-- A zone list or a phase that RAISE PHASE does not take. -/
theorem raisePhase_bad {s : State} {code : Byte} {zones : List Byte}
    (h : phaseOfCode code = none ∨ 8 < zones.length ∨ ∃ z ∈ zones, z = 0 ∨ 63 < z.toNat) : s.raisePhase code zones = (s, invalid) := by
  unfold State.raisePhase
  cases hph : phaseOfCode code with
  | none => rfl
  | some ph =>
    refine if_pos ((h.resolve_left fun e => nomatch hph.symm.trans e).imp id fun ⟨z, hz, hbad⟩ => List.any_eq_true.2 ⟨z, hz, ?_⟩)
    rw [Bool.or_eq_true, beq_iff_eq, decide_eq_true_iff]
    exact hbad

theorem raisePhase_good {s : State} {code : Byte} {zones : List Byte} {ph : Phase}
    (h : ¬ (phaseOfCode code = none ∨ 8 < zones.length ∨ ∃ z ∈ zones, z = 0 ∨ 63 < z.toNat)) (hph : phaseOfCode code = some ph) :
    s.raisePhase code zones = (s.raise ph zones, accepted) := by
  unfold State.raisePhase
  rw [hph]
  refine if_neg fun hbad => h (.inr (hbad.imp id fun hany => ?_))
  obtain ⟨z, hz, hz'⟩ := List.any_eq_true.1 hany
  rw [Bool.or_eq_true, beq_iff_eq, decide_eq_true_iff] at hz'
  exact ⟨z, hz, hz'⟩

/-- The state with the raised phase adopted, before its ALARM is placed. -/
def State.raised (s : State) (ph : Phase) (zones : List Byte) : State := s.adopt (nextEpoch s.muc.epoch) ph s.pfl.profile.nodeId zones

section
variable (s : State) (ph : Phase) (zones : List Byte)

theorem nextEpoch_eq (e : Option Word) : nextEpoch e = match e with
    | some e => e + 1
    | none => 1 := by
  cases e <;> rfl

theorem raised_muc : (s.raised ph zones).muc
    = { epoch := some (nextEpoch s.muc.epoch), phase := ph, origin := s.pfl.profile.nodeId, zones := zones,
        standDown := if ph = .standDown then 60 else 0, repeatRunning := true, held := some ph } := rfl

theorem raised_handoffs : (s.raised ph zones).handoffs = s.handoffs ++ [.musterReportLgm, .musterReportFcu, .musterAdoptionFsc]
    ++ (if s.muc.held = some ph then [] else s.muc.held.toList.map Instr.releaseRequest ++ [.holdRequest ph]) := by
  rw [← holdRequests_eq, List.append_assoc]
  rfl

theorem raised_frame : Frame.only [.hpt, .muc, .handoffs] s (s.raised ph zones) :=
  fun b hb => by cases b <;> first | rfl | exact absurd (by simp) hb

end

/-! ### SET CONDITION (R44) -/

theorem setCondition_bad {s : State} {params : List Byte} (h : byteAt params 0 = 0 ∨ byteAt params 0 = 255 ∨ byteAt params 1 = 0
    ∨ byteAt params 1 = 255 ∨ byteAt params 0 = byteAt params 1) : s.setCondition params = (s, invalid) := by
  refine if_neg fun hg => ?_
  simp only [isNodeId, Bool.and_eq_true, bne_iff_ne] at hg
  obtain ⟨⟨⟨h1, h2⟩, h3, h4⟩, h5⟩ := hg
  rcases h with h | h | h | h | h
  · exact h1 h
  · exact h2 h
  · exact h3 h
  · exact h4 h
  · exact h5 h

/-- The report of the host. -/
def State.hostReport (s : State) (params : List Byte) : ConditionBody :=
  hostCondition s.pfl.profile.nodeId (s.lgm.condSeq + 1) params

/-- The state with the host's report applied, before its frame is originated. -/
def State.conditionSet (s : State) (params : List Byte) : State := s.nextCondSeq.applyCondition (s.hostReport params)

theorem setCondition_good {s : State} {params : List Byte} (h : ¬ (byteAt params 0 = 0 ∨ byteAt params 0 = 255 ∨ byteAt params 1 = 0
    ∨ byteAt params 1 = 255 ∨ byteAt params 0 = byteAt params 1)) :
    s.setCondition params = ((s.conditionSet params).originate (.condition (s.hostReport params)), accepted) := by
  simp only [not_or] at h
  obtain ⟨h1, h2, h3, h4, h5⟩ := h
  refine if_pos ?_
  simp only [isNodeId, Bool.and_eq_true, bne_iff_ne]
  exact ⟨⟨⟨h1, h2⟩, h3, h4⟩, h5⟩

end Sys2Proof.Machine
end

section
/-! PROOFS. The host's clock, muster and condition commands: the statement (O57). -/

namespace Sys2Proof.Machine

/-- The two ends of the host's report differ, so a leg is met exactly by one end here and the other at its neighbour. -/
theorem meetsLeg_hostReport {s : State} {params : List Byte} (h : byteAt params 0 ≠ byteAt params 1) (r : LegRecord) :
    meetsLeg s.pfl.profile.nodeId (s.hostReport params) r = r.fixed.any (fun f =>
      ((s.hostReport params).end1 == s.pfl.profile.nodeId && (s.hostReport params).end2 == f.neighbour)
        || ((s.hostReport params).end2 == s.pfl.profile.nodeId && (s.hostReport params).end1 == f.neighbour)) := by
  have hne : ((s.hostReport params).end1 != (s.hostReport params).end2) = true := bne_iff_ne.2 h
  unfold meetsLeg
  rw [hne]
  rfl

/-- What the host's report makes of a leg it meets. -/
def LegRecord.hostApplied (s : State) (params : List Byte) (r : LegRecord) : LegRecord := s.evaluated { r with
  remoteDoor := (s.hostReport params).doorClosed, smoke := (s.hostReport params).smoke
  crowd := if (s.hostReport params).crowdValid then min 7 (byteAt params 3).toNat else r.crowd
  crowdRunning := (s.hostReport params).crowdValid || r.crowdRunning }

theorem reported_hostReport (s : State) (params : List Byte) (r : LegRecord) : reported (s.hostReport params) s.nextCondSeq r
    = if meetsLeg s.pfl.profile.nodeId (s.hostReport params) r then r.hostApplied s params else r := by
  have hcrowd : (s.hostReport params).crowd.toNat = min 7 (byteAt params 3).toNat := natByte_toNat (by unfold clampCrowd; omega)
  have hmin : min 7 (min 7 (byteAt params 3).toNat) = min 7 (byteAt params 3).toNat := by omega
  unfold reported LegRecord.hostApplied
  rw [applyReport_eq, hcrowd, hmin]
  rfl

section
variable (s : State) (params : List Byte) {meets : LegRecord → Bool}
  (hmeets : ∀ r, meetsLeg s.pfl.profile.nodeId (s.hostReport params) r = meets r)

theorem conditionSet_frame : Frame.only [.lgm, .handoffs] s (s.conditionSet params) := by
  obtain ⟨-, -, -, -, hframe⟩ := applyCondition_legs s.nextCondSeq (s.hostReport params)
  exact only_trans (t := s.nextCondSeq) (fun b hb => by cases b <;> first | rfl | exact absurd (by simp) hb) hframe

theorem conditionSet_condSeq : (s.conditionSet params).lgm.condSeq = s.lgm.condSeq + 1 := (applyCondition_legs s.nextCondSeq _).2.1

theorem conditionSet_doors : (s.conditionSet params).lgm.doors = s.lgm.doors := (applyCondition_legs s.nextCondSeq _).2.2.1

include hmeets

theorem conditionSet_legs (l : LegIx) : (s.conditionSet params).lgm.legs[l]
    = if meets s.lgm.legs[l] then s.lgm.legs[l].hostApplied s params else s.lgm.legs[l] := by
  obtain ⟨hlegs, -⟩ := applyCondition_legs s.nextCondSeq (s.hostReport params)
  rw [← hmeets]
  exact (hlegs l).trans (reported_hostReport s params _)

theorem conditionSet_handoffs : (s.conditionSet params).handoffs = s.handoffs ++ (indices 6).filterMap (fun l =>
    if meets s.lgm.legs[l] then (legChange l s.lgm.legs[l] (s.lgm.legs[l].hostApplied s params)).map Instr.legReport else none) := by
  obtain ⟨-, -, -, hreports, -⟩ := applyCondition_legs s.nextCondSeq (s.hostReport params)
  refine hreports.trans (congrArg (s.handoffs ++ ·) (filterMap_same fun l _ => ?_))
  rw [reported_hostReport, hmeets, show s.nextCondSeq.lgm.legs[l] = s.lgm.legs[l] from rfl]
  by_cases hm : meets s.lgm.legs[l] = true
  · rw [if_pos hm, if_pos hm]
  · rw [if_neg hm, if_neg hm, legChange_self]
    rfl

end

/-- What originating the host's report keeps of the state that has applied it. -/
theorem conditionSent_keeps (s : State) (params : List Byte) :
    Frame.only [.dlc, .hpt] (s.conditionSet params) ((s.conditionSet params).originate (.condition (s.hostReport params))) :=
  (originate_within _ _).same

/-- Settles O57: each command refused out of range, and else adopted with its frame originated. -/
theorem clockMusterAndConditionCommands : Obligations.ClockMusterAndConditionCommands := by
  intro s params ht hn me b invalidly
  refine ⟨fun hl => ?_, fun hl => ?_, fun hl => ?_⟩
  · intro minute second
    refine ⟨fun hbad => answersOnly (r := invalid) (setClock_run ht hn hl (if_pos hbad)), fun hm hs => ?_⟩
    have hgood : s.setClockCommand params = (s.setClockByHost (b 0).toNat minute second, accepted) :=
      if_neg fun h => h.elim (Nat.not_lt.2 hm) (Nat.not_lt.2 hs)
    have hbody : s.setClockByHost (b 0).toNat minute second = (s.clockSet (b 0).toNat minute second).originate (.clock
        { origin := me, seq := s.sck.counter + 1, day := b 0, minute := wordAt params 1, second := b 3 }) := by
      rw [setClockByHost_eq, natByte_of_toNat, ofNat_word, natByte_of_toNat]
    have hset := clockSet_frame s (b 0).toNat minute second
    have hsent := originate_clock_frame (s.clockSet (b 0).toNat minute second)
      { origin := me, seq := s.sck.counter + 1, day := b 0, minute := wordAt params 1, second := b 3 }
    refine ⟨_, setClock_run ht hn hl hgood, ?_⟩
    beta_reduce
    intro n old new body
    dsimp only
    rw [hbody]
    refine ⟨rfl, congrArg (fun h : Hpt => ({ h with transaction := _ } : Hpt)) (Eq.trans (hsent .hpt (by simp)) (hset .hpt (by simp))),
      Eq.trans (hsent .sck (by simp)) (clockSet_sck s _ _ _), Eq.trans (hsent .handoffs (by simp)) (clockMoves_running (by exact hn) _),
      originate_ring _ _, fun q => (originate_clock _ _ q).trans ?_, ?_⟩
    · unfold State.ownFrame
      rw [hset .pfl (by simp)]
    · exact only_trans (only_trans (only_mono hset (by simp)) (only_mono hsent (by simp))) (only_mono (respond_within _ _).same (by simp))
  · intro zones bad
    refine ⟨fun hbad => answersOnly (r := invalid) (raisePhase_run ht hn hl (raisePhase_bad hbad)), fun ph hgood hph => ?_⟩
    have hq : (s.raised ph zones).muc.phase ≠ .quiet := phaseOfCode_ne_quiet hph
    have he : (s.raised ph zones).muc.epoch = some (nextEpoch s.muc.epoch) := rfl
    have hsent := placeAlarm_frame he hq
    have hwaits := placeAlarm_waits he hq
    refine ⟨_, raisePhase_run ht hn hl (raisePhase_good hgood hph), ?_⟩
    beta_reduce
    intro epoch body
    have hepoch : nextEpoch s.muc.epoch = epoch := nextEpoch_eq _
    refine ⟨rfl, congrArg (fun h : Hpt => ({ h with transaction := _ } : Hpt)) (hsent .hpt (by simp)),
      Eq.trans (hsent .muc (by simp)) ((raised_muc s ph zones).trans ?_), Eq.trans (hsent .handoffs (by simp)) (raised_handoffs s ph zones),
      placeAlarm_ring he hq, fun q => (hwaits q).2.trans ?_, ?_⟩
    · rw [hepoch]
    · rw [hepoch]
      rfl
    · exact only_trans (only_trans (only_mono (raised_frame s ph zones) (by simp)) (only_mono hsent (by simp))) (only_mono (respond_within _ _).same (by simp))
  · intro bad
    refine ⟨fun hbad => answersOnly (r := invalid) (setCondition_run ht hn hl (setCondition_bad hbad)), fun hgood => ?_⟩
    have hends : byteAt params 0 ≠ byteAt params 1 := fun h => hgood (.inr (.inr (.inr (.inr h))))
    have hset := conditionSet_frame s params
    have hsent := conditionSent_keeps s params
    have hring := originate_ring (s.conditionSet params) (.condition (s.hostReport params))
    have hports := originate_condition (s.conditionSet params) (s.hostReport params)
    refine ⟨_, setCondition_run ht hn hl (setCondition_good hgood), ?_⟩
    generalize (s.conditionSet params).originate (.condition (s.hostReport params)) = u at hsent hring hports
    have hlgm : u.lgm = (s.conditionSet params).lgm := hsent .lgm (by simp)
    have hhandoffs : u.handoffs = (s.conditionSet params).handoffs := hsent .handoffs (by simp)
    intro n c meets applied
    have hmeets : ∀ r, meetsLeg s.pfl.profile.nodeId (s.hostReport params) r = meets r := meetsLeg_hostReport hends
    refine ⟨rfl, (congrArg Lgm.condSeq hlgm).trans (conditionSet_condSeq s params), (congrArg Lgm.doors hlgm).trans (conditionSet_doors s params),
      fun l => (congrArg (fun g : Lgm => g.legs[l]) hlgm).trans (conditionSet_legs s params hmeets l),
      hhandoffs.trans (conditionSet_handoffs s params hmeets), hring, fun q => ?_, ?_⟩
    · obtain ⟨i, hi⟩ := hports q
      have hpfl : (s.conditionSet params).pfl = s.pfl := hset .pfl (by simp)
      refine ⟨i, hi.trans ?_⟩
      unfold State.ownFrame
      rw [hpfl]
      rfl
    · exact only_trans (only_trans (only_mono hset (by simp)) (only_mono hsent (by simp))) (only_mono (respond_within _ _).same (by simp))

end Sys2Proof.Machine
end

section
/-! PROOFS. The Profile Loader: the start, the profile read's end and FALLBACK's picture (O60). -/

namespace Sys2Proof.Machine

/-! ### The sum of a profile (R223) -/

theorem wordAt_cons_cons (x y : Byte) (b : List Byte) (k : Nat) : wordAt (x :: y :: b) (k + 2) = wordAt b k := rfl

theorem wordSum_toNat (n : Nat) : ∀ b : List Byte, 2 * n ≤ b.length →
    (wordSum n b).toNat = ((List.range n).map (fun k => (wordAt b (2 * k)).toNat)).sum % 65536 := by
  induction n with
  | zero => exact fun b _ => rfl
  | succ n ih =>
    intro b hb
    match b, hb with
    | [], hb => exact absurd hb (by simp)
    | [x], hb =>
      simp only [List.length_singleton] at hb
      omega
    | x :: y :: rest, hb =>
      have hrest : 2 * n ≤ rest.length := by
        simp only [List.length_cons] at hb
        omega
      have hstep : ∀ k : Nat, wordAt (x :: y :: rest) (2 * (k + 1)) = wordAt rest (2 * k) := fun k => wordAt_cons_cons x y rest (2 * k)
      have hfirst : wordAt (x :: y :: rest) (2 * 0) = x ++ y := rfl
      show ((x ++ y) + wordSum n rest).toNat = _
      rw [BitVec.toNat_add, ih rest hrest, List.range_succ_eq_map, List.map_cons, List.map_map, List.sum_cons, hfirst]
      simp only [Function.comp_def, Nat.succ_eq_add_one, hstep, Nat.add_mod_mod]

theorem profilePasses_iff {b : List Byte} (h : b.length = 2048) : profilePasses b = true ↔
    ((List.range 1023).map (fun k => (wordAt b (2 * k)).toNat)).sum % 65536 = (wordAt b 2046).toNat ∧ byteAt b 0 ≠ 0 ∧ byteAt b 0 ≠ 255 := by
  unfold profilePasses
  rw [Bool.and_eq_true, Bool.and_eq_true, beq_iff_eq, bne_iff_ne, bne_iff_ne, and_assoc, ← wordSum_toNat 1023 b (by rw [h]; decide),
    BitVec.toNat_inj] <;> rfl

/-! ### The end of the profile read (R222 to R225) -/

section
variable {s : State} (hn : s.pfl.node = .starting) (hr : s.pfl.reading = true)
include hn hr

theorem reading_of_starting : s.readingProfile = true := by
  unfold State.readingProfile
  rw [hn, hr]
  rfl

theorem profileReadEnd_passes {bytes : List Byte} (h : profilePasses bytes = true) :
    exec (.profileReadEnd (some bytes)) s = .next (s.enterRunning bytes) := by
  refine congrArg Host.Outcome.next ((if_pos (reading_of_starting hn hr)).trans ?_)
  rw [Option.filter_some_pos h]

theorem profileReadEnd_fails {memory : Option (List Byte)} (h : memory.filter profilePasses = none) :
    exec (.profileReadEnd memory) s = .next (s.enterFallback (fallbackId memory)) := by
  refine congrArg Host.Outcome.next ((if_pos (reading_of_starting hn hr)).trans ?_)
  rw [h]

theorem profileFrameNotReady_eq (memory : Option (List Byte)) :
    exec (.profileFrameNotReady memory) s = .next (s.enterFallback (fallbackId memory)) :=
  congrArg Host.Outcome.next (if_pos (reading_of_starting hn hr))

end

theorem headD_eq_byteAt {b : List Byte} (h : b.length = 2048) : b.headD 0 = byteAt b 0 := by
  cases b with
  | nil => exact absurd h (by decide)
  | cons x b => rfl

theorem enterFallback_frame (s : State) (id : Byte) :
    Frame.only [.pfl, .dlc, .fcu, .fsc, .pca, .plu, .muc, .hpt, .handoffs] s (s.enterFallback id) :=
  fun b hb => by cases b <;> first | rfl | exact absurd (by simp) hb

/-! ### The picture of FALLBACK (R225) -/

theorem fallbackPageReadEnd_eq {s : State} (h : s.pfl.page5Reading = true) (frame : Option (List Byte)) :
    exec (.fallbackPageReadEnd frame) s
      = .next { s with pfl := { s.pfl with page5Reading := false, broadcast := some (fallbackBytes (readPage frame)) } } :=
  congrArg Host.Outcome.next (if_pos h)

/-- The bytes of a picture broadcast to every face. -/
theorem drawBytes_broadcast (n : Nat) (page : List Byte) :
    drawBytes 255 { content := .picture n, chain := false, phase := .quiet, language := 0 } page
      = withCheck ([255, 1, 6, 0, 0, 0, 0, 0, 0, 0, 0, 0, 0] ++ natBytes2 n ++ natBytes2 page.length ++ page) := by
  have hhead : [255, 1, natByte 6, natByte (flagBit false 0 + flagBit false 1 + flagBit false 2), natByte 0, natByte 0, 0, natByte 0, natByte 0,
      natByte 0] ++ natBytes2 0 ++ [natByte 0] = [(255 : Byte), 1, 6, 0, 0, 0, 0, 0, 0, 0, 0, 0, 0] := by decide
  rw [← hhead]
  rfl

theorem fallbackBytes_blank : fallbackBytes none = withCheck ([255, 1, 6, 0, 0, 0, 0, 0, 0, 0, 0, 0, 0] ++ [0, 0, 0, 0]) := congrArg withCheck rfl

theorem fallbackBytes_page (page : List Byte) : fallbackBytes (some page)
    = withCheck ([255, 1, 6, 0, 0, 0, 0, 0, 0, 0, 0, 0, 0] ++ [0, 5] ++ natBytes2 page.length ++ page) := by
  have hpage : natBytes2 5 = [0, 5] := by decide
  rw [← hpage]
  exact drawBytes_broadcast 5 page

theorem readPage_bad {frame : List Byte} (h : ¬ headerGood (byteAt frame 0) (byteAt frame 2) (byteAt frame 3) = true) :
    readPage (some frame) = none := if_neg h

theorem readPage_good {frame : List Byte} (h : headerGood (byteAt frame 0) (byteAt frame 2) (byteAt frame 3) = true) :
    readPage (some frame) = some (frame.take (wordAt frame 2).toNat) := if_pos h

theorem frame_pfl (s : State) (p : Pfl) : Frame.only [.pfl] s { s with pfl := p } :=
  fun b hb => by cases b <;> first | rfl | exact absurd (by simp) hb

/-- Settles O60: START, the ends of the profile read, and the broadcast of FALLBACK. -/
theorem startProfileReadAndFallback : Obligations.StartProfileReadAndFallback := by
  intro s fallsBack
  have hfalls : ∀ i id, exec i s = .next (s.enterFallback id) → fallsBack i id := fun i id h =>
    ⟨_, h, rfl, rfl, rfl, rfl, rfl, rfl, rfl, rfl, rfl, enterFallback_frame s id⟩
  refine ⟨⟨_, rfl, fun l => tabulate_get _ l, rfl⟩, fun hn hr => ⟨hfalls _ _ (profileReadEnd_fails hn hr rfl),
    hfalls _ _ (profileFrameNotReady_eq hn hr none), fun bytes hl => ?_, fun bytes => hfalls _ _ (profileFrameNotReady_eq hn hr (some bytes))⟩,
    fun h5 => ?_⟩
  · intro sum good
    have hpasses : profilePasses bytes = true ↔ good := profilePasses_iff hl
    refine ⟨fun hg => ⟨_, profileReadEnd_passes hn hr (hpasses.2 hg), rfl, rfl, ?_⟩, fun hg => ?_⟩
    · exact fun b hb => by cases b <;> first | rfl | exact absurd (by simp) hb
    · have hfails : (some bytes).filter profilePasses = none := Option.filter_some_neg (Bool.eq_false_iff.2 fun h => hg (hpasses.1 h))
      rw [← headD_eq_byteAt hl]
      exact hfalls _ _ (profileReadEnd_fails hn hr hfails)
  · intro shows head
    have hshows : ∀ frame record, fallbackBytes (readPage frame) = withCheck record → shows frame record := fun frame record h =>
      ⟨_, fallbackPageReadEnd_eq h5 frame, by rw [h], frame_pfl s _⟩
    refine ⟨hshows none _ fallbackBytes_blank, fun frame hl => ?_⟩
    intro length
    refine ⟨fun hbad => hshows _ _ ?_, fun h0 h4 h512 => hshows _ _ ?_⟩
    · rw [readPage_bad]
      · exact fallbackBytes_blank
      · rw [headerGood_iff]
        rintro ⟨hm, hlow, hhigh⟩
        rcases hbad with h | h | h
        · exact h hm
        · exact absurd hlow (Nat.not_le.2 h)
        · exact absurd hhigh (Nat.not_le.2 h)
    · have htake : (frame.take length).length = length := by rw [List.length_take, hl, Nat.min_eq_left h512]
      rw [readPage_good ((headerGood_iff _ _ _).2 ⟨h0, h4, h512⟩), fallbackBytes_page]
      rw [show (frame.take (wordAt frame 2).toNat).length = length from htake]

end Sys2Proof.Machine
end

section
/-! PROOFS. The Profile Loader: the fields of the profile, their ranges, the legs and the faces (O59). -/

namespace Sys2Proof.Machine

/-! ### Bytes of a part of a list -/

theorem byteAt_drop (b : List Byte) (n k : Nat) : byteAt (b.drop n) k = byteAt b (n + k) := by
  unfold byteAt
  rw [List.getD_eq_getElem?_getD, List.getD_eq_getElem?_getD, List.getElem?_drop]

theorem byteAt_take {b : List Byte} {n k : Nat} (h : k < n) : byteAt (b.take n) k = byteAt b k := by
  unfold byteAt
  rw [List.getD_eq_getElem?_getD, List.getD_eq_getElem?_getD, List.getElem?_take_of_lt h]

/-- Within a list a missing byte does not occur, so what it would read as does not matter. -/
theorem getD_eq_byteAt {b : List Byte} {n k : Nat} (hb : b.length = n) (h : k < n) : b[k]?.getD 0 = byteAt b k := by
  have hk : k < b.length := hb ▸ h
  unfold byteAt
  rw [List.getD_eq_getElem?_getD, List.getElem?_eq_getElem hk]
  rfl

/-- A byte is a number below 256 when its value is. -/
theorem byte_eq_ofNat_iff {x : Byte} {n : Nat} (h : n < 256) : x = BitVec.ofNat 8 n ↔ x.toNat = n := by
  rw [← BitVec.toNat_inj, BitVec.toNat_ofNat, Nat.mod_eq_of_lt h]

/-- 0 and 255 are no node and no string address (R224). -/
theorem unusedByte_iff (x : Byte) : (x = 0#8 ∨ x = 255#8) ↔ x.toNat = 0 ∨ x.toNat = 255 := by
  rw [byte_eq_ofNat_iff (by omega), byte_eq_ofNat_iff (by omega)]

/-- The entries of a list field: each byte brought below a largest value (R224). -/
def profileItems (b : List Byte) (k count high : Nat) : List Nat :=
  (List.range count).map (fun i => min high (byteAt b (k + i)).toNat)

theorem readDests_val (b : List Byte) (k count : Nat) : (readDests b k count).map (·.val) = profileItems b k count 63 := by
  unfold readDests profileItems
  rw [List.map_map]
  exact List.map_congr_left fun i _ => min_comm _ _

theorem readStations_val (b : List Byte) (k count : Nat) : (readStations b k count).map (·.val) = profileItems b k count 7 := by
  unfold readStations profileItems
  rw [List.map_map]
  exact List.map_congr_left fun i _ => min_comm _ _

/-- The entries of a list field that lies within 2048 bytes, as the statement reads them. -/
theorem items_eq_profileItems {b : List Byte} (hb : b.length = 2048) {k count high : Nat} (h : k + count ≤ 2048) :
    (List.range count).map (fun i => min high (b[k + i]?.getD 0).toNat) = profileItems b k count high :=
  List.map_congr_left fun i hi => by
    rw [getD_eq_byteAt hb (by have := List.mem_range.mp hi; omega)]

/-! ### The legs -/

/-- A leg's seven bytes hold a field that allows no value (R224). -/
def LegBytesBad (d : List Byte) : Prop :=
  (byteAt d 0).toNat = 0 ∨ (byteAt d 0).toNat = 255 ∨ 1 < (byteAt d 1).toNat ∨ (byteAt d 2).toNat = 0 ∨ 63 < (byteAt d 2).toNat
    ∨ (byteAt d 3).toNat = 0 ∨ 6 < (byteAt d 3).toNat

theorem portOfCode_eq (c : Byte) :
    portOfCode c = if c.toNat = 0 then some .da else if c.toNat = 1 then some .db else none := by
  unfold portOfCode
  split
  next h => rw [if_pos h]
  next h => rw [if_neg (by omega), if_pos h]
  next h0 h1 => rw [if_neg h0, if_neg h1]

theorem legKindOfCode_eq (c : Byte) (h : c.toNat ≠ 0) :
    legKindOfCode c = [LegKind.corridor, .doorway, .outerDeck, .lift, .stairDown, .stairUp][c.toNat - 1]? := by
  unfold legKindOfCode
  split
  case h_7 h1 h2 h3 h4 h5 h6 =>
    simp only [imp_false] at h1 h2 h3 h4 h5 h6
    have hlen : 6 ≤ c.toNat - 1 := by omega
    exact (List.getElem?_eq_none hlen).symm
  all_goals (next hc => rw [hc]; rfl)

theorem legKindOfCode_none {c : Byte} (h : c.toNat = 0 ∨ 6 < c.toNat) : legKindOfCode c = none := by
  unfold legKindOfCode
  split
  case h_7 => rfl
  all_goals (next hc => omega)

theorem readLegConfig_bad {d : List Byte} (h : LegBytesBad d) : readLegConfig d = none := by
  unfold readLegConfig
  dsimp only
  split
  next port kind hport hkind =>
    rw [portOfCode_eq] at hport
    have hp : ¬ 1 < (byteAt d 1).toNat := fun hgt => by
      rw [if_neg (by omega), if_neg (by omega)] at hport
      exact nomatch hport
    have hk : ¬ ((byteAt d 3).toNat = 0 ∨ 6 < (byteAt d 3).toNat) := fun hbad => by
      rw [legKindOfCode_none hbad] at hkind
      exact nomatch hkind
    refine if_pos ?_
    rw [← or_assoc, unusedByte_iff]
    unfold LegBytesBad at h
    omega
  next => rfl

theorem readLegConfig_good {d : List Byte} {kind : LegKind} (h : ¬ LegBytesBad d)
    (hkind : [LegKind.corridor, .doorway, .outerDeck, .lift, .stairDown, .stairUp][(byteAt d 3).toNat - 1]? = some kind) :
    readLegConfig d = some
      { port := if (byteAt d 1).toNat = 0 then .da else .db, neighbour := byteAt d 0, farZone := byteAt d 2, kind := kind,
        length := clampTo 1 1023 (wordAt d 4).toNat, doorUsed := (byteAt d 6).getLsbD 0 } := by
  unfold LegBytesBad at h
  have hport : portOfCode (byteAt d 1) = some (if (byteAt d 1).toNat = 0 then .da else .db) := by
    rw [portOfCode_eq]
    by_cases h0 : (byteAt d 1).toNat = 0
    · rw [if_pos h0, if_pos h0]
    · rw [if_neg h0, if_neg h0, if_pos (by omega)]
  unfold readLegConfig
  dsimp only
  rw [hport, legKindOfCode_eq _ (by omega), hkind]
  refine if_neg ?_
  rw [← or_assoc, unusedByte_iff]
  omega

/-! ### One face -/

/-- A face's 32 bytes give each of its fields a value it allows (R224). -/
def FaceBytesGood (d : List Byte) : Prop :=
  (byteAt d 1).toNat ≠ 0 ∧ (byteAt d 1).toNat ≠ 255
    ∧ (((byteAt d 0).toNat = 1 ∧ ((byteAt d 2).toNat = 1 ∨ (byteAt d 2).toNat = 2)) ∨ (byteAt d 0).toNat = 2)

theorem readMode_wayfind {d : List Byte} (h : (byteAt d 2).toNat = 1) :
    readMode d = some (.wayfind (readDests d 14 (min 4 (byteAt d 13).toNat))) := by
  unfold readMode
  simp only [h]

theorem readMode_programme {d : List Byte} (h : (byteAt d 2).toNat = 2) : readMode d = some (.programme (readVenues d)) := by
  unfold readMode
  simp only [h]

theorem readMode_isSome (d : List Byte) : (readMode d).isSome = true ↔ (byteAt d 2).toNat = 1 ∨ (byteAt d 2).toNat = 2 := by
  unfold readMode
  split
  next h => exact iff_of_true rfl (.inl h)
  next h => exact iff_of_true rfl (.inr h)
  next h1 h2 => exact iff_of_false (nomatch ·) (not_or.mpr ⟨h1, h2⟩)

theorem readFaceKind_sign {d : List Byte} (h : (byteAt d 0).toNat = 1) :
    readFaceKind d = (readMode d).map (fun m =>
      .sign (readLanguages d (clampTo 1 3 (byteAt d 3).toNat)) m (readStations d 28 (min 4 (byteAt d 27).toNat))) := by
  unfold readFaceKind
  simp only [h]

theorem readFaceKind_door {d : List Byte} (h : (byteAt d 0).toNat = 2) :
    readFaceKind d = some (.door (min 15 (byteAt d 4).toNat) (readCabinPage d) (clampIx 8 (by omega) (byteAt d 16).toNat)) := by
  unfold readFaceKind
  simp only [h]

theorem readFaceKind_other {d : List Byte} (h1 : (byteAt d 0).toNat ≠ 1) (h2 : (byteAt d 0).toNat ≠ 2) : readFaceKind d = none := by
  unfold readFaceKind
  split
  next h => exact absurd h h1
  next h => exact absurd h h2
  next => rfl

theorem readFaceKind_isSome (d : List Byte) : (readFaceKind d).isSome = true ↔
    ((byteAt d 0).toNat = 1 ∧ ((byteAt d 2).toNat = 1 ∨ (byteAt d 2).toNat = 2)) ∨ (byteAt d 0).toNat = 2 := by
  by_cases h1 : (byteAt d 0).toNat = 1
  · rw [readFaceKind_sign h1, Option.isSome_map, readMode_isSome]
    omega
  · by_cases h2 : (byteAt d 0).toNat = 2
    · rw [readFaceKind_door h2]
      exact iff_of_true rfl (.inr h2)
    · rw [readFaceKind_other h1 h2]
      exact iff_of_false (nomatch ·) (by omega)

theorem readFaceConfig_isSome (d : List Byte) : (readFaceConfig d).isSome = true ↔ FaceBytesGood d := by
  unfold readFaceConfig FaceBytesGood
  rw [← readFaceKind_isSome]
  split
  next h =>
    rw [unusedByte_iff] at h
    exact iff_of_false (nomatch ·) (by omega)
  next h =>
    rw [unusedByte_iff, not_or] at h
    rw [Option.isSome_map]
    exact ⟨fun hk => ⟨h.1, h.2, hk⟩, fun ⟨_, _, hk⟩ => hk⟩

theorem readFaceConfig_some {d : List Byte} {c : FaceConfig} (h : readFaceConfig d = some c) :
    c.address = byteAt d 1 ∧ (∀ l : LegIx, c.glyphs[l] = byteAt d (7 + l.val)) ∧ readFaceKind d = some c.kind := by
  unfold readFaceConfig at h
  split at h
  next => exact nomatch h
  next =>
    obtain ⟨k, hk, rfl⟩ := Option.map_eq_some_iff.mp h
    exact ⟨rfl, fun l => tabulate_get _ l, hk⟩

/-- What a SIGN face holds. -/
theorem readFaceKind_sign_some {d : List Byte} {k : FaceKind} (h : (byteAt d 0).toNat = 1) (hk : readFaceKind d = some k) :
    ∃ mode muster, k = .sign (profileItems d 4 (max 1 (min 3 (byteAt d 3).toNat)) 15) mode muster
      ∧ muster.map (·.val) = profileItems d 28 (min 4 (byteAt d 27).toNat) 7
      ∧ ((byteAt d 2).toNat = 1 → ∃ ds, mode = .wayfind ds ∧ ds.map (·.val) = profileItems d 14 (min 4 (byteAt d 13).toNat) 63)
      ∧ ((byteAt d 2).toNat = 2 → if (byteAt d 18).toNat = 0 ∨ (byteAt d 18).toNat = 255 then mode = .programme .all else
          ∃ ds, mode = .programme (.only ds) ∧ ds.map (·.val) = profileItems d 19 (min 8 (byteAt d 18).toNat) 63) := by
  rw [readFaceKind_sign h] at hk
  obtain ⟨mode, hmode, rfl⟩ := Option.map_eq_some_iff.mp hk
  refine ⟨mode, _, rfl, readStations_val d _ _, fun h1 => ?_, fun h2 => ?_⟩
  · rw [readMode_wayfind h1] at hmode
    exact ⟨_, (Option.some.inj hmode).symm, readDests_val d _ _⟩
  · rw [readMode_programme h2] at hmode
    obtain rfl := Option.some.inj hmode
    unfold readVenues
    dsimp only
    split
    next hall => exact rfl
    next hsome => exact ⟨_, rfl, readDests_val d _ _⟩

/-- What a DOOR face holds. -/
theorem readFaceKind_door_some {d : List Byte} {k : FaceKind} (h : (byteAt d 0).toNat = 2) (hk : readFaceKind d = some k) :
    ∃ station, k = .door (min 15 (byteAt d 4).toNat) (if (wordAt d 14).toNat ≤ 4095 then (wordAt d 14).toNat else 0) station
      ∧ station.val = min 7 (byteAt d 16).toNat := by
  rw [readFaceKind_door h] at hk
  obtain rfl := Option.some.inj hk
  exact ⟨_, rfl, min_comm _ _⟩

/-! ### The faces in index order -/

/-- The 32 bytes of one face among the bytes of the faces (R223). -/
def faceBlock (b : List Byte) (i : Nat) : List Byte := (b.drop (32 * i)).take 32

theorem faceBlock_succ (b : List Byte) (i : Nat) : faceBlock b (i + 1) = faceBlock (b.drop 32) i := by
  unfold faceBlock
  rw [List.drop_drop, Nat.mul_succ, Nat.add_comm]

theorem byteAt_faceBlock (b : List Byte) (i : Nat) {k : Nat} (h : k < 32) : byteAt (faceBlock b i) k = byteAt b (32 * i + k) := by
  unfold faceBlock
  rw [byteAt_take h, byteAt_drop]

/-- A face's place in the list of the faces; none for a disabled face. -/
def faceIn (faces : List (Option FaceConfig)) (i : Nat) : Option FaceConfig := faces[i]?.getD none

@[simp] theorem faceIn_zero (x : Option FaceConfig) (l : List (Option FaceConfig)) : faceIn (x :: l) 0 = x := rfl

@[simp] theorem faceIn_succ (x : Option FaceConfig) (l : List (Option FaceConfig)) (i : Nat) : faceIn (x :: l) (i + 1) = faceIn l i := rfl

/-- No face before place i has this address. -/
def AddressFree (faces : List (Option FaceConfig)) (i : Nat) (a : Byte) : Prop :=
  ∀ j < i, ∀ c, faceIn faces j = some c → c.address ≠ a

@[simp] theorem addressFree_zero (faces : List (Option FaceConfig)) (a : Byte) : AddressFree faces 0 a :=
  fun _ h => absurd h (Nat.not_lt_zero _)

theorem addressFree_cons (x : Option FaceConfig) (l : List (Option FaceConfig)) (i : Nat) (a : Byte) :
    AddressFree (x :: l) (i + 1) a ↔ (∀ c, x = some c → c.address ≠ a) ∧ AddressFree l i a := by
  refine ⟨fun h => ⟨h 0 (Nat.succ_pos i), fun j hj => h (j + 1) (Nat.succ_lt_succ hj)⟩, fun ⟨h0, hs⟩ j hj => ?_⟩
  cases j with
  | zero => exact h0
  | succ j => exact hs j (Nat.lt_of_succ_lt_succ hj)

/-- Where the faces before it leave its address free, a face is as its bytes give it; else it is disabled (R224). -/
theorem readFaces_at (n : Nat) : ∀ (used : List Byte) (b : List Byte) (i : Nat) (c : FaceConfig), i < n →
    (faceIn (readFaces used n b) i = some c ↔
      readFaceConfig (faceBlock b i) = some c ∧ c.address ∉ used ∧ AddressFree (readFaces used n b) i c.address) := by
  induction n with
  | zero => exact fun _ _ _ _ h => absurd h (Nat.not_lt_zero _)
  | succ n ih =>
    intro used b i c hi
    have hhead : faceBlock b 0 = b.take 32 := rfl
    unfold readFaces
    split
    next c0 hc0 =>
      split
      next hused =>
        cases i with
        | zero =>
          rw [hhead, hc0, faceIn_zero]
          refine iff_of_false (nomatch ·) fun ⟨heq, hfree, _⟩ => hfree ?_
          obtain rfl := Option.some.inj heq
          exact List.contains_iff_mem.mp hused
        | succ i =>
          rw [faceIn_succ, ih used (b.drop 32) i c (Nat.lt_of_succ_lt_succ hi), faceBlock_succ, addressFree_cons]
          exact and_congr_right' (and_congr_right' ⟨fun h => ⟨fun _ h => (nomatch h), h⟩, And.right⟩)
      next hfresh =>
        cases i with
        | zero =>
          rw [hhead, hc0, faceIn_zero]
          refine ⟨fun heq => ⟨heq, ?_, addressFree_zero _ _⟩, And.left⟩
          obtain rfl := Option.some.inj heq
          exact fun hmem => hfresh (List.contains_iff_mem.mpr hmem)
        | succ i =>
          rw [faceIn_succ, ih (c0.address :: used) (b.drop 32) i c (Nat.lt_of_succ_lt_succ hi), faceBlock_succ, addressFree_cons,
            List.mem_cons, not_or]
          constructor
          · rintro ⟨hcfg, ⟨hne, hmem⟩, hfree⟩
            exact ⟨hcfg, hmem, fun c' hc' => Option.some.inj hc' ▸ Ne.symm hne, hfree⟩
          · rintro ⟨hcfg, hmem, hne, hfree⟩
            exact ⟨hcfg, ⟨Ne.symm (hne c0 rfl), hmem⟩, hfree⟩
    next hnone =>
      cases i with
      | zero =>
        rw [hhead, hnone, faceIn_zero]
        exact iff_of_false (nomatch ·) (fun ⟨h, _⟩ => nomatch h)
      | succ i =>
        rw [faceIn_succ, ih used (b.drop 32) i c (Nat.lt_of_succ_lt_succ hi), faceBlock_succ, addressFree_cons]
        exact and_congr_right' (and_congr_right' ⟨fun h => ⟨fun _ h => (nomatch h), h⟩, And.right⟩)

/-! ### The installed faces -/

/-- The 32 bytes of one face among the bytes of the profile (R223). -/
def faceBytes (b : List Byte) (f : FaceIx) : List Byte := faceBlock (b.drop 96) f.val

theorem byteAt_faceBytes (b : List Byte) (f : FaceIx) {k : Nat} (h : k < 32) :
    byteAt (faceBytes b f) k = byteAt b (96 + 32 * f.val + k) := by
  unfold faceBytes
  rw [byteAt_faceBlock _ _ h, byteAt_drop, Nat.add_assoc]

theorem wordAt_faceBytes (b : List Byte) (f : FaceIx) {k : Nat} (h : k + 1 < 32) :
    wordAt (faceBytes b f) k = wordAt b (96 + 32 * f.val + k) := by
  unfold wordAt
  rw [byteAt_faceBytes b f h, byteAt_faceBytes b f (Nat.lt_of_succ_lt h)]
  rfl

theorem profileItems_faceBytes (b : List Byte) (f : FaceIx) {k count : Nat} (high : Nat) (h : k + count ≤ 32) :
    profileItems (faceBytes b f) k count high = profileItems b (96 + 32 * f.val + k) count high :=
  List.map_congr_left fun i hi => by
    rw [byteAt_faceBytes b f (by have := List.mem_range.mp hi; omega), Nat.add_assoc _ k i]

theorem readProfile_faces (b : List Byte) (f : FaceIx) :
    (readProfile b).faces[f] = faceIn (readFaces [] 32 (b.drop 96)) f.val :=
  tabulate_get _ f

/-- A lower enabled face has this address. -/
def FaceTwin (b : List Byte) (f : FaceIx) (a : Byte) : Prop :=
  ∃ (g : FaceIx) (c : FaceConfig), g < f ∧ (readProfile b).faces[g] = some c ∧ c.address = a

theorem addressFree_iff (b : List Byte) (f : FaceIx) (a : Byte) :
    AddressFree (readFaces [] 32 (b.drop 96)) f.val a ↔ ¬ FaceTwin b f a := by
  constructor
  · rintro h ⟨g, c, hg, hc, ha⟩
    rw [readProfile_faces] at hc
    exact h g.val hg c hc ha
  · intro h j hj c hc ha
    have hj32 : j < 32 := hj.trans f.isLt
    refine h ⟨⟨j, hj32⟩, c, hj, ?_, ha⟩
    rw [readProfile_faces]
    exact hc

theorem readProfile_face_some_iff (b : List Byte) (f : FaceIx) (c : FaceConfig) :
    (readProfile b).faces[f] = some c ↔ readFaceConfig (faceBytes b f) = some c ∧ ¬ FaceTwin b f c.address := by
  rw [readProfile_faces, readFaces_at 32 [] (b.drop 96) f.val c f.isLt, addressFree_iff]
  exact and_congr_right' (and_iff_right List.not_mem_nil)

theorem readProfile_face_isSome_iff (b : List Byte) (f : FaceIx) :
    (readProfile b).faces[f].isSome = true ↔ FaceBytesGood (faceBytes b f) ∧ ¬ FaceTwin b f (byteAt (faceBytes b f) 1) := by
  rw [Option.isSome_iff_exists, ← readFaceConfig_isSome]
  constructor
  · rintro ⟨c, hc⟩
    obtain ⟨hcfg, htwin⟩ := (readProfile_face_some_iff b f c).mp hc
    obtain ⟨haddr, _, _⟩ := readFaceConfig_some hcfg
    exact ⟨Option.isSome_iff_exists.mpr ⟨c, hcfg⟩, haddr ▸ htwin⟩
  · rintro ⟨hsome, htwin⟩
    obtain ⟨c, hcfg⟩ := Option.isSome_iff_exists.mp hsome
    obtain ⟨haddr, _, _⟩ := readFaceConfig_some hcfg
    exact ⟨c, (readProfile_face_some_iff b f c).mpr ⟨hcfg, haddr ▸ htwin⟩⟩

/-! ### The obligation -/

/-- The seven bytes of a leg among the bytes of the profile (R223). -/
theorem legPart_bytes (b : List Byte) (l : LegIx) :
    byteAt (b.drop (50 + 7 * l.val)) 0 = byteAt b (50 + 7 * l.val) ∧ byteAt (b.drop (50 + 7 * l.val)) 1 = byteAt b (50 + 7 * l.val + 1)
      ∧ byteAt (b.drop (50 + 7 * l.val)) 2 = byteAt b (50 + 7 * l.val + 2)
      ∧ byteAt (b.drop (50 + 7 * l.val)) 3 = byteAt b (50 + 7 * l.val + 3)
      ∧ wordAt (b.drop (50 + 7 * l.val)) 4 = wordAt b (50 + 7 * l.val + 4)
      ∧ byteAt (b.drop (50 + 7 * l.val)) 6 = byteAt b (50 + 7 * l.val + 6) :=
  ⟨byteAt_drop b _ 0, byteAt_drop b _ 1, byteAt_drop b _ 2, byteAt_drop b _ 3,
    congrArg₂ (· ++ ·) (byteAt_drop b _ 4) (byteAt_drop b _ 5), byteAt_drop b _ 6⟩

/-- The anchors as the statement reads them. -/
theorem readAnchors_eq {b : List Byte} (hb : b.length = 2048) :
    readAnchors b = (List.range (min 16 (b[17]?.getD 0).toNat)).map
      (fun j => ((b[18 + 2 * j]?.getD 0).toNat, (b[19 + 2 * j]?.getD 0).toNat)) := by
  unfold readAnchors
  rw [getD_eq_byteAt hb (by omega)]
  refine List.map_congr_left fun j hj => ?_
  have hlt := List.mem_range.mp hj
  rw [getD_eq_byteAt hb (by omega), getD_eq_byteAt hb (by omega)]

/-- Settles O59: each field at its position, the legs and faces by their own bytes, the twins by induction over the faces read. -/
theorem profileFieldsAndRanges : Obligations.ProfileFieldsAndRanges := by
  unfold Obligations.ProfileFieldsAndRanges
  intro b hb
  dsimp only
  have hbyte : ∀ {k : Nat}, k < 2048 → b[k]?.getD 0 = byteAt b k := getD_eq_byteAt hb
  refine ⟨?_, fun l => ?_, fun f => ?_⟩
  · refine ⟨?_, ?_, ?_, ?_, ?_, ?_, ?_, ?_, ?_, ?_, ?_, readAnchors_eq hb⟩
    all_goals simp (disch := omega) only [hbyte, ← wordAt_toNat]
    all_goals rfl
  · have hl : l.val < 6 := l.isLt
    rw [readProfile_legs]
    simp (disch := omega) only [hbyte, ← wordAt_toNat, natByte_of_toNat]
    obtain ⟨h0, h1, h2, h3, h4, h6⟩ := legPart_bytes b l
    rw [← h0, ← h1, ← h2, ← h3, ← h4, ← h6]
    exact ⟨readLegConfig_bad, fun kind hgood hkind => readLegConfig_good hgood hkind⟩
  · have hf : f.val < 32 := f.isLt
    have hitems : ∀ {k count high : Nat}, k + count ≤ 2048 →
        (List.range count).map (fun i => min high (b[k + i]?.getD 0).toNat) = profileItems b k count high :=
      items_eq_profileItems hb
    simp (disch := omega) only [hitems, hbyte, ← wordAt_toNat]
    have hhead : byteAt b (96 + 32 * f.val) = byteAt (faceBytes b f) 0 := (byteAt_faceBytes b f (k := 0) (by omega)).symm
    have hface : ∀ {k : Nat}, k < 32 → byteAt b (96 + 32 * f.val + k) = byteAt (faceBytes b f) k :=
      fun h => (byteAt_faceBytes b f h).symm
    have hglyph : ∀ l : LegIx, byteAt b (96 + 32 * f.val + 7 + l.val) = byteAt (faceBytes b f) (7 + l.val) := fun l => by
      rw [byteAt_faceBytes b f (by omega), Nat.add_assoc _ 7]
    have hpart : ∀ {k count high : Nat}, k + count ≤ 32 →
        profileItems b (96 + 32 * f.val + k) count high = profileItems (faceBytes b f) k count high :=
      fun h => (profileItems_faceBytes b f _ h).symm
    have hpage : wordAt b (96 + 32 * f.val + 14) = wordAt (faceBytes b f) 14 := (wordAt_faceBytes b f (by omega)).symm
    simp (disch := omega) only [hglyph, hhead, hface, hpart, hpage, BitVec.toNat_inj]
    refine ⟨readProfile_face_isSome_iff b f, fun c hc => ?_⟩
    obtain ⟨hcfg, _⟩ := (readProfile_face_some_iff b f c).mp hc
    obtain ⟨haddr, hglyphs, hkind⟩ := readFaceConfig_some hcfg
    exact ⟨haddr, hglyphs, fun h => readFaceKind_sign_some h hkind, fun h => readFaceKind_door_some h hkind⟩

end Sys2Proof.Machine
end
